-- ==== Sys2Proof/Word.lean ====
section
/-! DEFINITION. The words of the Gajmor FR7: bytes of the module port and of a frame body, bin and station
identities, report sequences, priority keys. Only what the manual treats as bits is a bit vector. -/

namespace Sys2Proof

/-- One byte of the module port or of a frame body. -/
abbrev Byte := BitVec 8

/-- A bin id or a station id: 8 bits of district above 16 bits of number (00_scope, "Identities"). -/
abbrev BinId := BitVec 24

/-- A report sequence, 0 to 65535, compared in serial order (R47). -/
abbrev Seq := BitVec 16

/-- A priority key; the lower key wins the field (R25, R35 to R37). -/
abbrev Key := BitVec 16

/-- A set of the eight notice flags, placed as the bit column of R180. -/
abbrev FlagSet := BitVec 8

/-- A report's class, 0 OVERFLOW, 1 IMMINENT, 2 DUE, 3 ROUTINE; the smaller is the more urgent (R41). -/
abbrev Urgency := Fin 4

end Sys2Proof
end

