-- ==== Sys2Proof/Syntax.lean ====
section
/-! DEFINITION. The commands the FR7 takes, one constructor per row of spec/opcode_table.json.

A port command carries its argument bytes as the module processor sends them (the count byte is their number,
R168). A channel event carries what the engine reads from CARRIER or RXD at that event. A timer event carries
nothing: it is the moment at which the timer runs out. -/

namespace Sys2Proof

/-- What has been clocked out in a result phase when SEL rises: how many busy bytes before the result code was ready
(R169), and how many bytes behind them, which are the result bytes and then bytes of 0x00 (R168). -/
structure Clocked where
  busy : Nat
  bytes : Nat
  deriving DecidableEq, Repr

/-- Where SEL rises in a transaction (R171): in one of three places before its effect point, which abandon it, or after
it. -/
inductive Abandon where
  /-- During byte 1: no byte has been fully taken. -/
  | inCode
  /-- During byte 2: the command code has been taken. -/
  | inCount (code : Byte)
  /-- After the count byte, with fewer argument bytes taken than the count gives. -/
  | inArgs (code count : Byte) (taken : List Byte)
  /-- After the effect point, with `clocked` out since: busy bytes, result bytes, and behind the last of them 0x00.
  What the same rise does to an export in hand is a row of its own, EXPORT_CUT_SHORT or EXPORT_NEXT_COMPLETION. -/
  | afterEffect (clocked : Clocked)
  deriving DecidableEq, Repr

/-- The commands and events of the part, in the order of spec/opcode_table.json. -/
inductive Instr where
  /-- READ_STATUS, code 0x10 (R185). -/
  | readStatus (args : List Byte)
  /-- START, code 0x20 (R175 to R177). -/
  | start (args : List Byte)
  /-- RESTART, code 0x21 (R178, R21). `sentBits` is how many bits of the frame on air had gone onto the channel
  when the command took effect, the one in progress among them; it matters in SENDING only. -/
  | restart (args : List Byte) (sentBits : Nat)
  /-- REJOIN, code 0x22 (R147). -/
  | rejoin (args : List Byte)
  /-- POST_SAMPLE, code 0x30 (R56). -/
  | postSample (args : List Byte)
  /-- READ_OWN, code 0x31 (R76). -/
  | readOwn (args : List Byte)
  /-- READ_ENTRY, code 0x40 (R96). -/
  | readEntry (args : List Byte)
  /-- READ_SLOT, code 0x41 (R97). -/
  | readSlot (args : List Byte)
  /-- SOLICIT, code 0x50 (R163). -/
  | solicit (args : List Byte)
  /-- EXPORT_NEXT, code 0x51, up to its effect point (R157). -/
  | exportNext (args : List Byte)
  /-- SEL rises after the last result byte of an EXPORT_NEXT (R158). -/
  | exportNextCompletion
  /-- SEL rises among the busy or the result bytes of an EXPORT_NEXT, with `clocked` out, before the last result byte
  (R160, R171). -/
  | exportCutShort (clocked : Clocked)
  /-- CLEAR_NOTICES, code 0x60 (R182). -/
  | clearNotices (args : List Byte)
  /-- SET_NOTICE_MASK, code 0x61 (R183). -/
  | setNoticeMask (args : List Byte)
  /-- A transaction whose code is not one of the twelve (R172). -/
  | unknownCommand (code : Byte) (args : List Byte)
  /-- SEL rises before the effect point, or after it in a transaction that no other row ends (R171). -/
  | transactionAbandoned (place : Abandon)
  /-- Power-up, or RESETN held low (R179). -/
  | hardReset
  /-- RESETN rises (R179). -/
  | resetRelease
  /-- 5 ms after RESETN rose (R179). -/
  | portReady
  /-- One second of the station clock (R80). -/
  | stationClockTick
  /-- The clock has reached a multiple of 60 (R80). -/
  | minuteBoundary
  /-- The refill count has reached the refill interval (R131). -/
  | allowanceRefill
  /-- The probe timer has reached 0 in MUTE (R148). -/
  | probeTimerExpiry
  /-- The listen timer expires in DOZE (R4). -/
  | listenTimerExpiry
  /-- CARRIER is seen high in the sample window (R5). -/
  | sampleCarrierSeen
  /-- The sample window ends without carrier (R5). -/
  | sampleWindowEnd
  /-- The linger timer runs out (R6). -/
  | lingerExpiry
  /-- CARRIER rises (R7). -/
  | carrierRise
  /-- The plain-carrier time reaches 20 ms (R7). -/
  | preambleRecognised
  /-- CARRIER falls (R7). -/
  | carrierFall
  /-- The idle-gap measure reaches the gap the standing requires (R8). -/
  | idleGapReached
  /-- The engine's own preamble ends with CARRIER at the given level (R9). -/
  | wakeLengthEnd (carrier : Bool)
  /-- CARRIER falls in the wait after the own preamble (R9). -/
  | wakingCarrierFall
  /-- The 2200 ms cap of that wait is reached (R9). -/
  | wakingCap
  /-- One slot of the field; `carrier` is whether CARRIER was seen high in the slot's listen window (R24, R25). -/
  | fieldSlot (carrier : Bool)
  /-- Carrier is first seen in the slot being listened in (R25, R26). -/
  | contentionLost
  /-- 17 ms after the field began (R28, R29). -/
  | fieldEnd
  /-- The closing mark has been sent (R12). -/
  | closingMarkSent
  /-- The bits read from RXD in the mark hunt end in the opening mark (R11). -/
  | openingMarkFound (rxd : List Bool)
  /-- The 5 ms mark wait ends with no mark; `carrier` is the level of CARRIER then (R11). -/
  | markWaitExpiry (carrier : Bool)
  /-- The bits after the opening mark, up to the end of the closing mark, make a good frame (R17).
  `monitorFirst` says which of the two orders of R144 is taken: the monitor before the echo decision, or after. -/
  | goodFrame (rxd : List Bool) (monitorFirst : Bool)
  /-- The bits after the opening mark make a bad frame, or end in a carrier fall; `carrier` is the level of
  CARRIER when the frame is found bad (R18). -/
  | badFrame (rxd : List Bool) (carrier : Bool)
  /-- The echo slot after a good frame ends with CARRIER at the given level (R19). -/
  | echoSlotEnd (carrier : Bool)
  /-- The echo slot after the own frame ends: `echo` is whether CARRIER was seen high in it, `carrier` the level
  at its end, `monitorFirst` which of the two orders of R136 is taken (R20). -/
  | awaitEchoEnd (echo carrier monitorFirst : Bool)
  /-- The abort tail ends (R177). -/
  | abortTailEnd
  /-- The merge unit applies the next part of the merging frame (R106). -/
  | mergeStep
  /-- RXD changes level (R7). -/
  | rxdLevelChange
  deriving DecidableEq, Repr

end Sys2Proof
end

