-- ==== Sys2Proof/Decode.lean ====
section
/-! DEFINITION. The commands that a word spells by the bits of spec/opcode_table.json. No row of this table gives
any bits (every row's "fields" is empty and none has "fixed"), so no word spells a command. The bytes that the
module port and the channel carry are read in Machine/Operands.lean and Machine/Frame.lean. -/

namespace Sys2Proof

/-- The command that `nbits` bits of value `w` spell: none, since no row of the table gives bits. -/
def decodeTableWord (_nbits _w : Nat) : Option Instr := none

end Sys2Proof
end

