-- ==== Sys2Proof/Config.lean ====
section
/-! DEFINITION. The constants the manual fixes for every FR7. The manual leaves no VALUE open: what it leaves open
is the order in which two blocks take one event, and that order is an operand of the two commands it concerns
(notes/assumptions/4.md), so this file declares no opaque constant. -/

namespace Sys2Proof.Config

/-- The largest value of the station clock (R80). -/
def clockMax : Nat := 4294967295

/-- The ends of the 16-bit and the 32-bit saturating counts (R185). -/
def count16Max : Nat := 65535
def count32Max : Nat := 4294967295

/-- The idle gap required in ACTIVE, and in QUIET and MUTE, in ms (R8). -/
def activeGap : Nat := 8
def quietGap : Nat := 48

/-- The plain-carrier time that is a recognised preamble, in ms (R7). -/
def preambleTime : Nat := 20

/-- The number of slots of a contention field, and the number of the kind slot (R10). -/
def fieldSlots : Nat := 17
def kindSlot : Nat := 16

/-- The number of carry-table positions (R82). -/
def positions : Nat := 128

/-- The largest age in minutes, and the largest hops (R81, R83). -/
def ageMax : Nat := 4095
def hopsMax : Nat := 15

/-- The end of the heard, send and drain-item send counts (R87, R153). -/
def smallCountMax : Nat := 7

/-- The most entries of a FILL frame and the most items of a DRAIN frame and of the drain list (R39, R153). -/
def fillMax : Nat := 5
def drainMax : Nat := 8

/-- The longest and the shortest body a receiver takes, in bytes (R15). -/
def bodyMax : Nat := 86
def bodyMin : Nat := 6

/-- The send-failure count at which MUTE is entered, its step up, and the count an echoed probe leaves
(R142, R145, R149). -/
def muteCount : Nat := 256
def unechoedStep : Nat := 8
def probeEchoedCount : Nat := 128

/-- The largest count of ACTIVE standing, the reset value of the reception-fault count, and its end
(R143, R144). -/
def quietThreshold : Nat := 127
def faultResetCount : Nat := 120
def faultCountMax : Nat := 255

/-- The good frames that complete recovery (R146). -/
def recoveryGoal : Nat := 128

/-- The range limit of a sample in mm, the fall of level that is an emptying in per mille, and the shortest
interval of a rate step in s (R56, R63, R66). -/
def rangeMax : Nat := 4000
def emptyingFall : Nat := 250
def rateInterval : Nat := 60

/-- "Not filling" (R67). -/
def notFilling : Nat := 65535

/-- The length of the configuration record in bytes (R175). -/
def recordBytes : Nat := 43

end Sys2Proof.Config
end

