-- ==== Sys2Proof/Machine/State.lean ====
section
/-! DEFINITION. Everything the manual gives the part, as plain data, block by block, and the state right after hard
reset. INVENTORY.md lists each piece with the rule that names it. -/

namespace Sys2Proof.Machine

/-- What stops the part. The manual names no event that stops it, so there is no constructor: no meaning faults. -/
inductive Fault where
  deriving DecidableEq, Repr

/-- Why a command is refused. -/
inductive Refusal where
  /-- Raised by an arm of exec that has no meaning yet; no arm of this model is one. Safe: nothing is claimed of
  such a command. -/
  | notModelled (mnemonic : String)
  deriving DecidableEq, Repr

/-! ### Reports, entries and frames -/

/-- The role a station is started in (R175). -/
inductive Role where
  | bin
  | gateway
  deriving DecidableEq, Repr

/-- The kind of a bin (R41). -/
inductive BinKind where
  | litter
  | glass
  | underground
  | compacting
  deriving DecidableEq, Repr

/-- A report as its bin issued it: the fields of R41 apart from age and hops. SINCE is set exactly when the
since-emptied value is present (R42), so it has no field of its own. -/
structure Report where
  binId : BinId
  seq : Seq
  kind : BinKind
  cls : Urgency
  overfull : Bool
  emptied : Bool
  fault : Bool
  level : Nat
  rate : Nat
  ttf : Nat
  since : Option Nat
  deriving DecidableEq, Repr

/-- Why an entry is held (R84). -/
inductive Origin where
  | own
  | home
  | passing
  deriving DecidableEq, Repr

/-- What the station owes for an entry (R86). -/
inductive Owing where
  | owed
  | held
  | drained
  deriving DecidableEq, Repr

/-- Which frame slot holds an entry (R87). -/
inductive Placement where
  | unplaced
  | build
  | stage
  deriving DecidableEq, Repr

/-- An occupied carry-table position (R83). -/
structure Entry where
  position : Nat
  report : Report
  rxAge : Nat
  rxTime : Nat
  hops : Nat
  origin : Origin
  owing : Owing
  placed : Placement
  heard : Nat
  sent : Nat
  exported : Bool
  deriving DecidableEq, Repr

/-- A frozen copy of an entry in a frame record: the report part, and the origin that its exemption is read from
(R122, R123). -/
structure Frozen where
  report : Report
  rxAge : Nat
  rxTime : Nat
  hops : Nat
  origin : Origin
  deriving DecidableEq, Repr

/-- The target of a SOLICIT frame (R45). -/
structure Target where
  binId : BinId
  mask : BinId
  maxClass : Urgency
  deriving DecidableEq, Repr

/-- What a frame record of the send selector holds besides its key (R122). The references of a FILL frame are the
bin ids and sequences of its frozen copies (FrameRec.refs). -/
inductive Payload where
  | fill (entries : List Frozen) (probe : Bool)
  | drain (items : List (BinId × Seq))
  /-- `serial` is the mark of which pending solicit the frame carries. -/
  | solicit (target : Target) (serial : Nat)
  deriving DecidableEq, Repr

/-- A frame record (R122). -/
structure FrameRec where
  key : Key
  payload : Payload
  deriving DecidableEq, Repr

/-- The condition of a frame in STAGE (R122). -/
inductive StageCond where
  | staged
  | committed
  | sending
  deriving DecidableEq, Repr

/-- A frame in STAGE. -/
structure StageSlot where
  frame : FrameRec
  cond : StageCond
  deriving DecidableEq, Repr

/-- A report entry of a received frame, with its malformed mark (R52). -/
structure RxEntry where
  report : Report
  age : Nat
  hops : Nat
  malformed : Bool
  deriving DecidableEq, Repr

/-- A drain item of a received frame, with its malformed mark (R46, R52). -/
structure RxItem where
  binId : BinId
  seq : Seq
  malformed : Bool
  deriving DecidableEq, Repr

/-- The parts of a received frame. -/
inductive RxParts where
  | fill (entries : List RxEntry)
  | solicit (target : Target)
  | drain (items : List RxItem)
  deriving DecidableEq, Repr

/-- A received frame record (R52). -/
structure RxFrame where
  sender : BinId
  rxTime : Nat
  parts : RxParts
  deriving DecidableEq, Repr

/-! ### Channel engine -/

/-- The ten states of the channel engine (R2). -/
inductive EngineState where
  | off
  | doze
  | sample
  | awake
  | waking
  | field
  | receiving
  | echoing
  | sending
  | awaitEcho
  deriving DecidableEq, Repr

/-- The carrier watch (R7): whether it runs, the plain-carrier time as last reached, in ms, and the
preamble-recognised mark. -/
structure CarrierWatch where
  running : Bool
  plain : Nat
  recognised : Bool
  deriving DecidableEq, Repr

/-- A station's part in the field it is in (R23, R29). -/
inductive FieldPart where
  | listener
  /-- Still contending with this key; `fill` is whether the committed frame is a FILL frame. -/
  | contender (key : Key) (fill : Bool)
  | lost
  deriving DecidableEq, Repr

/-- The frame on air (R2). For a frame being sent, `units` holds the channel bits in order, one list for each mark,
for each body byte with its stuffed bits, and for the closing pad. For a frame being taken, `units` is empty and
the run count, CRC register and byte count are those at the opening mark. -/
structure OnAir where
  units : List (List Bool)
  runBit : Bool
  run : Nat
  crc : BitVec 16
  bytes : Nat
  deriving DecidableEq, Repr

/-- The channel engine and its five lines (R1, R2). -/
structure Engine where
  state : EngineState
  /-- The listen timer: the period it was set to, while it runs (R4). -/
  listen : Option Nat
  /-- The linger timer: the linger it was set to, while it runs (R6). -/
  linger : Option Nat
  lingerExpired : Bool
  watch : CarrierWatch
  /-- The idle-gap measure as last reached, in ms (R8). -/
  idleGap : Nat
  onAir : Option OnAir
  /-- The kind-slot observation: whether CARRIER was high in slot 16 (R27). -/
  kindObs : Option Bool
  /-- The slots of the current field that have begun, 0 to 17 (R22). -/
  slot : Nat
  part : FieldPart
  /-- The bits of the abort tail still to be sent, empty when none is (R21). -/
  tail : List Bool
  heard : Nat
  sent : Nat
  lost : Nat
  radioEn : Bool
  key : Bool
  /-- The level the manual gives TXD: 0 in reset and in a burst of plain carrier; none where it gives no one level,
  which is while nothing is keyed and while TXD follows the bits of `onAir` or `tail`. -/
  txd : Option Bool
  /-- The level of CARRIER as last read. -/
  carrier : Bool
  rxd : Bool
  deriving DecidableEq, Repr

/-! ### Receive pair, estimator, selector, monitor, gateway unit, module port -/

/-- The MERGING buffer with the merge unit's cursor (R102, R105). -/
structure Merging where
  frame : RxFrame
  cursor : Nat
  deriving DecidableEq, Repr

/-- The receive pair (R102): idle, merging, or merging with one waiting. -/
structure ReceivePair where
  merging : Option Merging
  waiting : Option RxFrame
  overrun : Nat
  clash : Nat
  deriving DecidableEq, Repr

/-- The results of the last admitted sample (R55). -/
structure Figures where
  range : Nat
  level : Nat
  overfull : Bool
  ttf : Nat
  cls : Urgency
  deriving DecidableEq, Repr

/-- The last own report issued (R55). -/
structure LastReport where
  level : Nat
  cls : Urgency
  second : Nat
  fault : Bool
  deriving DecidableEq, Repr

/-- The fill estimator (R55). -/
structure Estimator where
  /-- The sample window, oldest range first. -/
  window : List Nat
  faultRun : Nat
  faultState : Bool
  figures : Option Figures
  rate : Nat
  seeded : Bool
  /-- The rate anchor: a level and the second it was taken. -/
  anchor : Option (Nat × Nat)
  emptiedAt : Option Nat
  sampleSince : Bool
  lastReport : Option LastReport
  nextSeq : Seq
  lidHeld : Nat
  deriving DecidableEq, Repr

/-- The send selector (R122, R131). -/
structure Selector where
  build : Option FrameRec
  stage : Option StageSlot
  allowance : Nat
  refillCount : Nat
  deriving DecidableEq, Repr

/-- A station's right to use the channel (R141). -/
inductive Standing where
  | active
  | quiet
  | mute
  deriving DecidableEq, Repr

/-- The standing monitor (R141). -/
structure Monitor where
  sendFailure : Nat
  receptionFault : Nat
  standing : Standing
  recovery : Nat
  armed : Bool
  probeTimer : Nat
  deriving DecidableEq, Repr

/-- An item of the drain list (R153). -/
structure DrainItem where
  binId : BinId
  seq : Seq
  sent : Nat
  deriving DecidableEq, Repr

/-- The pending solicit (R153). `serial` tells it from every other pending solicit. -/
structure PendingSolicit where
  binId : BinId
  mask : BinId
  maxClass : Nat
  sent : Nat
  serial : Nat
  deriving DecidableEq, Repr

/-- The gateway unit (R153). -/
structure Gateway where
  queue : List BinId
  inHand : Option (BinId × Seq)
  drainList : List DrainItem
  solicit : Option PendingSolicit
  drainDrop : Nat
  /-- The model's own: the serial the next pending solicit takes (R153, "a solicitation of its own"). -/
  nextSerial : Nat
  deriving DecidableEq, Repr

/-- The module port (R168, R179 to R183). -/
structure Port where
  flags : FlagSet
  mask : FlagSet
  /-- The level of RESETN. -/
  resetn : Bool
  /-- 5 ms have passed since RESETN rose (R179). -/
  ready : Bool
  /-- The bytes of the last transaction on SDO, from the sync byte on: those returned, busy bytes among them, and
  while the result phase is open the result bytes still to be clocked out; empty when SDO stayed high-impedance. -/
  sdo : List Byte
  /-- From a command's effect point to the rise of SEL: how many bytes of `sdo` stand before the result phase
  (R168; the model's own field, notes/assumptions/3.md). -/
  resultAt : Option Nat
  deriving DecidableEq, Repr

/-- The held configuration: the record of R175 with its clamps and defaults applied (R174, R176). -/
structure HeldConfig where
  role : Role
  stationId : BinId
  kindCode : Nat
  emptyDist : Nat
  fullDist : Nat
  dueLevel : Nat
  imminentHorizon : Nat
  dueHorizon : Nat
  reportDelta : Nat
  heartbeat : Nat
  startSeq : Seq
  listenPeriod : Nat
  wakeLength : Nat
  linger : Nat
  ageLimit : Nat
  hopLimit : Nat
  suppressCount : Nat
  sendLimit : Nat
  capacity : Nat
  refillInterval : Nat
  filterId : BinId
  filterMask : BinId
  invert : Bool
  passingCarry : Bool
  homeGuard : Bool
  autoRejoin : Bool
  probeInterval : Nat
  deriving DecidableEq, Repr

/-- The part. -/
structure State where
  /-- The commands waiting, first in, first out. -/
  pending : List Instr
  /-- Station life: RUNNING or UNCONFIGURED (R174). -/
  running : Bool
  config : Option HeldConfig
  /-- The station clock (R80). -/
  clock : Nat
  /-- The model's own: the clock has reached a multiple of 60 and the boundary has not been taken yet (R80). -/
  boundaryDue : Bool
  eng : Engine
  pair : ReceivePair
  /-- The carry table: its occupied positions, in rising order of position; a position not listed is FREE (R82). -/
  table : List Entry
  refusals : Nat
  est : Estimator
  sel : Selector
  mon : Monitor
  gw : Gateway
  port : Port
  deriving DecidableEq, Repr

/-! ### The values of hard reset -/

/-- The carrier watch cleared. -/
def CarrierWatch.clear : CarrierWatch := { running := false, plain := 0, recognised := false }

/-- The engine at hard reset: OFF, every radio line low, the counters 0 (R1, R2). -/
def Engine.reset : Engine :=
  { state := .off, listen := none, linger := none, lingerExpired := false, watch := .clear, idleGap := 0,
    onAir := none, kindObs := none, slot := 0, part := .listener, tail := [], heard := 0, sent := 0, lost := 0,
    radioEn := false, key := false, txd := some false, carrier := false, rxd := false }

/-- The receive pair at hard reset (R102, R104). -/
def ReceivePair.reset : ReceivePair := { merging := none, waiting := none, overrun := 0, clash := 0 }

/-- The estimator at hard reset: its cleared state (R78). -/
def Estimator.reset : Estimator :=
  { window := [], faultRun := 0, faultState := false, figures := none, rate := 0, seeded := false, anchor := none,
    emptiedAt := none, sampleSince := false, lastReport := none, nextSeq := 0, lidHeld := 0 }

/-- The selector at hard reset and RESTART (R140). -/
def Selector.reset : Selector := { build := none, stage := none, allowance := 0, refillCount := 0 }

/-- The monitor at hard reset and RESTART (R151). -/
def Monitor.reset : Monitor :=
  { sendFailure := 0, receptionFault := 0, standing := .active, recovery := 0, armed := false, probeTimer := 0 }

/-- The gateway unit at hard reset (R167). -/
def Gateway.reset : Gateway :=
  { queue := [], inHand := none, drainList := [], solicit := none, drainDrop := 0, nextSerial := 0 }

/-- The module port while RESETN is low (R179, R183). -/
def Port.reset : Port := { flags := 0, mask := 0, resetn := false, ready := false, sdo := [], resultAt := none }

/-- The part as power-up leaves it: held in hard reset, RESETN low, nothing waiting (R179). -/
def State.reset : State :=
  { pending := [], running := false, config := none, clock := 0, boundaryDue := false, eng := .reset, pair := .reset,
    table := [], refusals := 0, est := .reset, sel := .reset, mon := .reset, gw := .reset, port := .reset }

end Sys2Proof.Machine
end

