-- ==== Sys2Proof/Machine/Operands.lean ====
section
/-! DEFINITION. How operands are read and results written: multi-byte values, identities, serial order, masked
matches, the configuration record. -/

namespace Sys2Proof.Machine

/-! ### Bytes (00_scope, "Frames and records": most significant byte first) -/

/-- The value of a multi-byte field. -/
def ofBytes (bs : List Byte) : Nat := bs.foldl (fun v b => v * 256 + b.toNat) 0

/-- A value as `n` bytes; bits above them are dropped. -/
def toBytes : Nat → Nat → List Byte
  | 0, _ => []
  | n + 1, v => BitVec.ofNat 8 (v / 256 ^ n) :: toBytes n v

/-- The `len` bytes of a record at offset `off`, as a value. -/
def fieldAt (bs : List Byte) (off len : Nat) : Nat := ofBytes ((bs.drop off).take len)

/-- A mark in one byte: 1 when set. -/
def markByte (b : Bool) : Byte := if b then 1 else 0

/-! ### Identities (00_scope, "Identities") -/

/-- The 8-bit district of an identity. -/
def district (b : BinId) : Nat := b.toNat / 65536

/-- The 16-bit number of an identity. -/
def number (b : BinId) : Nat := b.toNat % 65536

/-- A valid bin id: district 1 to 254, number 0x0001 to 0xEFFF (R44). -/
def validBinId (b : BinId) : Bool :=
  decide (1 ≤ district b ∧ district b ≤ 254 ∧ 1 ≤ number b ∧ number b ≤ 0xEFFF)

/-- A valid gateway station id: district 1 to 254, number 0xF000 to 0xFFFE (R175). -/
def validGatewayId (b : BinId) : Bool :=
  decide (1 ≤ district b ∧ district b ≤ 254 ∧ 0xF000 ≤ number b ∧ number b ≤ 0xFFFE)

/-- The low 8 bits of a station id (R35). -/
def tieByte (b : BinId) : Nat := b.toNat % 256

/-- `b` agrees with `pattern` at every bit where `mask` holds 0 (R45, R85). -/
def maskedMatch (pattern mask b : BinId) : Bool := (b ^^^ pattern) &&& ~~~mask == 0

/-- `b` matches the target (R45). -/
def Target.selects (t : Target) (b : BinId) : Bool := maskedMatch t.binId t.mask b

/-! ### Serial order (R47, R48) -/

/-- The relation of one sequence to another. -/
inductive SerialOrder where
  | equal
  | newer
  | unordered
  | older
  deriving DecidableEq, Repr

/-- The relation of `a` to `b` by the distance d = (a − b) mod 65536 (R47). -/
def serial (a b : Seq) : SerialOrder :=
  let d := (a - b).toNat
  if d = 0 then .equal else if d < 32768 then .newer else if d = 32768 then .unordered else .older

/-- `a` is equal to or older than `b` (R48). -/
def equalOrOlder (a b : Seq) : Bool := serial a b == .equal || serial a b == .older

/-! ### Numbers -/

/-- One more, saturating at `max`. -/
def bump (max n : Nat) : Nat := min max (n + 1)

/-- The class that a number 0 to 3 names; a larger number is taken as 3 (R36, R45). -/
def urgencyOf (n : Nat) : Urgency := if h : n < 4 then ⟨n, h⟩ else 3

/-- The code of a bin kind (R41). -/
def BinKind.code : BinKind → Nat
  | .litter => 0
  | .glass => 1
  | .underground => 2
  | .compacting => 3

/-- The bin kind of a two-bit code (R41). -/
def kindOf (n : Nat) : BinKind :=
  match n % 4 with
  | 0 => .litter
  | 1 => .glass
  | 2 => .underground
  | _ => .compacting

/-! ### The configuration record (R175, R176) -/

/-- The fields of the record that R175 checks and the rest of it, as the 43 bytes give them. -/
structure RawRecord where
  role : Nat
  stationId : BinId
  bytes : List Byte
  deriving DecidableEq, Repr

/-- The record's role and station id read off; the other fields are read by their offsets. -/
def readRecord (bs : List Byte) : RawRecord :=
  { role := fieldAt bs 0 1, stationId := BitVec.ofNat 24 (fieldAt bs 1 3), bytes := bs }

/-- The number of the first refused field that fails its check (R175). -/
def RawRecord.refusedField (r : RawRecord) : Option Nat :=
  let kind := fieldAt r.bytes 4 1
  let e := fieldAt r.bytes 5 2
  let f := fieldAt r.bytes 7 2
  if r.role > 1 then some 1
  else if r.role = 0 then
    if validBinId r.stationId = false then some 2
    else if kind > 3 then some 3
    else if e < 200 ∨ 4000 < e then some 4
    else if f < 50 ∨ e < f + 100 then some 5
    else none
  else if validGatewayId r.stationId = false then some 2
  else none

/-- A field with a default and a range: the value applied, and whether the field is listed as adjusted (R176). -/
def clampField (dflt lo hi v : Nat) : Nat × Bool :=
  if v = 0 then (dflt, false)
  else if v < lo then (lo, true)
  else if hi < v then (hi, true)
  else (v, false)

/-- The listen period: 0 gives 1000, and any other value the nearest of the four, halfway going up (R176). -/
def listenField (v : Nat) : Nat × Bool :=
  if v = 0 then (1000, false)
  else
    let p := if v < 375 then 250 else if v < 750 then 500 else if v < 1500 then 1000 else 2000
    (p, decide (p ≠ v))

/-- A field of the other role is taken as it stands (R175, R176). -/
def onlyIf (applies : Bool) (field : Nat → Nat × Bool) (v : Nat) : Nat × Bool :=
  if applies then field v else (v, false)

/-- The held configuration an accepted record gives, and the numbers of its adjusted fields in field order
(R176). -/
def RawRecord.apply (r : RawRecord) : HeldConfig × List Nat :=
  let bs := r.bytes
  let bin := decide (r.role = 0)
  let due := onlyIf bin (clampField 750 500 990) (fieldAt bs 9 2)
  let h1 := onlyIf bin (clampField 240 30 1440) (fieldAt bs 11 2)
  let h2 := onlyIf bin (clampField 1440 h1.1 4320) (fieldAt bs 13 2)
  let delta := onlyIf bin (clampField 50 10 500) (fieldAt bs 15 2)
  let beat := onlyIf bin (clampField 360 60 1440) (fieldAt bs 17 2)
  let listen := onlyIf bin listenField (fieldAt bs 21 2)
  let wake := clampField 1020 270 2100 (fieldAt bs 23 2)
  let linger := onlyIf bin (clampField 2000 500 10000) (fieldAt bs 25 2)
  let age := clampField 720 30 4095 (fieldAt bs 27 2)
  let hop := onlyIf bin (clampField 6 1 15) (fieldAt bs 29 1)
  let suppress := onlyIf bin (clampField 2 1 7) (fieldAt bs 30 1)
  let send := clampField 3 1 7 (fieldAt bs 31 1)
  let capacity := onlyIf bin (clampField 12 1 60) (fieldAt bs 32 1)
  let refill := onlyIf bin (clampField 5 1 60) (fieldAt bs 33 1)
  let switches := BitVec.ofNat 8 (fieldAt bs 40 1)
  let probe := clampField 60 10 240 (fieldAt bs 41 1)
  let config : HeldConfig :=
    { role := if bin then .bin else .gateway, stationId := r.stationId, kindCode := fieldAt bs 4 1,
      emptyDist := fieldAt bs 5 2, fullDist := fieldAt bs 7 2, dueLevel := due.1, imminentHorizon := h1.1,
      dueHorizon := h2.1, reportDelta := delta.1, heartbeat := beat.1,
      startSeq := BitVec.ofNat 16 (fieldAt bs 19 2), listenPeriod := listen.1, wakeLength := wake.1,
      linger := linger.1, ageLimit := age.1, hopLimit := hop.1, suppressCount := suppress.1, sendLimit := send.1,
      capacity := capacity.1, refillInterval := refill.1, filterId := BitVec.ofNat 24 (fieldAt bs 34 3),
      filterMask := BitVec.ofNat 24 (fieldAt bs 37 3), invert := switches.getLsbD 3,
      passingCarry := !switches.getLsbD 2, homeGuard := !switches.getLsbD 1, autoRejoin := !switches.getLsbD 0,
      probeInterval := probe.1 }
  let listed := [(6, due.2), (7, h1.2), (8, h2.2), (9, delta.2), (10, beat.2), (12, listen.2), (13, wake.2),
    (14, linger.2), (15, age.2), (16, hop.2), (17, suppress.2), (18, send.2), (19, capacity.2), (20, refill.2),
    (24, probe.2)]
  (config, (listed.filter (fun p => p.2)).map (fun p => p.1))

/-- The notice mask of the record, field 25 (R183). -/
def RawRecord.noticeMask (r : RawRecord) : FlagSet := BitVec.ofNat 8 (fieldAt r.bytes 42 1)

/-- The configuration read while none is held: role BIN and station id 0, as the status byte and READ_STATUS show
it (R173, R185). No rule reads another field of it. -/
def HeldConfig.absent : HeldConfig :=
  { role := .bin, stationId := 0, kindCode := 0, emptyDist := 0, fullDist := 0, dueLevel := 0, imminentHorizon := 0,
    dueHorizon := 0, reportDelta := 0, heartbeat := 0, startSeq := 0, listenPeriod := 0, wakeLength := 0, linger := 0,
    ageLimit := 0, hopLimit := 0, suppressCount := 0, sendLimit := 0, capacity := 0, refillInterval := 0,
    filterId := 0, filterMask := 0, invert := false, passingCarry := false, homeGuard := false, autoRejoin := false,
    probeInterval := 0 }

/-- The configuration in force. -/
def State.cfg (s : State) : HeldConfig := s.config.getD .absent

/-- The started role (R174). -/
def State.role (s : State) : Role := s.cfg.role

/-- The station is RUNNING in the bin role, in the gateway role. -/
def State.isBin (s : State) : Bool := s.running && s.role == .bin
def State.isGateway (s : State) : Bool := s.running && s.role == .gateway

end Sys2Proof.Machine
end

