-- ==== Sys2Proof/Machine/Flags.lean ====
section
/-! DEFINITION. The notice flags, the NOTICE line and vector, and the status byte. -/

namespace Sys2Proof.Machine

/-- The eight notices, in order of their vector numbers 1 to 8 (R180). -/
inductive Notice where
  | standing
  | overrun
  | refusal
  | seqJump
  | solicited
  | ownSent
  | ownIssued
  | exportReady
  deriving DecidableEq, Repr

/-- The bit of a notice in a flag set (R180). -/
def Notice.bit : Notice → FlagSet
  | .standing => 0x80
  | .overrun => 0x40
  | .refusal => 0x20
  | .seqJump => 0x10
  | .solicited => 0x08
  | .ownSent => 0x04
  | .ownIssued => 0x02
  | .exportReady => 0x01

/-- A block raises a notice; raising a raised flag leaves it raised (R180). -/
def State.raise (n : Notice) (s : State) : State :=
  { s with port := { s.port with flags := s.port.flags ||| n.bit } }

/-- The flags that are raised and unmasked. -/
def Port.showing (p : Port) : FlagSet := p.flags &&& ~~~p.mask

/-- The NOTICE line (R181). -/
def Port.noticeLine (p : Port) : Bool := p.showing != 0

/-- The notice vector: the number of the highest-priority flag that is raised and unmasked, 0 for none (R181). -/
def Port.noticeVector (p : Port) : Nat :=
  match (List.range 8).find? (fun i => p.showing.getLsbD (7 - i)) with
  | some i => i + 1
  | none => 0

/-- The code of a standing in the status byte and READ_STATUS (R173, R185). -/
def Standing.code : Standing → Nat
  | .active => 0
  | .quiet => 1
  | .mute => 2

/-- The code of a role (R175, R185). -/
def Role.code : Role → Nat
  | .bin => 0
  | .gateway => 1

/-- The code of an engine state in READ_STATUS (R185). -/
def EngineState.code : EngineState → Nat
  | .off => 0
  | .doze => 1
  | .sample => 2
  | .awake => 3
  | .waking => 4
  | .field => 5
  | .receiving => 6
  | .echoing => 7
  | .sending => 8
  | .awaitEcho => 9

/-- The awake field of the status byte: any state other than OFF and DOZE (R2, R173). -/
def EngineState.isAwake : EngineState → Bool
  | .off => false
  | .doze => false
  | _ => true

/-- The status byte (R173). -/
def State.statusByte (s : State) : Byte :=
  BitVec.ofNat 8
    ((if s.running then 128 else 0) + s.role.code * 64 + s.mon.standing.code * 16 +
      (if s.port.noticeLine then 8 else 0) + (if s.gw.queue.isEmpty then 0 else 4) +
      (if s.sel.stage.isSome then 2 else 0) + (if s.eng.state.isAwake then 1 else 0))

end Sys2Proof.Machine
end

