-- ==== Sys2Proof/Machine/Frame.lean ====
section
/-! DEFINITION. The frame on air: the CRC, bit stuffing and the marks as the sender makes them and as the receiver
takes them, and the layout of a body (chapters 1.3 and 3). Bits are Bools, in the order they go on the channel. -/

namespace Sys2Proof.Machine

/-! ### Bits and bytes -/

/-- The bits of a byte, most significant first (R1). -/
def bitsOf (b : Byte) : List Bool := (List.range 8).map (fun i => b.getLsbD (7 - i))

/-- The value of a list of bits, most significant first. -/
def ofBits (bs : List Bool) : Nat := bs.foldl (fun v b => 2 * v + b.toNat) 0

/-- The whole bytes of a list of bits; `n` is how many bytes to read. -/
def bytesOf : Nat → List Bool → List Byte
  | 0, _ => []
  | n + 1, bs => BitVec.ofNat 8 (ofBits (bs.take 8)) :: bytesOf n (bs.drop 8)

/-- The opening and the closing mark, 0xFC (R12). -/
def markBits : List Bool := [true, true, true, true, true, true, false, false]

/-! ### CRC (R16) -/

/-- One data bit into the CRC register. -/
def crcBit (r : BitVec 16) (b : Bool) : BitVec 16 :=
  if r.getLsbD 15 == b then r <<< 1 else (r <<< 1) ^^^ 0x8BB7

/-- The CRC register after a list of body bytes. -/
def crcRegister (bs : List Byte) : BitVec 16 := (bs.flatMap bitsOf).foldl crcBit 0xFFFF

/-- The two CRC bytes of a body: the inverted register, high byte first. -/
def crcBytes (bs : List Byte) : List Byte := toBytes 2 (~~~crcRegister bs).toNat

/-! ### Sending: stuffing (R12, R13) -/

/-- The run of equal bits as it stands on the channel: its bit and its length. -/
structure Run where
  bit : Bool
  len : Nat
  deriving DecidableEq, Repr

/-- The run at the end of the opening mark (R13). -/
def Run.start : Run := { bit := false, len := 2 }

/-- The run after one more bit. -/
def Run.next (r : Run) (b : Bool) : Run :=
  if b = r.bit then { bit := b, len := r.len + 1 } else { bit := b, len := 1 }

/-- Body bits with the stuffed bits inserted, and the run they leave (R13). -/
def stuff (r : Run) : List Bool → List Bool × Run
  | [] => ([], r)
  | b :: bs =>
    let r' := r.next b
    if r'.len = 5 then
      let rest := stuff { bit := !b, len := 1 } bs
      (b :: (!b) :: rest.1, rest.2)
    else
      let rest := stuff r' bs
      (b :: rest.1, rest.2)

/-- The body bytes as channel bits, one list for each byte with the stuffed bits its bits call for, and the run
they leave (R13). A stuffed bit that the last bit of a byte calls for falls within that byte, so that RESTART lets it be
sent: R21 does not say (DESIGN CHOICE, notes/assumptions/21.md). -/
def stuffBytes (r : Run) : List Byte → List (List Bool) × Run
  | [] => ([], r)
  | b :: bs =>
    let one := stuff r (bitsOf b)
    let rest := stuffBytes one.2 bs
    (one.1 :: rest.1, rest.2)

/-- The channel bits of a frame by units: opening mark, body bytes, closing pad if the stuffed body ends in a 1,
closing mark (R12). `body` includes the CRC. -/
def channelUnits (body : List Byte) : List (List Bool) :=
  let stuffed := stuffBytes .start body
  [markBits] ++ stuffed.1 ++ (if stuffed.2.bit then [[false]] else []) ++ [markBits]

/-- The frame on air while it is sent. -/
def OnAir.sending (body : List Byte) : OnAir :=
  let stuffed := stuffBytes .start body
  { units := channelUnits body, runBit := stuffed.2.bit, run := stuffed.2.len,
    crc := crcRegister (body.take (body.length - 2)), bytes := body.length }

/-- The frame on air when the opening mark has been recognised: the run count at the mark's two zeros, the CRC
register preset, no byte (R14, R16). -/
def OnAir.taking : OnAir := { units := [], runBit := false, run := 2, crc := 0xFFFF, bytes := 0 }

/-- What RESTART lets a frame in SENDING finish: the rest of the unit that the last of `sent` bits falls in, then eight
ones (R21). The first bit of a byte being out, at most nine of its bits are left, so the tail has at most 17 (R177). -/
def abortTail : List (List Bool) → Nat → List Bool
  | [], _ => List.replicate 8 true
  | u :: us, sent => if sent ≤ u.length then u.drop sent ++ List.replicate 8 true else abortTail us (sent - u.length)

/-! ### Taking: marks and destuffing (R11, R14, R15) -/

/-- The bits end in the opening mark, and no earlier place shows it (R11). -/
def openingMarkAtEnd : List Bool → Bool
  | [] => false
  | b :: bs => if (b :: bs).take 8 = markBits then decide (bs.length = 7) else openingMarkAtEnd bs

/-- Where the taking of a body stands: the bits kept, last first, how many of them belong to the run of ones or
zeros in progress, that run, and whether a sixth one (and a zero after it) has been seen. -/
structure Taking where
  kept : List Bool
  inRun : Nat
  run : Run
  deriving DecidableEq, Repr

/-- How the taking of a body ends (R14, R15). -/
inductive TakeEnd where
  /-- The closing mark is complete; the kept bits before it, in order. -/
  | closed (kept : List Bool)
  /-- A format error or an abort. -/
  | broken
  /-- The bits end before either. -/
  | unfinished
  deriving DecidableEq, Repr

/-- The taking of the body bit by bit (R14, R15). A sixth one leaves the run's kept bits to the closing mark. The taking
ends where the mark is complete or a fault is found; bits behind that place are not read. -/
def takeBits (t : Taking) : List Bool → TakeEnd
  | [] => .unfinished
  | b :: bs =>
    if t.run.len = 5 then
      if b ≠ t.run.bit then takeBits { kept := t.kept, inRun := 0, run := { bit := b, len := 1 } } bs
      else if b then
        match bs with
        | false :: false :: _ => .closed (t.kept.drop t.inRun).reverse
        | false :: true :: _ => .broken
        | true :: _ => .broken
        | _ => .unfinished
      else .broken
    else if t.kept.length + 1 = (Config.bodyMax + 1) * 8 then .broken
    else
      takeBits { kept := b :: t.kept, inRun := if b = t.run.bit then t.inRun + 1 else 1, run := t.run.next b } bs

/-- The taking of a body as the opening mark leaves it. -/
def Taking.start : Taking := { kept := [], inRun := 0, run := .start }

/-- The body the kept bits give: whole bytes, with at most a closing pad of 0 behind them, at least 6 of them
(R15). -/
def closeBody (kept : List Bool) : Option (List Byte) :=
  let n := kept.length / 8
  let whole := decide (kept.length % 8 = 0)
  let padded := decide (kept.length % 8 = 1) && kept.getLast? == some false
  if (whole || padded) && decide (Config.bodyMin ≤ n) then some (bytesOf n kept) else none

/-- The CRC check of the receiver (R16). -/
def crcPasses (body : List Byte) : Bool :=
  crcBytes (body.take (body.length - 2)) == body.drop (body.length - 2)

/-! ### Body layout (R39 to R46, R54) -/

/-- The flags byte of a report entry, and of the entry record of R96. -/
def Report.flagsByte (r : Report) : Byte :=
  BitVec.ofNat 8 (r.kind.code * 64 + r.cls.val * 16 + r.overfull.toNat * 8 + r.emptied.toNat * 4 + r.fault.toNat * 2 +
    r.since.isSome.toNat)

/-- A report entry on air, with the age and hops it is sent with (R43, R54). -/
def entryBytes (r : Report) (age hops : Nat) : List Byte :=
  toBytes 3 r.binId.toNat ++ toBytes 2 r.seq.toNat ++ [r.flagsByte] ++ toBytes 2 r.level ++ toBytes 2 r.rate ++
    toBytes 2 r.ttf ++ toBytes 2 (age * 16 + hops) ++
    (match r.since with
      | some m => toBytes 2 m
      | none => [])

/-- A drain item on air (R54). -/
def itemBytes (i : BinId × Seq) : List Byte := toBytes 3 i.1.toNat ++ toBytes 2 i.2.toNat

/-- A solicit target on air (R54). -/
def targetBytes (t : Target) : List Byte :=
  toBytes 3 t.binId.toNat ++ toBytes 3 t.mask.toNat ++ toBytes 1 t.maxClass.val

/-- The header of a body (R39, R54). -/
def headerBytes (kind count : Nat) (sender : BinId) : List Byte :=
  [BitVec.ofNat 8 (kind * 16 + count)] ++ toBytes 3 sender.toNat

/-- The report entry that the first 14 or 16 bytes of a list give, its level clamped and an invalid bin id marked
(R44, R54), and the bytes after it; none when the list is too short (R50). -/
def readEntryBytes (bs : List Byte) : Option (RxEntry × List Byte) :=
  let flags := BitVec.ofNat 8 (fieldAt bs 5 1)
  let len := if flags.getLsbD 0 then 16 else 14
  if bs.length < 6 ∨ bs.length < len then none
  else
    let bin : BinId := BitVec.ofNat 24 (fieldAt bs 0 3)
    let report : Report :=
      { binId := bin, seq := BitVec.ofNat 16 (fieldAt bs 3 2), kind := kindOf (flags.toNat / 64),
        cls := urgencyOf (flags.toNat / 16 % 4), overfull := flags.getLsbD 3, emptied := flags.getLsbD 2,
        fault := flags.getLsbD 1, level := min 1000 (fieldAt bs 6 2), rate := fieldAt bs 8 2, ttf := fieldAt bs 10 2,
        since := if flags.getLsbD 0 then some (fieldAt bs 14 2) else none }
    some ({ report := report, age := fieldAt bs 12 2 / 16, hops := fieldAt bs 12 2 % 16, malformed := !validBinId bin },
      bs.drop len)

/-- The walk over the entries of a FILL body between header and CRC: `n` entries and nothing behind them (R50). -/
def readEntries : Nat → List Byte → Option (List RxEntry)
  | 0, bs => if bs.isEmpty then some [] else none
  | n + 1, bs =>
    match readEntryBytes bs with
    | none => none
    | some (e, rest) =>
      match readEntries n rest with
      | none => none
      | some es => some (e :: es)

/-- The items of a DRAIN body between header and CRC (R46, R50). -/
def readItems : Nat → List Byte → Option (List RxItem)
  | 0, bs => if bs.isEmpty then some [] else none
  | n + 1, bs =>
    if bs.length < 5 then none
    else
      let bin : BinId := BitVec.ofNat 24 (fieldAt bs 0 3)
      match readItems n (bs.drop 5) with
      | none => none
      | some is =>
        some ({ binId := bin, seq := BitVec.ofNat 16 (fieldAt bs 3 2), malformed := !validBinId bin } :: is)

/-- The target of a SOLICIT body, its maximum class reduced to 0 to 3 (R45, R52). -/
def readTarget (bs : List Byte) : Target :=
  { binId := BitVec.ofNat 24 (fieldAt bs 0 3), mask := BitVec.ofNat 24 (fieldAt bs 3 3),
    maxClass := urgencyOf (fieldAt bs 6 1) }

/-- The checks of count, length, kind value and kind-slot agreement, and the record a good frame gives
(R49 to R52). `carrierSeen` is the kind-slot observation; with none, no kind agrees. -/
def readBody (body : List Byte) (carrierSeen : Option Bool) (second : Nat) : Option RxFrame :=
  let kind := fieldAt body 0 1 / 16
  let count := fieldAt body 0 1 % 16
  let sender : BinId := BitVec.ofNat 24 (fieldAt body 1 3)
  let parts := (body.take (body.length - 2)).drop 4
  let record := fun p => ({ sender := sender, rxTime := second, parts := p } : RxFrame)
  if kind = 1 then
    if 1 ≤ count ∧ count ≤ Config.fillMax ∧ carrierSeen = some true then
      (readEntries count parts).map (fun es => record (.fill es))
    else none
  else if kind = 2 then
    if count = 1 ∧ parts.length = 7 ∧ carrierSeen = some false then some (record (.solicit (readTarget parts)))
    else none
  else if kind = 3 then
    if 1 ≤ count ∧ count ≤ Config.drainMax ∧ carrierSeen = some false then
      (readItems count parts).map (fun is => record (.drain is))
    else none
  else none

/-- What the receiver makes of the bits after the opening mark (R14 to R18). -/
inductive Verdict where
  | good (frame : RxFrame)
  | bad
  | unfinished
  deriving DecidableEq, Repr

/-- The verdict on the bits after the opening mark, with the kind-slot observation and the second of the clock. -/
def judge (rxd : List Bool) (carrierSeen : Option Bool) (second : Nat) : Verdict :=
  match takeBits .start rxd with
  | .unfinished => .unfinished
  | .broken => .bad
  | .closed kept =>
    match closeBody kept with
    | none => .bad
    | some body =>
      if crcPasses body then
        match readBody body carrierSeen second with
        | some frame => .good frame
        | none => .bad
      else .bad

/-- How many parts a received frame has (R106). -/
def RxParts.count : RxParts → Nat
  | .fill es => es.length
  | .solicit _ => 1
  | .drain is => is.length

end Sys2Proof.Machine
end

