-- ==== Sys2Proof/Machine/Ops.lean ====
section
/-! DEFINITION. The named operations over the carry table, the gateway unit's collections and the frame slots that
the meanings share: looking entries up, ages, insertion and eviction, the export queue, the notices of R88. -/

namespace Sys2Proof.Machine

/-! ### Ages and origins (R81, R84, R85) -/

/-- The age of a report at second `now`: its received age plus the minutes since its receipt, rounded up and
saturating at 4095 (R81). -/
def ageAt (rxAge rxTime now : Nat) : Nat := min Config.ageMax (rxAge + (now - rxTime + 59) / 60)

/-- The current age of an entry (R81). -/
def Entry.ageAt (e : Entry) (now : Nat) : Nat := Machine.ageAt e.rxAge e.rxTime now

/-- The bin matches the home filter (R85). -/
def HeldConfig.isHome (c : HeldConfig) (b : BinId) : Bool := maskedMatch c.filterId c.filterMask b != c.invert

/-- The origin of a heard report's entry (R84). -/
def HeldConfig.originOf (c : HeldConfig) (b : BinId) : Origin := if c.isHome b then .home else .passing

/-! ### Looking up and changing entries (R82, R88) -/

/-- The entry held for a bin. -/
def State.entryOf (s : State) (b : BinId) : Option Entry := s.table.find? (fun e => e.report.binId == b)

/-- The entry at a position. -/
def State.entryAt (s : State) (p : Nat) : Option Entry := s.table.find? (fun e => e.position == p)

/-- The OWN entry: in the bin role, the entry whose bin id is the station id (R84). -/
def State.ownEntry (s : State) : Option Entry := if s.isBin then s.entryOf s.cfg.stationId else none

/-- A change to the entry of one bin, applied whole (R88). -/
def changeEntry (b : BinId) (f : Entry → Entry) (t : List Entry) : List Entry :=
  t.map (fun e => if e.report.binId = b then f e else e)

/-- The entry occupies its position; the table stays in order of position. -/
def placeEntry (e : Entry) : List Entry → List Entry
  | [] => [e]
  | x :: xs => if e.position < x.position then e :: x :: xs else x :: placeEntry e xs

/-- The lowest-numbered FREE position (R92). -/
def lowestFree (t : List Entry) : Option Nat :=
  (List.range Config.positions).find? (fun p => !(t.any (fun e => e.position == p)))

/-! ### What the table tells the send selector (R88) -/

/-- What one step's changes to the table mean to the send selector: whether an entry placed in STAGE or in BUILD
was changed, and the classes of the entries that became OWED. -/
structure Told where
  stage : Bool
  build : Bool
  fresh : List Urgency
  deriving DecidableEq, Repr

/-- Nothing to tell. -/
def Told.nothing : Told := { stage := false, build := false, fresh := [] }

/-- A placed entry was superseded, drained, made HELD, replaced or freed. -/
def Told.changed (e : Entry) (t : Told) : Told :=
  match e.placed with
  | .unplaced => t
  | .build => { t with build := true }
  | .stage => { t with stage := true }

/-- An entry became OWED: it is told with its class, wherever it is placed (R88). -/
def Told.owed (e : Entry) (t : Told) : Told := { t with fresh := e.report.cls :: t.fresh }

/-! ### The export queue (R155, R156) -/

/-- The bin id joins the tail of the export queue unless it is queued; EXPORT_READY is raised when the queue was
empty (R155, R156). Only a gateway has a queue. -/
def State.queueJoin (b : BinId) (s : State) : State :=
  if s.isGateway = false ∨ b ∈ s.gw.queue then s
  else
    let joined := { s with gw := { s.gw with queue := s.gw.queue ++ [b] } }
    if s.gw.queue.isEmpty then joined.raise .exportReady else joined

/-- The bin id leaves the export queue, if queued; the others keep their order (R155). -/
def State.queueLeave (b : BinId) (s : State) : State :=
  { s with gw := { s.gw with queue := s.gw.queue.filter (fun x => x != b) } }

/-! ### Insertion, eviction and refusal (R92 to R95) -/

/-- The order of states in R94: DRAINED before HELD before OWED. -/
def Owing.evictionRank : Owing → Nat
  | .drained => 0
  | .held => 1
  | .owed => 2

/-- An entry may be evicted for a newcomer of this origin (R93). -/
def State.evictable (s : State) (newcomer : Origin) (e : Entry) : Bool :=
  e.origin != .own && e.placed == .unplaced &&
    !(e.origin == .home && s.cfg.homeGuard && newcomer == .passing) &&
    !(s.isGateway && s.gw.queue.contains e.report.binId)

/-- `a` goes before `b` in eviction order at second `now` (R94). -/
def evictedBefore (now : Nat) (a b : Entry) : Bool :=
  if a.owing ≠ b.owing then decide (a.owing.evictionRank < b.owing.evictionRank)
  else if a.report.cls ≠ b.report.cls then decide (b.report.cls < a.report.cls)
  else if a.ageAt now ≠ b.ageAt now then decide (b.ageAt now < a.ageAt now)
  else decide (b.report.binId.toNat < a.report.binId.toNat)

/-- The first of a list in an order that places every pair. -/
def firstBy {α : Type} (before : α → α → Bool) : List α → Option α
  | [] => none
  | x :: xs =>
    match firstBy before xs with
    | none => some x
    | some y => if before y x then some y else some x

/-- The victim of an insert by a newcomer of this origin (R93, R94). -/
def State.victim (s : State) (newcomer : Origin) : Option Entry :=
  firstBy (evictedBefore s.clock) (s.table.filter (s.evictable newcomer))

/-- The position an insert takes: the lowest FREE one, or else the victim's (R92). -/
def State.insertPosition (s : State) (newcomer : Origin) : Option Nat :=
  match lowestFree s.table with
  | some p => some p
  | none => (s.victim newcomer).map (fun v => v.position)

/-- An insert: the newcomer takes the position found, whose entry if any is freed in the same change; with none
found it is refused, the refusal count rises and REFUSAL is raised (R92, R95). The second component says whether
it was inserted. -/
def State.insert (e : Entry) (s : State) : State × Bool :=
  match s.insertPosition e.origin with
  | some p =>
    ({ s with table := placeEntry { e with position := p } (s.table.filter (fun x => x.position != p)) }, true)
  | none => (({ s with refusals := bump Config.count16Max s.refusals }).raise .refusal, false)

/-! ### The entry record (R96) -/

/-- The code of an origin, a state and a placement in the entry record (R96). -/
def Origin.code : Origin → Nat
  | .own => 0
  | .home => 1
  | .passing => 2

def Owing.code : Owing → Nat
  | .owed => 1
  | .held => 2
  | .drained => 3

def Placement.code : Placement → Nat
  | .unplaced => 0
  | .build => 1
  | .stage => 2

/-- The 30-byte entry record at second `now` (R96). -/
def Entry.record (e : Entry) (now : Nat) : List Byte :=
  toBytes 1 e.position ++ toBytes 3 e.report.binId.toNat ++ toBytes 2 e.report.seq.toNat ++ [e.report.flagsByte] ++
    toBytes 2 e.report.level ++ toBytes 2 e.report.rate ++ toBytes 2 e.report.ttf ++
    toBytes 2 (e.report.since.getD 0) ++ toBytes 2 e.rxAge ++ toBytes 4 e.rxTime ++ toBytes 2 (e.ageAt now) ++
    toBytes 1 e.hops ++ toBytes 1 e.origin.code ++ toBytes 1 e.owing.code ++ toBytes 1 e.placed.code ++
    toBytes 1 e.heard ++ toBytes 1 e.sent ++ [markByte e.exported]

end Sys2Proof.Machine
end

