-- ==== Sys2Proof/Machine/Selector.lean ====
section
/-! DEFINITION. The send selector: candidates, selection order, building, withdrawal, preemption, commitment, the
echo outcomes (chapter 7) and the priority keys it computes (chapter 2.6). -/

namespace Sys2Proof.Machine

/-! ### Keys (R35 to R37) -/

/-- A key from its class part, bucket part and tie byte (2.6). -/
def keyOf (cls bucket tie : Nat) : Key := BitVec.ofNat 16 (cls * 16384 + bucket * 256 + tie)

/-- The key of a FILL frame led by a report of this class and time to full (R35). -/
def fillKey (cls : Urgency) (ttf : Nat) (station : BinId) : Key := keyOf cls.val (min 63 (ttf / 64)) (tieByte station)

/-- The key of a SOLICIT frame (R36). -/
def solicitKey (maxClass : Urgency) (station : BinId) : Key := keyOf maxClass.val 63 (tieByte station)

/-- The key of a DRAIN frame: the tie byte (R37). -/
def drainKey (station : BinId) : Key := keyOf 0 0 (tieByte station)

/-! ### Frame records (R122) -/

/-- The references of a frame: the bin ids and sequences of its entries (R122). -/
def FrameRec.refs (f : FrameRec) : List (BinId × Seq) :=
  match f.payload with
  | .fill es _ => es.map (fun e => (e.report.binId, e.report.seq))
  | _ => []

/-- The lead entry of a FILL frame. -/
def FrameRec.lead (f : FrameRec) : Option Frozen :=
  match f.payload with
  | .fill es _ => es.head?
  | _ => none

/-- The frame is a mute probe, a SOLICIT frame, a DRAIN frame, a FILL frame. -/
def FrameRec.isProbe (f : FrameRec) : Bool :=
  match f.payload with
  | .fill _ p => p
  | _ => false

def FrameRec.isSolicit (f : FrameRec) : Bool :=
  match f.payload with
  | .solicit _ _ => true
  | _ => false

def FrameRec.isDrain (f : FrameRec) : Bool :=
  match f.payload with
  | .drain _ => true
  | _ => false

def FrameRec.isFill (f : FrameRec) : Bool :=
  match f.payload with
  | .fill _ _ => true
  | _ => false

/-- The frozen copy is exempt: its origin is OWN or its class 0 (R123). -/
def Frozen.exempt (e : Frozen) : Bool := e.origin == .own || e.report.cls == 0

/-- The lead of the frame is exempt, by its frozen copy (R123). -/
def FrameRec.leadExempt (f : FrameRec) : Bool :=
  match f.lead with
  | some e => e.exempt
  | none => false

/-- The frozen copy of an entry (R122). -/
def Entry.freeze (e : Entry) : Frozen :=
  { report := e.report, rxAge := e.rxAge, rxTime := e.rxTime, hops := e.hops, origin := e.origin }

/-! ### Candidates and the admitted set (R123) -/

/-- A candidate: OWED and unplaced (R123). -/
def Entry.candidate (e : Entry) : Bool := e.owing == .owed && e.placed == .unplaced

/-- An exempt entry (R123). -/
def Entry.exempt (e : Entry) : Bool := e.origin == .own || e.report.cls == 0

/-- The admitted FILL candidates of the bin role outside MUTE (R123). -/
def State.admittedEntries (s : State) : List Entry :=
  match s.mon.standing with
  | .active => s.table.filter (fun e => e.candidate && (decide (1 ≤ s.sel.allowance) || e.exempt))
  | .quiet => s.table.filter (fun e => e.candidate && e.exempt)
  | .mute => []

/-- The frames in the two slots. -/
def Selector.frames (sel : Selector) : List FrameRec := sel.build.toList ++ (sel.stage.map (fun x => x.frame)).toList

/-- A DRAIN frame in a slot carries the item at its listed sequence (R123). -/
def Selector.carriesItem (sel : Selector) (i : DrainItem) : Bool :=
  sel.frames.any (fun f =>
    match f.payload with
    | .drain is => is.contains (i.binId, i.seq)
    | _ => false)

/-- A SOLICIT frame in a slot carries the pending solicit (R123). -/
def Selector.carriesSolicit (sel : Selector) (p : PendingSolicit) : Bool :=
  sel.frames.any (fun f =>
    match f.payload with
    | .solicit _ serial => serial == p.serial
    | _ => false)

/-- The admitted drain items of a gateway, in drain-list order (R123). -/
def State.admittedItems (s : State) : List DrainItem :=
  match s.mon.standing with
  | .mute => []
  | _ => s.gw.drainList.filter (fun i => !s.sel.carriesItem i)

/-- The admitted pending solicit of a gateway (R123). -/
def State.admittedSolicit (s : State) : Option PendingSolicit :=
  match s.mon.standing with
  | .active => s.gw.solicit.filter (fun p => !s.sel.carriesSolicit p)
  | _ => none

/-- The OWN entry of which a mute probe may be built now, both slots being EMPTY and a probe being due (R137,
R148). -/
def State.probeEntry (s : State) : Option Entry :=
  if s.mon.standing = .mute ∧ s.mon.probeTimer = 0 ∧ s.sel.build = none ∧ s.sel.stage = none then
    s.ownEntry.filter (fun e => e.candidate && e.report.cls == 0)
  else none

/-- Selection order (R124). The time to full 65535 is the largest there is, so it comes last among equal
classes. -/
def selectedBefore (a b : Entry) : Bool :=
  if a.report.cls ≠ b.report.cls then decide (a.report.cls < b.report.cls)
  else if (a.origin == .own) ≠ (b.origin == .own) then a.origin == .own
  else if a.report.ttf ≠ b.report.ttf then decide (a.report.ttf < b.report.ttf)
  else if a.hops ≠ b.hops then decide (a.hops < b.hops)
  else decide (a.report.binId.toNat ≤ b.report.binId.toNat)

/-- Entries in selection order. -/
def inSelectionOrder (es : List Entry) : List Entry := es.insertionSort (fun a b => selectedBefore a b = true)

/-- The frame the selector would build now (R125, R126, R137), with the bin ids of the entries it places. -/
def State.nextFrame (s : State) : Option (FrameRec × List BinId) :=
  let station := s.cfg.stationId
  match s.role with
  | .bin =>
    match s.probeEntry with
    | some e =>
      some ({ key := fillKey e.report.cls e.report.ttf station, payload := .fill [e.freeze] true }, [e.report.binId])
    | none =>
      match (inSelectionOrder s.admittedEntries).take Config.fillMax with
      | [] => none
      | lead :: rest =>
        some ({ key := fillKey lead.report.cls lead.report.ttf station,
                payload := .fill ((lead :: rest).map Entry.freeze) false },
          (lead :: rest).map (fun e => e.report.binId))
  | .gateway =>
    match s.admittedItems with
    | i :: is =>
      some ({ key := drainKey station,
              payload := .drain (((i :: is).take Config.drainMax).map (fun x => (x.binId, x.seq))) }, [])
    | [] =>
      match s.admittedSolicit with
      | some p =>
        let target : Target := { binId := p.binId, mask := p.mask, maxClass := urgencyOf p.maxClass }
        some ({ key := solicitKey target.maxClass station, payload := .solicit target p.serial }, [])
      | none => none

/-- The admitted set is not empty (R123). -/
def State.admits (s : State) : Bool :=
  match s.role with
  | .bin => s.probeEntry.isSome || !s.admittedEntries.isEmpty
  | .gateway => !s.admittedItems.isEmpty || s.admittedSolicit.isSome

/-- The frame would be eligible as a STAGED frame now (R123). -/
def State.eligible (s : State) (f : FrameRec) : Bool :=
  match f.payload with
  | .fill _ true => true
  | .fill _ false =>
    if f.leadExempt then s.mon.standing != .mute
    else s.mon.standing == .active && f.lead.isSome && decide (1 ≤ s.sel.allowance)
  | .drain _ => s.mon.standing != .mute
  | .solicit _ _ => s.mon.standing == .active

/-- The STAGE frame, if STAGED. -/
def Selector.staged (sel : Selector) : Option FrameRec :=
  match sel.stage with
  | some x => if x.cond = .staged then some x.frame else none
  | none => none

/-- STAGE holds a frame that the selector reports eligible (R123). -/
def State.stageEligible (s : State) : Bool :=
  match s.sel.staged with
  | some f => s.eligible f
  | none => false

/-! ### Building (R125, R126, R137) -/

/-- Every entry whose placement is `p` takes placement `q`. -/
def movePlacement (p q : Placement) (t : List Entry) : List Entry :=
  t.map (fun e => if e.placed = p then { e with placed := q } else e)

/-- The entries of the bins listed take a placement. -/
def placeBins (bs : List BinId) (p : Placement) (t : List Entry) : List Entry :=
  t.map (fun e => if bs.contains e.report.binId then { e with placed := p } else e)

/-- One build, when BUILD is EMPTY and the admitted set is not: the frame goes to BUILD, or on to STAGE if that is
EMPTY (R125, R126). -/
def State.buildOne (s : State) : State :=
  if s.sel.build.isSome then s
  else
    match s.nextFrame with
    | none => s
    | some (f, bins) =>
      match s.sel.stage with
      | none =>
        { s with sel := { s.sel with stage := some { frame := f, cond := .staged } },
                 table := placeBins bins .stage s.table }
      | some _ => { s with sel := { s.sel with build := some f }, table := placeBins bins .build s.table }

/-- Building runs until BUILD is full or nothing is admitted; two builds do it (R125). -/
def State.buildAll (s : State) : State := s.buildOne.buildOne

/-! ### Withdrawal (R128) -/

/-- STAGE and BUILD are both discarded, and their entries unplaced. -/
def State.withdrawBoth (s : State) : State :=
  { s with sel := { s.sel with build := none, stage := none },
           table := movePlacement .stage .unplaced (movePlacement .build .unplaced s.table) }

/-- BUILD alone is discarded, and its entries unplaced. -/
def State.withdrawBuild (s : State) : State :=
  { s with sel := { s.sel with build := none }, table := movePlacement .build .unplaced s.table }

/-- The frames of the given slots are withdrawn where they are uncommitted: STAGE takes BUILD with it (R128). -/
def State.withdraw (stage build : Bool) (s : State) : State :=
  if stage && s.sel.staged.isSome then s.withdrawBoth
  else if build && s.sel.build.isSome then s.withdrawBuild
  else s

/-- The uncommitted frames that satisfy `p` are withdrawn. -/
def State.withdrawWhere (p : FrameRec → Bool) (s : State) : State :=
  s.withdraw (s.sel.staged.any p) (s.sel.build.any p)

/-! ### Preemption and the tests on STAGE (R126, R129, R138) -/

/-- The lead class of a frame exceeds the class of some new candidate. -/
def FrameRec.outranked (f : FrameRec) (fresh : List Urgency) : Bool :=
  match f.lead with
  | some e => fresh.any (fun c => decide (c < e.report.cls))
  | none => false

/-- New candidates of a smaller class than the lead's withdraw both slots while STAGE is STAGED, and BUILD alone
while STAGE is COMMITTED or SENDING (R129). -/
def State.preempt (fresh : List Urgency) (s : State) : State :=
  match s.sel.stage with
  | none => s
  | some x =>
    if x.cond = .staged then if x.frame.outranked fresh then s.withdrawBoth else s
    else if s.sel.build.any (fun f => f.outranked fresh) then s.withdrawBuild
    else s

/-- Drain announcements go ahead of solicitations: a STAGED SOLICIT frame gives way when an item is listed
(R126). -/
def State.drainFirst (s : State) : State :=
  if !s.gw.drainList.isEmpty && s.sel.staged.any FrameRec.isSolicit then s.withdrawBoth else s

/-- A STAGED frame that is not eligible is withdrawn when the admitted set is not empty (R138). -/
def State.rebuildTest (s : State) : State :=
  if s.sel.staged.isSome && !s.stageEligible && s.admits then s.withdrawBoth else s

/-- The tests on STAGE, then building: what the selector does at the first moment it can (R125, R126, R138). -/
def State.selectorSettle (s : State) : State := if s.running then s.drainFirst.rebuildTest.buildAll else s

/-- The selector takes what one step's table changes mean to it: withdrawal, preemption, building (R88, R128,
R129). -/
def State.hear (t : Told) (s : State) : State := ((s.withdraw t.stage t.build).preempt t.fresh).selectorSettle

/-! ### Commitment and field outcome (R127, R130) -/

/-- The STAGE frame goes from STAGED to COMMITTED (R127). -/
def State.commit (s : State) : State :=
  match s.sel.stage with
  | some x => if x.cond = .staged then { s with sel := { s.sel with stage := some { x with cond := .committed } } } else s
  | none => s

/-- An occupied OWED entry of the bin at the sequence. -/
def State.owes (s : State) (r : BinId × Seq) : Bool :=
  s.table.any (fun e => e.report.binId == r.1 && e.report.seq == r.2 && e.owing == .owed)

/-- An item listed for the bin at the sequence. -/
def State.lists (s : State) (i : BinId × Seq) : Bool :=
  s.gw.drainList.any (fun x => x.binId == i.1 && x.seq == i.2)

/-- The withdrawal check of a frame that lost its field: whether it is withdrawn (R127). -/
def State.withdrawnAtLoss (s : State) (f : FrameRec) : Bool :=
  match f.payload with
  | .fill es _ =>
    !(f.refs.all s.owes) ||
      (match es.head? with
        | some lead => s.table.any (fun e => e.candidate && decide (e.report.cls < lead.report.cls))
        | none => true)
  | .drain is => !(is.all s.lists) || !s.admittedItems.isEmpty
  | .solicit _ serial => !(s.gw.solicit.any (fun p => p.serial == serial)) || !s.gw.drainList.isEmpty

/-- The field outcome "lost" at the selector: the COMMITTED frame is withdrawn with BUILD, or is STAGED again; then
building runs (R127). R127 does not say what an entry becomes that was swept and inserted again at the same sequence
while the frame was COMMITTED: where the frame stands, the model leaves it NONE or in BUILD (DESIGN CHOICE,
notes/assumptions/20.md). -/
def State.fieldLost (s : State) : State :=
  match s.sel.stage with
  | some x =>
    if x.cond = .committed then
      (if s.withdrawnAtLoss x.frame then s.withdrawBoth
       else { s with sel := { s.sel with stage := some { x with cond := .staged } } }).selectorSettle
    else s
  | none => s

/-- The body of a frame as it is sent at second `now`, without the CRC (R130). -/
def FrameRec.body (f : FrameRec) (station : BinId) (now : Nat) : List Byte :=
  match f.payload with
  | .fill es _ =>
    headerBytes 1 es.length station ++ es.flatMap (fun e => entryBytes e.report (ageAt e.rxAge e.rxTime now) e.hops)
  | .drain is => headerBytes 3 is.length station ++ is.flatMap itemBytes
  | .solicit t _ => headerBytes 2 1 station ++ targetBytes t

/-- The allowance after the frame enters SENDING: a FILL frame with a lead that is not exempt takes 1 (R130). -/
def State.spend (f : FrameRec) (s : State) : State :=
  if f.isFill && !f.leadExempt && !f.isProbe then
    { s with sel := { s.sel with allowance := s.sel.allowance - 1 } }
  else s

/-- The field outcome "won": the frame is SENDING, the allowance is spent, and a mute probe sets the probe timer
again (R130, R148). -/
def State.fieldWon (s : State) : State :=
  match s.sel.stage with
  | some x =>
    let sending := (s.spend x.frame)
    let marked := { sending with sel := { sending.sel with stage := some { x with cond := .sending } } }
    if x.frame.isProbe then { marked with mon := { marked.mon with probeTimer := s.cfg.probeInterval } } else marked
  | none => s

/-! ### Echo outcomes (R132 to R135) -/

/-- The state an echo outcome gives an entry whose send count has just risen to `sent` (R132). -/
def owingAfter (echoed : Bool) (sendLimit sent : Nat) : Owing → Owing
  | .owed => if echoed || decide (sendLimit ≤ sent) then .held else .owed
  | .held => .held
  | .drained => .drained

/-- A FILL outcome at one matching entry (R132). -/
def Entry.sentOnce (echoed : Bool) (sendLimit : Nat) (e : Entry) : Entry :=
  let sent := bump Config.smallCountMax e.sent
  { e with sent := sent, placed := .unplaced, owing := owingAfter echoed sendLimit sent e.owing }

/-- A reference of the frame matches the entry (R132). -/
def Entry.matchedBy (refs : List (BinId × Seq)) (e : Entry) : Bool := refs.contains (e.report.binId, e.report.seq)

/-- The outcome of a FILL frame: its matching entries, and OWN_SENT when an echoed reference matches the OWN entry
(R132). -/
def State.fillOutcome (echoed : Bool) (refs : List (BinId × Seq)) (s : State) : State :=
  let after :=
    { s with table := s.table.map (fun e => if e.matchedBy refs then e.sentOnce echoed s.cfg.sendLimit else e) }
  if echoed && s.ownEntry.any (fun e => e.matchedBy refs) then after.raise .ownSent else after

/-- A drain item after an UNECHOED frame that carried it: its send count one higher, or none at the send limit
(R133). -/
def DrainItem.unechoed (sendLimit : Nat) (i : DrainItem) : Option DrainItem :=
  let sent := bump Config.smallCountMax i.sent
  if sendLimit ≤ sent then none else some { i with sent := sent }

/-- The outcome of a DRAIN frame at the drain list and the drain-drop count; a change withdraws an uncommitted
DRAIN frame (R133, R128). -/
def State.drainOutcome (echoed : Bool) (items : List (BinId × Seq)) (s : State) : State :=
  let hit := fun (i : DrainItem) => items.contains (i.binId, i.seq)
  let hits := s.gw.drainList.filter hit
  if hits.isEmpty then s
  else if echoed then
    ({ s with gw := { s.gw with drainList := s.gw.drainList.filter (fun i => !hit i) } }).withdrawWhere
      FrameRec.isDrain
  else
    let dropped := (hits.filter (fun i => (i.unechoed s.cfg.sendLimit).isNone)).length
    ({ s with gw := { s.gw with
        drainList := s.gw.drainList.filterMap (fun i => if hit i then i.unechoed s.cfg.sendLimit else some i),
        drainDrop := min Config.count16Max (s.gw.drainDrop + dropped) } }).withdrawWhere FrameRec.isDrain

/-- The outcome of a SOLICIT frame at the pending solicit it carries (R134). -/
def State.solicitOutcome (echoed : Bool) (serial : Nat) (s : State) : State :=
  match s.gw.solicit with
  | none => s
  | some p =>
    if p.serial ≠ serial then s
    else
      let sent := bump Config.smallCountMax p.sent
      if echoed || decide (s.cfg.sendLimit ≤ sent) then
        ({ s with gw := { s.gw with solicit := none } }).withdrawWhere FrameRec.isSolicit
      else { s with gw := { s.gw with solicit := some { p with sent := sent } } }

/-- The outcome of the SENDING frame at its entries, items or solicit (R132 to R134). -/
def State.applyOutcome (echoed : Bool) (f : FrameRec) (s : State) : State :=
  match f.payload with
  | .fill _ _ => s.fillOutcome echoed f.refs
  | .drain is => s.drainOutcome echoed is
  | .solicit _ serial => s.solicitOutcome echoed serial

/-- The entry moves up with the BUILD frame: it is placed in BUILD, or it is the OWED entry of one of the frame's
references, whose placement an echo outcome has just set to NONE. An entry that outcome has made HELD stays unplaced, for
no STAGED frame places one that is not OWED (R122, R132, R135; notes/assumptions/14.md). -/
def Entry.movesUpWith (f : FrameRec) (e : Entry) : Bool :=
  e.placed == .build || (e.owing == .owed && e.matchedBy f.refs)

/-- STAGE empties, and a frame in BUILD moves up, each of its entries taking placement STAGE (R135). -/
def State.moveUp (s : State) : State :=
  match s.sel.build with
  | none => { s with sel := { s.sel with stage := none } }
  | some f =>
    { s with
      sel := { s.sel with build := none, stage := some { frame := f, cond := .staged } },
      table := s.table.map (fun e => if e.movesUpWith f then { e with placed := .stage } else e) }

/-- The echo outcome at the selector: applied, moved up, built (R132 to R135). Building waits until STAGE is EMPTY, also
where the outcome has just withdrawn BUILD: R126 and R128 would let it run while STAGE is still SENDING, and the manual
does not say which comes first (DESIGN CHOICE, notes/assumptions/22.md). -/
def State.echoOutcome (echoed : Bool) (s : State) : State :=
  match s.sel.stage with
  | some x => if x.cond = .sending then ((s.applyOutcome echoed x.frame).moveUp).selectorSettle else s
  | none => s

/-! ### MUTE and the allowance (R131, R136) -/

/-- MUTE is entered: the uncommitted frames are withdrawn (R136). -/
def State.enterMute (s : State) : State := (s.withdraw true true).selectorSettle

/-- MUTE is left: a STAGED probe loses its mark, and building runs (R136). -/
def State.leaveMute (s : State) : State :=
  (match s.sel.stage with
    | some x =>
      match x.cond, x.frame.payload with
      | .staged, .fill es true =>
        { s with sel := { s.sel with stage := some { x with frame := { x.frame with payload := .fill es false } } } }
      | _, _ => s
    | none => s).selectorSettle

/-- The refill: the refill count is set to 0 and the allowance rises by 1 up to the capacity (R131). -/
def State.refill (s : State) : State :=
  ({ s with sel := { s.sel with refillCount := 0, allowance := min s.cfg.capacity (s.sel.allowance + 1) } }).selectorSettle

end Sys2Proof.Machine
end

