-- ==== Sys2Proof/Machine/Engine.lean ====
section
/-! DEFINITION. The channel engine's transitions (chapters 1 and 2): entering each of its states, the radio lines
each sets, the linger timer, and what the engine does of itself at the first moment it can (R6, R8). -/

namespace Sys2Proof.Machine

/-- OFF, with the clearing of R2; the tail, if any, is still sent, with RADIO_EN and KEY high (R1, R2, R21). -/
def Engine.enterOff (tail : List Bool) (e : Engine) : Engine :=
  { e with state := .off, listen := none, linger := none, lingerExpired := false, watch := .clear, idleGap := 0,
           onAir := none, kindObs := none, slot := 0, part := .listener, tail := tail, radioEn := !tail.isEmpty,
           key := !tail.isEmpty, txd := none }

/-- DOZE, with the listen timer started (R4). -/
def Engine.enterDoze (period : Nat) (e : Engine) : Engine :=
  { e with state := .doze, listen := some period, linger := none, lingerExpired := false, watch := .clear,
           idleGap := 0, radioEn := false, key := false, txd := none }

/-- AWAKE, with CARRIER at the level read then: the idle-gap measure starts at 0, and so does the carrier watch if
CARRIER is high (R7, R8). -/
def Engine.enterAwake (carrier : Bool) (e : Engine) : Engine :=
  { e with state := .awake, listen := none, carrier := carrier, idleGap := 0, onAir := none,
           watch := { running := carrier, plain := 0, recognised := false }, radioEn := true, key := false,
           txd := none }

/-- The engine keys plain carrier, with TXD held at 0, or keys nothing (R1). -/
def Engine.keying (on : Bool) (e : Engine) : Engine := { e with key := on, txd := if on then some false else none }

/-- The linger timer is started with the configured linger and its expired mark cleared; only a bin station runs it
(R3, R5, R6). -/
def State.startLinger (s : State) : State :=
  if s.role = .bin then { s with eng := { s.eng with linger := some s.cfg.linger, lingerExpired := false } } else s

/-- The engine leaves OFF for the state its role gives (R3). -/
def State.leaveOff (s : State) : State :=
  match s.role with
  | .bin => { s with eng := s.eng.enterDoze s.cfg.listenPeriod }
  | .gateway => { s with eng := s.eng.enterAwake s.eng.carrier }

/-- The idle gap the standing requires (R8). -/
def Standing.gap : Standing → Nat
  | .active => Config.activeGap
  | .quiet => Config.quietGap
  | .mute => Config.quietGap

/-- WAKING is entered: the frame is COMMITTED and the engine keys its preamble (R8, R9, R127). -/
def State.enterWaking (s : State) : State :=
  let c := s.commit
  { c with eng := { c.eng with state := .waking }.keying true }

/-- What the engine does of itself in AWAKE while CARRIER is low: WAKING once an eligible frame is staged and the
measure has reached the gap (R8), DOZE in the bin role once linger has expired, nothing eligible is staged and no
recognised preamble awaits its fall (R6). -/
def State.engineSettle (s : State) : State :=
  if s.eng.state = .awake ∧ s.eng.carrier = false then
    if s.stageEligible then if s.mon.standing.gap ≤ s.eng.idleGap then s.enterWaking else s
    else if s.role = .bin ∧ s.eng.lingerExpired = true ∧ s.eng.watch.recognised = false then
      { s with eng := s.eng.enterDoze s.cfg.listenPeriod }
    else s
  else s

/-- The part the station takes in a field: a contender with its COMMITTED frame, or a listener (R23). -/
def Selector.fieldPart (sel : Selector) : FieldPart :=
  match sel.stage with
  | some x => if x.cond = .committed then .contender x.frame.key x.frame.isFill else .listener
  | none => .listener

/-- A contention field begins: a frame eligible at this instant is COMMITTED and joins it, and the kind-slot
observation is cleared (R10, R23, R27). -/
def State.beginField (s : State) : State :=
  let c := if s.stageEligible then s.commit else s
  { c with eng := { c.eng with state := .field, slot := 0, part := c.sel.fieldPart, kindObs := none, carrier := false,
                               watch := .clear, radioEn := true }.keying false }

/-- The contender loses: it keys no later slot, the lost-contention count rises, and the selector is told (R25,
R30, R127). -/
def State.loseField (s : State) : State :=
  ({ s with eng := { s.eng with part := .lost, lost := bump Config.count32Max s.eng.lost } }).fieldLost

/-- The contender keys slot `n` of the field: a key bit of 0, or in the kind slot a FILL frame (R25, R26). -/
def FieldPart.keys (n : Nat) : FieldPart → Bool
  | .contender key fill => if n < Config.kindSlot then !key.getLsbD (15 - n) else fill
  | _ => false

/-- The station is still contending. -/
def FieldPart.contends : FieldPart → Bool
  | .contender _ _ => true
  | _ => false

/-- RECEIVING is entered at the end of a field (R10, R29). -/
def Engine.enterReceiving (e : Engine) : Engine := { e with state := .receiving, onAir := none }.keying false

/-- SENDING is entered with the frozen body, its CRC appended (R12, R28). -/
def Engine.enterSending (body : List Byte) (e : Engine) : Engine :=
  { e with state := .sending, onAir := some (.sending (body ++ crcBytes body)), key := true, txd := none }

/-- A frame end that returns the engine to AWAKE: linger is restarted (R6). -/
def State.frameEnd (carrier : Bool) (s : State) : State := ({ s with eng := s.eng.enterAwake carrier }).startLinger

end Sys2Proof.Machine
end

