-- ==== Sys2Proof/Machine/Channel.lean ====
section
/-! DEFINITION. The doze and listen schedule, the carrier watch, the idle gap and the own preamble (R4 to R9). A
channel event that the engine's state does not allow changes nothing but the level of the line it names. -/

namespace Sys2Proof.Machine

/-- The listen timer expires in DOZE: SAMPLE (R4). -/
def execListenTimerExpiry (s : State) : Host.Outcome State Fault Refusal :=
  if s.eng.state = .doze ∧ s.eng.listen.isSome = true then
    .next { s with eng := { s.eng with state := .sample, listen := none, radioEn := true } }
  else .next s

/-- CARRIER is seen high in the sample window: AWAKE, with the carrier watch and linger started (R5). -/
def execSampleCarrierSeen (s : State) : Host.Outcome State Fault Refusal :=
  if s.eng.state = .sample then .next ({ s with eng := s.eng.enterAwake true }).startLinger else .next s

/-- The sample window ends without carrier: AWAKE with an eligible frame staged, DOZE otherwise (R5). -/
def execSampleWindowEnd (s : State) : Host.Outcome State Fault Refusal :=
  if s.eng.state = .sample then
    if s.stageEligible then .next ({ s with eng := s.eng.enterAwake false }).startLinger
    else .next { s with eng := ({ s.eng with carrier := false }).enterDoze s.cfg.listenPeriod }
  else .next s

/-- The linger timer runs out: the expired mark is set, and in AWAKE the engine dozes once it can (R6). -/
def execLingerExpiry (s : State) : Host.Outcome State Fault Refusal :=
  if s.eng.linger.isSome then
    .next ({ s with eng := { s.eng with linger := none, lingerExpired := true } }).engineSettle
  else .next s

/-- CARRIER rises: in AWAKE the carrier watch starts and the idle-gap measure is set back to 0 (R7, R8). -/
def execCarrierRise (s : State) : Host.Outcome State Fault Refusal :=
  if s.eng.state = .awake ∧ s.eng.carrier = false then
    .next { s with eng := { s.eng with carrier := true, idleGap := 0,
                                       watch := { running := true, plain := 0, recognised := false } } }
  else .next { s with eng := { s.eng with carrier := true } }

/-- The plain-carrier time reaches 20 ms: the preamble-recognised mark is set (R7). -/
def execPreambleRecognised (s : State) : Host.Outcome State Fault Refusal :=
  if s.eng.state = .awake ∧ s.eng.watch.running = true then
    .next { s with eng := { s.eng with watch := { s.eng.watch with plain := Config.preambleTime, recognised := true } } }
  else .next s

/-- RXD changes level: while CARRIER is high in AWAKE the plain-carrier time starts again (R7). -/
def execRxdLevelChange (s : State) : Host.Outcome State Fault Refusal :=
  if s.eng.state = .awake ∧ s.eng.watch.running = true then
    .next { s with eng := { s.eng with rxd := !s.eng.rxd, watch := { s.eng.watch with plain := 0 } } }
  else .next { s with eng := { s.eng with rxd := !s.eng.rxd } }

/-- CARRIER falls: in AWAKE, after a recognised preamble, a field begins; otherwise the watch is cleared, and the
idle-gap measure counts from here (R7, R8). -/
def execCarrierFall (s : State) : Host.Outcome State Fault Refusal :=
  if s.eng.state = .awake ∧ s.eng.carrier = true then
    if s.eng.watch.recognised then .next s.beginField
    else .next ({ s with eng := { s.eng with carrier := false, idleGap := 0, watch := .clear } }).engineSettle
  else .next { s with eng := { s.eng with carrier := false } }

/-- The idle-gap measure reaches the gap the standing requires; with an eligible frame staged the engine enters
WAKING (R8). -/
def execIdleGapReached (s : State) : Host.Outcome State Fault Refusal :=
  if s.eng.state = .awake ∧ s.eng.carrier = false then
    .next ({ s with eng := { s.eng with idleGap := max s.eng.idleGap s.mon.standing.gap } }).engineSettle
  else .next s

/-- The own preamble ends: KEY goes low, and with CARRIER low a field begins (R9). -/
def execWakeLengthEnd (carrier : Bool) (s : State) : Host.Outcome State Fault Refusal :=
  if s.eng.state = .waking ∧ s.eng.key = true then
    if carrier then .next { s with eng := ({ s.eng with carrier := true }).keying false } else .next s.beginField
  else .next s

/-- CARRIER falls in the wait after the own preamble: a field begins (R9). -/
def execWakingCarrierFall (s : State) : Host.Outcome State Fault Refusal :=
  if s.eng.state = .waking ∧ s.eng.key = false then .next s.beginField else .next s

/-- The cap of that wait is reached with CARRIER still high: AWAKE, and the COMMITTED frame is reported lost; the
lost-contention count stands (R9). -/
def execWakingCap (s : State) : Host.Outcome State Fault Refusal :=
  if s.eng.state = .waking ∧ s.eng.key = false then
    .next (({ s with eng := s.eng.enterAwake true }).fieldLost).engineSettle
  else .next s

end Sys2Proof.Machine
end

