-- ==== Sys2Proof/Machine/Clock.lean ====
section
/-! DEFINITION. The station clock and the three duties of the minute boundary (R80, R89, R131, R148). -/

namespace Sys2Proof.Machine

/-- One second of the station clock. It does not run while RESETN is low, and it stops at its end; reaching a
multiple of 60 makes a minute boundary due (R80, R179). -/
def execStationClockTick (s : State) : Host.Outcome State Fault Refusal :=
  if s.port.resetn = true ∧ s.clock < Config.clockMax then
    .next { s with clock := s.clock + 1, boundaryDue := s.boundaryDue || decide ((s.clock + 1) % 60 = 0) }
  else .next s

/-- The sweep frees this entry (R89). -/
def State.expires (s : State) (e : Entry) : Bool := e.origin != .own && decide (s.cfg.ageLimit ≤ e.ageAt s.clock)

/-- The sweep: the expired entries are freed, and in a gateway leave the export queue; the placed ones among them
are told to the selector (R88, R89). -/
def State.sweep (s : State) : State × Told :=
  let gone := s.table.filter s.expires
  let queue := s.gw.queue.filter (fun b => !(gone.any (fun e => e.report.binId == b)))
  ({ s with table := s.table.filter (fun e => !s.expires e), gw := { s.gw with queue := queue } },
    gone.foldl (fun told e => told.changed e) .nothing)

/-- The refill count takes a boundary in the bin role, up to the refill interval (R131). -/
def State.countBoundary (s : State) : State :=
  if s.role = .bin then
    { s with sel := { s.sel with refillCount := bump s.cfg.refillInterval s.sel.refillCount } }
  else s

/-- The probe timer falls by 1 in MUTE (R148). -/
def State.countProbe (s : State) : State :=
  if s.mon.standing = .mute then { s with mon := { s.mon with probeTimer := s.mon.probeTimer - 1 } } else s

/-- The clock hands a minute boundary to the carry table, the send selector and the standing monitor of a running
station (R80). With no boundary due there is none to hand. -/
def execMinuteBoundary (s : State) : Host.Outcome State Fault Refusal :=
  if s.boundaryDue then
    let taken := { s with boundaryDue := false }
    if s.running then
      let swept := taken.sweep
      .next ((swept.1.hear swept.2).countBoundary.countProbe).engineSettle
    else .next taken
  else .next s

/-- The refill count has reached the refill interval: the allowance is refilled (R131). -/
def execAllowanceRefill (s : State) : Host.Outcome State Fault Refusal :=
  if s.isBin = true ∧ s.cfg.refillInterval ≤ s.sel.refillCount then .next s.refill.engineSettle else .next s

/-- The probe timer has reached 0 in MUTE: a mute probe is due, and the selector builds it when it can (R137,
R148). -/
def execProbeTimerExpiry (s : State) : Host.Outcome State Fault Refusal :=
  if s.running = true ∧ s.mon.standing = .mute ∧ s.mon.probeTimer = 0 then .next s.selectorSettle.engineSettle
  else .next s

end Sys2Proof.Machine
end

