-- ==== Sys2Proof/Machine/Field.lean ====
section
/-! DEFINITION. The contention field and the sending of a frame (R24 to R30, R12). -/

namespace Sys2Proof.Machine

/-- One slot of the field: the station keys it or listens; a listening contender that hears carrier loses; and in
the kind slot a station that does not key records what it heard (R24 to R27). -/
def execFieldSlot (carrier : Bool) (s : State) : Host.Outcome State Fault Refusal :=
  if s.eng.state = .field ∧ s.eng.slot < Config.fieldSlots then
    let n := s.eng.slot
    let keyed := s.eng.part.keys n
    let moved :=
      { s with eng := ({ s.eng with
          slot := n + 1,
          kindObs := if n = Config.kindSlot ∧ keyed = false then some carrier else s.eng.kindObs }).keying keyed }
    .next (if s.eng.part.contends && !keyed && carrier then moved.loseField else moved)
  else .next s

/-- Carrier is first seen in the slot listened in: a contender loses (R25, R26). In the kind slot that carrier is
also the observation (R27). -/
def execContentionLost (s : State) : Host.Outcome State Fault Refusal :=
  if s.eng.state = .field ∧ 1 ≤ s.eng.slot ∧ s.eng.part.contends = true ∧ s.eng.key = false then
    .next ({ s with eng := { s.eng with
      kindObs := if s.eng.slot = Config.fieldSlots then some true else s.eng.kindObs } }).loseField
  else .next s

/-- The field ends: a contender still contending has won and enters SENDING; every other station enters RECEIVING
(R10, R28, R29). -/
def execFieldEnd (s : State) : Host.Outcome State Fault Refusal :=
  if s.eng.state = .field ∧ s.eng.slot = Config.fieldSlots then
    match s.eng.part.contends, s.sel.stage with
    | true, some x =>
      let won := s.fieldWon
      .next { won with eng := won.eng.enterSending (x.frame.body s.cfg.stationId s.clock) }
    | _, _ => .next { s with eng := s.eng.enterReceiving }
  else .next s

/-- The closing mark has been sent: KEY goes low, the frames-sent count rises, and the engine enters AWAIT_ECHO
(R12, R20). -/
def execClosingMarkSent (s : State) : Host.Outcome State Fault Refusal :=
  if s.eng.state = .sending then
    .next { s with eng := ({ s.eng with state := .awaitEcho, onAir := none,
                                        sent := bump Config.count32Max s.eng.sent }).keying false }
  else .next s

end Sys2Proof.Machine
end

