-- ==== Sys2Proof/Machine/Estimator.lean ====
section
/-! DEFINITION. The fill estimator (chapter 4): from a range sample to level, rate, time to full and class, the
report triggers, and the issue of own reports. -/

namespace Sys2Proof.Machine

/-- The filtered range of the window: the median of three, the larger of two, or the one range (R61). -/
def filteredRange : List Nat → Nat
  | [a] => a
  | [a, b] => max a b
  | [a, b, c] => max (min a b) (min (max a b) c)
  | _ => 0

/-- The level and OVERFULL of a filtered range, by the empty and full distances (R62). -/
def levelOf (empty full d : Nat) : Nat × Bool :=
  if empty ≤ d then (0, false)
  else if d < full then (1000, true)
  else if d = full then (1000, false)
  else ((2000 * (empty - d) + (empty - full)) / (2 * (empty - full)), false)

/-- The time to full of a level and a rate (R67). -/
def timeToFull (level rate : Nat) : Nat :=
  if 1000 ≤ level then 0
  else if rate = 0 then Config.notFilling
  else min 65534 (960 * (1000 - level) / rate)

/-- The computed class (R68). -/
def computedClass (c : HeldConfig) (level ttf : Nat) : Urgency :=
  if level = 1000 then 0
  else if ttf ≤ c.imminentHorizon then 1
  else if c.dueLevel ≤ level ∨ ttf ≤ c.dueHorizon then 2
  else 3

/-- The range joins the window, the oldest of three leaving first (R60). -/
def joinWindow (w : List Nat) (range : Nat) : List Nat := (if w.length < 3 then w else w.drop 1) ++ [range]

/-- The rate measured over `dt` seconds: floor of 16 × 3600 × the rise / dt, within 0 to 65535 (R66). -/
def measuredRate (level anchorLevel dt : Nat) : Nat := min 65535 (16 * 3600 * (level - anchorLevel) / dt)

/-- The rate step of a plain admitted sample at second `t` with no emptying detected (R65, R66). -/
def Estimator.rateStep (t level : Nat) (e : Estimator) : Estimator :=
  match e.anchor with
  | none => { e with anchor := some (level, t) }
  | some (la, ta) =>
    if t - ta < Config.rateInterval then e
    else
      let r16 := measuredRate level la (t - ta)
      { e with rate := if e.seeded then (3 * e.rate + r16) / 4 else r16, seeded := true, anchor := some (level, t) }

/-- Emptying is detected: the level has fallen by 250 or more from the previous level (R63). -/
def Estimator.empties (level : Nat) (e : Estimator) : Bool :=
  match e.figures with
  | some f => decide (level + Config.emptyingFall ≤ f.level)
  | none => false

/-- Step 5 of an admitted sample: R64 for a compaction sample, R63 on an emptying, and otherwise the rate step. -/
def Estimator.moveRate (t level : Nat) (compaction : Bool) (e : Estimator) : Estimator :=
  if compaction then { e with anchor := some (level, t) }
  else if e.empties level then
    { e with emptiedAt := some t, rate := 0, seeded := false, anchor := some (level, t) }
  else e.rateStep t level

/-- An admitted sample (R60): the estimator after it, and whether emptying was detected at it. -/
def Estimator.admitRange (c : HeldConfig) (t range : Nat) (compaction : Bool) (e : Estimator) : Estimator × Bool :=
  let window := joinWindow e.window range
  let d := filteredRange window
  let level := levelOf c.emptyDist c.fullDist d
  let moved := e.moveRate t level.1 compaction
  let ttf := timeToFull level.1 moved.rate
  ({ moved with
      faultRun := 0, faultState := false, window := window, sampleSince := true,
      figures := some { range := d, level := level.1, overfull := level.2, ttf := ttf,
                        cls := computedClass c level.1 ttf } },
    !compaction && e.empties level.1)

/-- A lid sample (R58). -/
def Estimator.lidSample (e : Estimator) : Estimator := { e with lidHeld := bump Config.count16Max e.lidHeld }

/-- A fault sample: the run rises up to 3, and the fault state is set when it gets there (R59). -/
def Estimator.faultSample (e : Estimator) : Estimator :=
  let run := bump 3 e.faultRun
  { e with faultRun := run, faultState := e.faultState || decide (run = 3) }

/-- The class a report issued now would carry: the computed class, at most 2 in the fault state (R69). -/
def Estimator.reportedClass (e : Estimator) (f : Figures) : Urgency := if e.faultState then min f.cls 2 else f.cls

/-- The own sequence (R55). -/
def Estimator.ownSeq (e : Estimator) : Seq := e.nextSeq - 1

/-- How far two levels lie apart. -/
def apart (a b : Nat) : Nat := (a - b) + (b - a)

/-- A trigger of R70 holds at second `t`; `emptied` is whether emptying was detected at this sample. While no
filtered level exists, none does. -/
def Estimator.triggered (c : HeldConfig) (t : Nat) (emptied : Bool) (e : Estimator) : Bool :=
  match e.figures with
  | none => false
  | some f =>
    match e.lastReport with
    | none => true
    | some r =>
      decide (c.reportDelta ≤ apart f.level r.level) || decide (e.reportedClass f ≠ r.cls) || emptied ||
        (e.faultState != r.fault) || decide (60 * c.heartbeat ≤ t - r.second)

/-- The own report of R73, issued at second `t` under sequence `seq`. -/
def ownReport (c : HeldConfig) (t : Nat) (emptied : Bool) (seq : Seq) (e : Estimator) (f : Figures) : Report :=
  { binId := c.stationId, seq := seq, kind := kindOf c.kindCode, cls := e.reportedClass f, overfull := f.overfull,
    emptied := emptied, fault := e.faultState, level := f.level, rate := e.rate, ttf := f.ttf,
    since := e.emptiedAt.map (fun at_ => min 65535 ((t - at_) / 60)) }

/-- The OWN entry an issued report becomes, before its position is known (R74). -/
def ownEntryOf (report : Report) (t : Nat) : Entry :=
  { position := 0, report := report, rxAge := 0, rxTime := t, hops := 0, origin := .own, owing := .owed,
    placed := .unplaced, heard := 0, sent := 0, exported := false }

/-- An own report is issued at second `t` with sequence `seq`, the next sequence becoming `next` (R73, R74). It
replaces the OWN entry in its position, or is inserted. -/
def State.issueOwn (t : Nat) (emptied : Bool) (seq next : Seq) (s : State) (told : Told) : State × Told :=
  match s.est.figures with
  | none => (s, told)
  | some f =>
    let report := ownReport s.cfg t emptied seq s.est f
    let entry := ownEntryOf report t
    let last : LastReport :=
      { level := f.level, cls := s.est.reportedClass f, second := t, fault := s.est.faultState }
    let issued :=
      ({ s with est := { s.est with nextSeq := next, lastReport := some last, sampleSince := false } }).raise .ownIssued
    match s.ownEntry with
    | some old =>
      ({ issued with table := changeEntry s.cfg.stationId (fun e => { entry with position := e.position }) issued.table },
        (told.changed old).owed entry)
    | none =>
      let r := issued.insert entry
      (r.1, if r.2 then told.owed entry else told)

/-- An own report under the next sequence (R73). -/
def State.issueNext (t : Nat) (emptied : Bool) (s : State) (told : Told) : State × Told :=
  s.issueOwn t emptied s.est.nextSeq (s.est.nextSeq + 1) told

/-- A sequence jump to a heard sequence newer than the own sequence (R72). In the half-distance case the report
carries the heard sequence and the next sequence stays one after it. -/
def State.sequenceJump (heard : Seq) (s : State) (told : Told) : State × Told :=
  let next := heard + 1
  let moved := ({ s with est := { s.est with nextSeq := next } }).raise .seqJump
  if serial next s.est.ownSeq = .unordered then moved.issueOwn s.clock false heard next told
  else moved.issueOwn s.clock false next (next + 1) told

/-- The estimator in its cleared state, the lid-held count kept (R78). -/
def Estimator.cleared (e : Estimator) : Estimator := { Estimator.reset with lidHeld := e.lidHeld }

end Sys2Proof.Machine
end

