-- ==== Sys2Proof/Machine/Serve.lean ====
section
/-! DEFINITION. The module port's transaction: the sync byte, the status byte, the checks of R172, the result bytes, and
what the rise of SEL leaves of them (chapters 10.1 and 10.2). -/

namespace Sys2Proof.Machine

/-- The result codes (R168). -/
inductive ResultCode where
  | ok
  | state
  | role
  | length
  | config
  | none
  | replaced
  | unknown
  deriving DecidableEq, Repr

/-- The byte of a result code (R168). -/
def ResultCode.byte : ResultCode → Byte
  | .ok => 0x00
  | .state => 0x01
  | .role => 0x02
  | .length => 0x03
  | .config => 0x04
  | .none => 0x05
  | .replaced => 0x06
  | .unknown => 0x07

/-- What R172's table gives of a command: its argument length, whether UNCONFIGURED accepts it, and the one role
that does, if only one does. -/
structure PortCommand where
  argBytes : Nat
  unconfigured : Bool
  role : Option Role
  deriving DecidableEq, Repr

/-- The rows of R172's table. -/
def PortCommand.readStatus : PortCommand := { argBytes := 0, unconfigured := true, role := none }
def PortCommand.start : PortCommand := { argBytes := Config.recordBytes, unconfigured := true, role := none }
def PortCommand.restart : PortCommand := { argBytes := 0, unconfigured := true, role := none }
def PortCommand.rejoin : PortCommand := { argBytes := 0, unconfigured := false, role := none }
def PortCommand.postSample : PortCommand := { argBytes := 3, unconfigured := false, role := some .bin }
def PortCommand.readOwn : PortCommand := { argBytes := 0, unconfigured := false, role := some .bin }
def PortCommand.readEntry : PortCommand := { argBytes := 3, unconfigured := false, role := none }
def PortCommand.readSlot : PortCommand := { argBytes := 1, unconfigured := false, role := none }
def PortCommand.solicit : PortCommand := { argBytes := 7, unconfigured := false, role := some .gateway }
def PortCommand.exportNext : PortCommand := { argBytes := 0, unconfigured := false, role := some .gateway }
def PortCommand.clearNotices : PortCommand := { argBytes := 1, unconfigured := false, role := none }
def PortCommand.setNoticeMask : PortCommand := { argBytes := 1, unconfigured := false, role := none }

/-- The refusal of a command by the checks of length, station life and role, in this order; the check of the code
is UNKNOWN_COMMAND (R172). -/
def PortCommand.check (c : PortCommand) (args : List Byte) (s : State) : Option ResultCode :=
  if args.length ≠ c.argBytes then some .length
  else if s.running = false ∧ c.unconfigured = false then some .state
  else if s.running = true ∧ c.role.any (fun r => r != s.role) then some .role
  else none

/-- What the part returns before the result phase: sync byte, status byte, and 0x00 for each argument byte
(R168, R173). -/
def State.head (args : List Byte) (s : State) : List Byte := 0x96 :: s.statusByte :: List.replicate args.length 0

/-- A transaction that is over, with these bytes on SDO. -/
def State.returns (bytes : List Byte) (s : State) : State :=
  { s with port := { s.port with sdo := bytes, resultAt := none } }

/-- A transaction past its effect point: the bytes before the result phase, and the result bytes to be clocked out
(R168, R170). The busy bytes that come between the two are known when SEL rises (`Port.selRises`). -/
def State.replies (head result : List Byte) (s : State) : State :=
  { s with port := { s.port with sdo := head ++ result, resultAt := some head.length } }

/-- What SDO carries until the result code is ready (R169). -/
def busyByte : Byte := 0xFF

/-- What SDO carries in a result phase with this result: the busy bytes, then the result bytes that were clocked out, and
0x00 for each byte behind the last of them (R168, R169, R171). -/
def carriedResult (clocked : Clocked) (result : List Byte) : List Byte :=
  List.replicate clocked.busy busyByte ++ (result ++ List.replicate clocked.bytes 0).take clocked.bytes

/-- SEL rises in the result phase with these bytes of it clocked out; the result bytes not clocked out are lost (R168,
R169, R171). -/
def Port.selRises (clocked : Clocked) (p : Port) : Port :=
  match p.resultAt with
  | some n => { p with sdo := p.sdo.take n ++ carriedResult clocked (p.sdo.drop n), resultAt := none }
  | none => p

/-- How many result bytes the open transaction has (R168). -/
def Port.resultLength (p : Port) : Nat :=
  match p.resultAt with
  | some n => p.sdo.length - n
  | none => 0

/-- A transaction up to its effect point: not served before the port is ready; otherwise checked and, if no check
refuses it, carried out by `act`, which gives the state and the result bytes (R168, R170, R172, R179). The status
byte is that of the state at the code byte. -/
def State.serve (c : PortCommand) (args : List Byte) (act : State → State × List Byte) (s : State) : State :=
  if s.port.ready then
    match c.check args s with
    | some code => s.replies (s.head args) [code.byte]
    | none => (act s).1.replies (s.head args) (act s).2
  else s.returns []

end Sys2Proof.Machine
end

