-- ==== Sys2Proof/Machine/Life.lean ====
section
/-! DEFINITION. Station life: START, RESTART, hard reset and its release, and the end of the abort tail. -/

namespace Sys2Proof.Machine

/-! ### START (R175 to R177) -/

/-- The next sequence at START in the bin role, by the start sequence and the sequence of a freed entry for the own
bin (R79). -/
def startSequence (start : Seq) (retained : Option Entry) : Seq :=
  match retained with
  | none => start
  | some e => if serial (e.report.seq + 1) start = .newer then e.report.seq + 1 else start

/-- The retained entries prepared for a configuration: the own bin's entry freed in the bin role, origins worked out
afresh, and exported marks set to no in the bin role (R100). -/
def prepareTable (c : HeldConfig) (t : List Entry) : List Entry :=
  let kept := if c.role = .bin then t.filter (fun e => e.report.binId != c.stationId) else t
  kept.map (fun e =>
    { e with origin := c.originOf e.report.binId, exported := if c.role = .bin then false else e.exported })

/-- The export queue START forms in the gateway role: the retained entries that are not DRAINED, in ascending order
of bin id (R100, R166). -/
def startQueue (c : HeldConfig) (t : List Entry) : List BinId :=
  if c.role = .gateway then
    ((t.filter (fun e => e.owing != .drained)).map (fun e => e.report.binId)).insertionSort
      (fun a b => a.toNat ≤ b.toNat)
  else []

/-- An accepted START: one change across the station (R177). While the abort tail is sent, the engine stays in OFF
to its end. -/
def State.startRunning (c : HeldConfig) (mask : FlagSet) (s : State) : State :=
  let table := prepareTable c s.table
  let queue := startQueue c table
  let retained := if c.role = .bin then s.entryOf c.stationId else none
  let est := { s.est.cleared with
    nextSeq := if c.role = .bin then startSequence c.startSeq retained else 0 }
  let configured :=
    { s with
      running := true, config := some c, table := table, est := est,
      sel := { s.sel with allowance := if c.role = .bin then c.capacity else 0, refillCount := 0 },
      gw := { s.gw with queue := queue },
      port := { s.port with mask := mask } }
  let noticed := if queue.isEmpty then configured else configured.raise .exportReady
  if s.eng.tail.isEmpty then noticed.leaveOff else noticed

/-- START past the checks of R172 (R175 to R177). -/
def State.startAct (args : List Byte) (s : State) : State × List Byte :=
  if s.running then (s, [ResultCode.state.byte])
  else
    let record := readRecord args
    match record.refusedField with
    | some n => (s, ResultCode.config.byte :: toBytes 1 n)
    | none =>
      let applied := record.apply
      (s.startRunning applied.1 record.noticeMask,
        [ResultCode.ok.byte] ++ toBytes 1 applied.2.length ++ applied.2.map (fun n => BitVec.ofNat 8 n))

/-- START (R175). -/
def execStart (args : List Byte) (s : State) : Host.Outcome State Fault Refusal :=
  .next (s.serve .start args (State.startAct args))

/-! ### RESTART (R178) -/

/-- The engine at RESTART: OFF; a frame in SENDING is ended by its tail, and an engine already in OFF goes on as it
stands (R21). -/
def Engine.restart (sentBits : Nat) (e : Engine) : Engine :=
  match e.state with
  | .off => e
  | .sending => e.enterOff (abortTail ((e.onAir.map (fun o => o.units)).getD []) sentBits)
  | _ => e.enterOff []

/-- The carry table at RESTART: the OWN entry freed, the rest kept with nothing owed (R99). -/
def restartTable (t : List Entry) : List Entry :=
  (t.filter (fun e => e.origin != .own)).map (fun e =>
    { e with owing := if e.owing = .owed then .held else e.owing, placed := .unplaced, heard := 0, sent := 0 })

/-- The gateway unit at RESTART (R167). -/
def Gateway.restart (g : Gateway) : Gateway :=
  { g with queue := [], inHand := none, drainList := [], solicit := none }

/-- RESTART of a running station: one change across the station (R178). -/
def State.restartRunning (sentBits : Nat) (s : State) : State :=
  { s with
    running := false, eng := s.eng.restart sentBits, pair := { s.pair with merging := none, waiting := none },
    table := restartTable s.table, est := s.est.cleared, sel := .reset, mon := .reset, gw := s.gw.restart,
    port := { s.port with flags := 0 } }

/-- RESTART past the checks of R172; in UNCONFIGURED it has no effect (R178). -/
def State.restartAct (sentBits : Nat) (s : State) : State × List Byte :=
  (if s.running then s.restartRunning sentBits else s, [ResultCode.ok.byte])

/-- RESTART (R178). -/
def execRestart (args : List Byte) (sentBits : Nat) (s : State) : Host.Outcome State Fault Refusal :=
  .next (s.serve .restart args (State.restartAct sentBits))

/-- The abort tail ends: KEY goes low, and the engine leaves OFF if START has taken effect (R21, R177). With no tail
being sent there is none to end. -/
def execAbortTailEnd (s : State) : Host.Outcome State Fault Refusal :=
  if s.eng.tail.isEmpty then .next s
  else
    let ended := { s with eng := { s.eng with tail := [], radioEn := false, key := false } }
    .next (if s.running then ended.leaveOff else ended)

/-! ### Hard reset (R179) -/

/-- Hard reset: every block in its hard-reset state, RESETN low. The commands waiting and the levels of CARRIER and
RXD are not the part's to clear. -/
def execHardReset (s : State) : Host.Outcome State Fault Refusal :=
  .next { State.reset with
    pending := s.pending, eng := { Engine.reset with carrier := s.eng.carrier, rxd := s.eng.rxd } }

/-- RESETN rises: the station clock starts from 0 (R80, R179). -/
def execResetRelease (s : State) : Host.Outcome State Fault Refusal :=
  if s.port.resetn then .next s
  else .next { s with clock := 0, boundaryDue := false, port := { s.port with resetn := true, ready := false } }

/-- 5 ms after RESETN rose the part serves transactions (R179). -/
def execPortReady (s : State) : Host.Outcome State Fault Refusal :=
  if s.port.resetn then .next { s with port := { s.port with ready := true } } else .next s

end Sys2Proof.Machine
end

