-- ==== Sys2Proof/Machine/Merge.lean ====
section
/-! DEFINITION. The merge unit (chapter 6): one part of the merging frame applied to the carry table. -/

namespace Sys2Proof.Machine

/-! ### Report entries of the own bin (R109 to R111) -/

/-- An OWED entry heard again at its sequence: the heard count rises, and at the suppress count the entry is HELD
(R109, R113). -/
def Entry.hearAgain (suppress : Nat) (e : Entry) : Entry :=
  let heard := bump Config.smallCountMax e.heard
  { e with heard := heard, owing := if suppress ≤ heard then .held else .owed }

/-- A change to the entry `e`, told to the selector as a change to a placed entry when it leaves OWED, and as a new
candidate when it becomes OWED (R88). -/
def State.alter (e : Entry) (f : Entry → Entry) (s : State) (told : Told) : State × Told :=
  ({ s with table := changeEntry e.report.binId f s.table },
    if e.owing = .owed ∧ (f e).owing ≠ .owed then told.changed e
    else if e.owing ≠ .owed ∧ (f e).owing = .owed then told.owed e
    else told)

/-- A report entry of the own bin with sequence `heard` (R109 to R111). -/
def State.mergeOwnBin (heard : Seq) (s : State) (told : Told) : State × Told :=
  match serial heard s.est.ownSeq with
  | .newer => s.sequenceJump heard told
  | .unordered => (s, told)
  | .equal =>
    match s.ownEntry with
    | some e => if e.owing = .owed then s.alter e (Entry.hearAgain s.cfg.suppressCount) told else (s, told)
    | none => (s, told)
  | .older =>
    match s.ownEntry with
    | some e =>
      if e.owing = .held ∧ e.sent < s.cfg.sendLimit then s.alter e (fun x => { x with owing := .owed }) told
      else (s, told)
    | none => (s, told)

/-! ### Report entries of other bins (R112 to R116) -/

/-- The arrival state: HELD in the gateway role and at or above the hop limit, OWED otherwise (R112). -/
def State.arrival (hops : Nat) (s : State) : Owing :=
  if s.role = .gateway ∨ s.cfg.hopLimit ≤ hops then .held else .owed

/-- The entry a received report is stored as, with the given position and origin (R112, R116). -/
def State.received (r : RxEntry) (rxTime position : Nat) (origin : Origin) (s : State) : Entry :=
  let hops := min Config.hopsMax (r.hops + 1)
  { position := position, report := r.report, rxAge := r.age, rxTime := rxTime, hops := hops, origin := origin,
    owing := s.arrival hops, placed := .unplaced, heard := 0, sent := 0, exported := false }

/-- A newer report replaces a held one (R112). -/
def State.supersede (r : RxEntry) (rxTime : Nat) (e : Entry) (s : State) (told : Told) : State × Told :=
  let new := s.received r rxTime e.position e.origin
  let changed := told.changed e
  (({ s with table := changeEntry e.report.binId (fun x => s.received r rxTime x.position x.origin) s.table }).queueJoin
      e.report.binId,
    if new.owing = .owed then changed.owed new else changed)

/-- A report entry of a held bin (R112 to R114). -/
def State.mergeHeldBin (r : RxEntry) (rxTime : Nat) (e : Entry) (s : State) (told : Told) : State × Told :=
  match serial r.report.seq e.report.seq with
  | .newer => s.supersede r rxTime e told
  | .unordered => (s, told)
  | .equal => if e.owing = .owed then s.alter e (Entry.hearAgain s.cfg.suppressCount) told else (s, told)
  | .older =>
    if s.role = .bin ∧ e.owing = .held ∧ e.sent < s.cfg.sendLimit ∧ e.hops < s.cfg.hopLimit then
      s.alter e (fun x => { x with owing := .owed }) told
    else (s, told)

/-- A report entry of an absent bin (R115, R116). -/
def State.mergeAbsentBin (r : RxEntry) (rxTime : Nat) (s : State) (told : Told) : State × Told :=
  let origin := s.cfg.originOf r.report.binId
  if (origin = .passing ∧ s.cfg.passingCarry = false) ∨ s.cfg.ageLimit ≤ ageAt r.age rxTime s.clock then (s, told)
  else
    let new := s.received r rxTime 0 origin
    let placed := s.insert new
    if placed.2 then
      (placed.1.queueJoin r.report.binId, if new.owing = .owed then told.owed new else told)
    else (placed.1, told)

/-- One report entry (R107, R108). -/
def State.mergeEntry (r : RxEntry) (rxTime : Nat) (s : State) (told : Told) : State × Told :=
  if r.malformed then (s, told)
  else if s.role = .bin ∧ r.report.binId = s.cfg.stationId then s.mergeOwnBin r.report.seq told
  else
    match s.entryOf r.report.binId with
    | some e => s.mergeHeldBin r rxTime e told
    | none => s.mergeAbsentBin r rxTime told

/-! ### The target of a SOLICIT frame (R117, R118) -/

/-- The entry becomes OWED with both counts 0 (R117, R118). -/
def Entry.solicited (e : Entry) : Entry := { e with owing := .owed, heard := 0, sent := 0 }

/-- The own bin's answer to a solicitation that matches it (R71, R117). -/
def State.solicitOwn (s : State) (told : Told) : State × Told :=
  let noticed := s.raise .solicited
  if s.est.figures.isSome && (s.est.triggered s.cfg s.clock false || s.est.sampleSince) then
    noticed.issueNext s.clock false told
  else
    match s.ownEntry with
    | some e => noticed.alter e Entry.solicited told
    | none => (noticed, told)

/-- A relayed entry answers the target (R118). -/
def State.answers (s : State) (t : Target) (e : Entry) : Bool :=
  e.origin != .own && t.selects e.report.binId && decide (e.report.cls ≤ t.maxClass) && e.owing != .owed &&
    decide (e.hops < s.cfg.hopLimit)

/-- The relayed entries' answer (R118). -/
def State.solicitRelayed (t : Target) (s : State) (told : Told) : State × Told :=
  ({ s with table := s.table.map (fun e => if s.answers t e then e.solicited else e) },
    (s.table.filter (s.answers t)).foldl (fun told e => told.owed e) told)

/-- The target of a SOLICIT frame; a gateway passes it over (R107). -/
def State.mergeTarget (t : Target) (s : State) (told : Told) : State × Told :=
  if s.role = .gateway then (s, told)
  else
    let own := if t.selects s.cfg.stationId then s.solicitOwn told else (s, told)
    own.1.solicitRelayed t own.2

/-! ### Items of a DRAIN frame (R119) -/

/-- One drain item: an OWED or HELD entry at the item's sequence or older becomes DRAINED, and in a gateway leaves
the export queue (R108, R119). -/
def State.mergeItem (i : RxItem) (s : State) (told : Told) : State × Told :=
  if i.malformed then (s, told)
  else
    match s.entryOf i.binId with
    | none => (s, told)
    | some e =>
      if e.owing ≠ .drained ∧ equalOrOlder e.report.seq i.seq = true then
        (({ s with table := changeEntry i.binId (fun x => { x with owing := .drained }) s.table }).queueLeave i.binId,
          told.changed e)
      else (s, told)

/-! ### The merge step (R105 to R107) -/

/-- The part of a frame at the cursor, applied to the table. -/
def State.mergePart (m : Merging) (s : State) : State × Told :=
  match m.frame.parts with
  | .fill es =>
    match es[m.cursor]? with
    | some r => s.mergeEntry r m.frame.rxTime .nothing
    | none => (s, .nothing)
  | .solicit t => s.mergeTarget t .nothing
  | .drain is =>
    match is[m.cursor]? with
    | some i => s.mergeItem i .nothing
    | none => (s, .nothing)

/-- The cursor moves on; after the last part the buffer empties and a WAITING frame becomes MERGING (R105). -/
def ReceivePair.advance (m : Merging) (p : ReceivePair) : ReceivePair :=
  if m.cursor + 1 < m.frame.parts.count then { p with merging := some { m with cursor := m.cursor + 1 } }
  else { p with merging := p.waiting.map (fun f => { frame := f, cursor := 0 }), waiting := none }

/-- One merge step, with what it means to the selector and then to the engine (R106). -/
def State.mergeOnce (s : State) : State :=
  match s.pair.merging with
  | none => s
  | some m =>
    let applied := s.mergePart m
    (({ applied.1 with pair := applied.1.pair.advance m }).hear applied.2).engineSettle

/-- MERGE_STEP (R106). With no frame merging there is nothing to apply. -/
def execMergeStep (s : State) : Host.Outcome State Fault Refusal := .next s.mergeOnce

end Sys2Proof.Machine
end

