-- ==== Sys2Proof/WellFormed.lean ====
section
/-! DEFINITION. Which terms of Instr are commands that can be sent: what the serial framing and the channel allow.
exec is total and does not ask for it; the statements about the port do. -/

namespace Sys2Proof

/-- The codes of the twelve commands (R172 and the chapters it refers to). -/
def commandCodes : List Byte :=
  [0x10, 0x20, 0x21, 0x22, 0x30, 0x31, 0x40, 0x41, 0x50, 0x51, 0x60, 0x61]

/-- The count byte gives 0 to 255 argument bytes (R168). -/
def argsFit (args : List Byte) : Bool := decide (args.length ≤ 255)

/-- The most bits a receiver can be taking: the stuffed body of 87 bytes and the closing mark (R13, R15). -/
def rxdBitsMax : Nat := 87 * 8 + 87 * 8 / 4 + 1 + 8

/-- The place at which SEL rises: fewer argument bytes are taken than the count gives (R171). -/
def Abandon.wellFormed : Abandon → Bool
  | .inCode => true
  | .inCount _ => true
  | .inArgs _ count taken => decide (taken.length < count.toNat)
  | .afterEffect _ => true

/-- A term that a sender can send. -/
def Instr.wellFormed : Instr → Bool
  | .readStatus args => argsFit args
  | .start args => argsFit args
  | .restart args _ => argsFit args
  | .rejoin args => argsFit args
  | .postSample args => argsFit args
  | .readOwn args => argsFit args
  | .readEntry args => argsFit args
  | .readSlot args => argsFit args
  | .solicit args => argsFit args
  | .exportNext args => argsFit args
  | .exportNextCompletion => true
  | .exportCutShort clocked => decide (clocked.bytes < 32)
  | .clearNotices args => argsFit args
  | .setNoticeMask args => argsFit args
  | .unknownCommand code args => argsFit args && !commandCodes.contains code
  | .transactionAbandoned place => place.wellFormed
  | .hardReset => true
  | .resetRelease => true
  | .portReady => true
  | .stationClockTick => true
  | .minuteBoundary => true
  | .allowanceRefill => true
  | .probeTimerExpiry => true
  | .listenTimerExpiry => true
  | .sampleCarrierSeen => true
  | .sampleWindowEnd => true
  | .lingerExpiry => true
  | .carrierRise => true
  | .preambleRecognised => true
  | .carrierFall => true
  | .idleGapReached => true
  | .wakeLengthEnd _ => true
  | .wakingCarrierFall => true
  | .wakingCap => true
  | .fieldSlot _ => true
  | .contentionLost => true
  | .fieldEnd => true
  | .closingMarkSent => true
  | .openingMarkFound rxd => decide (rxd.length ≤ 250)
  | .markWaitExpiry _ => true
  | .goodFrame rxd _ => decide (rxd.length ≤ rxdBitsMax)
  | .badFrame rxd _ => decide (rxd.length ≤ rxdBitsMax)
  | .echoSlotEnd _ => true
  | .awaitEchoEnd _ _ _ => true
  | .abortTailEnd => true
  | .mergeStep => true
  | .rxdLevelChange => true

end Sys2Proof
end

