-- ==== Sys2Proof/Machine/PortCommands.lean ====
section
/-! DEFINITION. The commands that act on a running station, the two ends of an EXPORT_NEXT transaction, unknown
commands and abandoned transactions. -/

namespace Sys2Proof.Machine

/-! ### REJOIN, CLEAR_NOTICES, SET_NOTICE_MASK (R147, R182, R183) -/

/-- REJOIN past the checks of R172 (R147). -/
def State.rejoinAct (s : State) : State × List Byte :=
  if s.mon.standing = .mute then ({ s with mon := { s.mon with armed := true } }, [ResultCode.ok.byte])
  else (s, [ResultCode.state.byte])

/-- REJOIN (R147). -/
def execRejoin (args : List Byte) (s : State) : Host.Outcome State Fault Refusal :=
  .next (s.serve .rejoin args State.rejoinAct)

/-- The one argument byte of a command that takes one. -/
def flagArg (args : List Byte) : FlagSet := BitVec.ofNat 8 (ofBytes args)

/-- CLEAR_NOTICES past the checks of R172 (R182). -/
def State.clearAct (set : FlagSet) (s : State) : State × List Byte :=
  ({ s with port := { s.port with flags := s.port.flags &&& ~~~set } }, [ResultCode.ok.byte, s.port.flags])

/-- CLEAR_NOTICES (R182). -/
def execClearNotices (args : List Byte) (s : State) : Host.Outcome State Fault Refusal :=
  .next (s.serve .clearNotices args (State.clearAct (flagArg args)))

/-- SET_NOTICE_MASK past the checks of R172 (R183). -/
def State.maskAct (mask : FlagSet) (s : State) : State × List Byte :=
  ({ s with port := { s.port with mask := mask } }, [ResultCode.ok.byte])

/-- SET_NOTICE_MASK (R183). -/
def execSetNoticeMask (args : List Byte) (s : State) : Host.Outcome State Fault Refusal :=
  .next (s.serve .setNoticeMask args (State.maskAct (flagArg args)))

/-! ### POST_SAMPLE (R56 to R60, R186) -/

/-- How a sample is taken (R57). -/
inductive SampleKind where
  | lid
  | fault
  | compaction
  | plain
  deriving DecidableEq, Repr

/-- The sample's kind by its flags byte and the bin kind (R57, R186). -/
def sampleKind (flags : Byte) (kind : BinKind) : SampleKind :=
  if flags.getLsbD 2 then .lid
  else if flags.getLsbD 1 then .fault
  else if flags.getLsbD 0 && kind == .compacting then .compaction
  else .plain

/-- The outcome byte of POST_SAMPLE (R186). -/
def SampleKind.outcome : SampleKind → Byte
  | .lid => 0
  | .fault => 1
  | .compaction => 2
  | .plain => 2

/-- The estimator after a sample at second `t`, and whether emptying was detected at it (R58 to R60). -/
def Estimator.takeSample (c : HeldConfig) (t range : Nat) (kind : SampleKind) (e : Estimator) : Estimator × Bool :=
  match kind with
  | .lid => (e.lidSample, false)
  | .fault => (e.faultSample, false)
  | .compaction => e.admitRange c t (min Config.rangeMax range) true
  | .plain => e.admitRange c t (min Config.rangeMax range) false

/-- POST_SAMPLE past the checks of R172: the sample is taken, the trigger check run, and an own report it issues
told to the selector (R56, R70). -/
def State.sampleAct (range : Nat) (flags : Byte) (s : State) : State × List Byte :=
  let kind := sampleKind flags (kindOf s.cfg.kindCode)
  let taken := s.est.takeSample s.cfg s.clock range kind
  let sampled := { s with est := taken.1 }
  let issues := taken.1.triggered s.cfg s.clock taken.2
  let done :=
    if issues then
      let r := sampled.issueNext s.clock taken.2 .nothing
      (r.1.hear r.2).engineSettle
    else sampled
  (done, [ResultCode.ok.byte, kind.outcome, markByte issues] ++ toBytes 2 done.est.ownSeq.toNat)

/-- POST_SAMPLE (R56). -/
def execPostSample (args : List Byte) (s : State) : Host.Outcome State Fault Refusal :=
  .next (s.serve .postSample args (State.sampleAct (fieldAt args 0 2) (BitVec.ofNat 8 (fieldAt args 2 1))))

/-! ### SOLICIT and EXPORT_NEXT (R157 to R163) -/

/-- SOLICIT past the checks of R172: a new pending solicit; one that replaces another withdraws the other's
uncommitted frame (R163, R128). -/
def State.solicitAct (bin mask : BinId) (maxClass : Nat) (s : State) : State × List Byte :=
  let new : PendingSolicit := { binId := bin, mask := mask, maxClass := maxClass, sent := 0, serial := s.gw.nextSerial }
  let made := { s with gw := { s.gw with solicit := some new, nextSerial := s.gw.nextSerial + 1 } }
  let cleared := if s.gw.solicit.isSome then made.withdrawWhere FrameRec.isSolicit else made
  (cleared.selectorSettle.engineSettle,
    [if s.gw.solicit.isSome then ResultCode.replaced.byte else ResultCode.ok.byte])

/-- SOLICIT (R163). -/
def execSolicit (args : List Byte) (s : State) : Host.Outcome State Fault Refusal :=
  .next (s.serve .solicit args
    (State.solicitAct (BitVec.ofNat 24 (fieldAt args 0 3)) (BitVec.ofNat 24 (fieldAt args 3 3)) (fieldAt args 6 1)))

/-- EXPORT_NEXT past the checks of R172: the head of the queue is snapshot and in hand (R157). -/
def State.exportAct (s : State) : State × List Byte :=
  match s.gw.queue.head?.bind s.entryOf with
  | some e =>
    ({ s with gw := { s.gw with inHand := some (e.report.binId, e.report.seq) } },
      [ResultCode.ok.byte] ++ e.record s.clock ++ toBytes 1 s.gw.queue.length)
  | none => ({ s with gw := { s.gw with inHand := none } }, [ResultCode.none.byte])

/-- EXPORT_NEXT up to its effect point (R157). -/
def execExportNext (args : List Byte) (s : State) : Host.Outcome State Fault Refusal :=
  .next (s.serve .exportNext args State.exportAct)

/-- The drain list after a delivered report enters it, whether an item was pushed out, and whether the list was
changed (R161). -/
def enterDrainList (b : BinId) (r : Seq) (l : List DrainItem) : List DrainItem × Bool × Bool :=
  match l.find? (fun i => i.binId == b) with
  | none =>
    let new : DrainItem := { binId := b, seq := r, sent := 0 }
    if l.length < Config.drainMax then (l ++ [new], false, true) else (l.drop 1 ++ [new], true, true)
  | some i =>
    match serial r i.seq with
    | .newer => (l.map (fun x => if x.binId = b then { x with seq := r, sent := 0 } else x), false, true)
    | .equal => (l.map (fun x => if x.binId = b then { x with sent := 0 } else x), false, true)
    | .older => (l, false, false)
    | .unordered => (l, false, false)

/-- The exported entry: exported, and DRAINED (R158). -/
def Entry.delivered (e : Entry) : Entry := { e with exported := true, owing := .drained }

/-- The three changes of a completed export (R158). -/
def State.deliver (b : BinId) (r : Seq) (s : State) : State :=
  let drain := enterDrainList b r s.gw.drainList
  let still := s.table.any (fun e => e.report.binId == b && e.report.seq == r)
  let listed :=
    { s with gw := { s.gw with
        inHand := none, drainList := drain.1,
        drainDrop := if drain.2.1 then bump Config.count16Max s.gw.drainDrop else s.gw.drainDrop } }
  let handed :=
    if still then { (listed.queueLeave b) with table := changeEntry b Entry.delivered listed.table } else listed
  if drain.2.2 then handed.withdrawWhere FrameRec.isDrain else handed

/-- SEL rises after the last result byte: the export in hand completes (R158). With none in hand the transaction ends
and nothing follows (R157). -/
def execExportNextCompletion (s : State) : Host.Outcome State Fault Refusal :=
  let ended := { s with port := { s.port with resultAt := none } }
  match s.gw.inHand with
  | some (b, r) => .next (ended.deliver b r).selectorSettle.engineSettle
  | none => .next ended

/-- SEL rises with these busy and result bytes out: the rest is lost, and the export in hand becomes absent (R160, R169,
R171). -/
def execExportCutShort (clocked : Clocked) (s : State) : Host.Outcome State Fault Refusal :=
  .next { s with gw := { s.gw with inHand := none }, port := s.port.selRises clocked }

/-! ### Unknown commands and abandoned transactions (R171, R172) -/

/-- A transaction whose code is not one of the twelve: its arguments are taken, and the result is UNKNOWN (R172).
A code of the twelve is none of these. -/
def execUnknownCommand (code : Byte) (args : List Byte) (s : State) : Host.Outcome State Fault Refusal :=
  if commandCodes.contains code then .next s
  else if s.port.ready then .next (s.replies (s.head args) [ResultCode.unknown.byte])
  else .next (s.returns [])

/-- A transaction abandoned before its effect point: no command takes effect, and SDO has carried the bytes returned in
full before SEL rose, if the transaction was served at all (R168, R171, R179). -/
def State.discards (returned : List Byte) (s : State) : State := s.returns (if s.port.ready then returned else [])

/-- SEL rises: before the effect point the transaction is discarded; after it the command has taken effect, and the
result bytes not clocked out are lost (R171). -/
def execTransactionAbandoned (place : Abandon) (s : State) : Host.Outcome State Fault Refusal :=
  match place with
  | .inCode => .next (s.discards [])
  | .inCount _ => .next (s.discards [0x96])
  | .inArgs _ count taken => if taken.length < count.toNat then .next (s.discards (s.head taken)) else .next s
  | .afterEffect clocked =>
    if s.gw.inHand.isSome ∧ clocked.bytes < s.port.resultLength then .next s
    else .next { s with port := s.port.selRises clocked }

end Sys2Proof.Machine
end

