-- ==== Sys2Proof/Machine/PortReads.lean ====
section
/-! DEFINITION. The commands that read: READ_STATUS, READ_OWN, READ_ENTRY, READ_SLOT. -/

namespace Sys2Proof.Machine

/-- The 47 bytes of READ_STATUS (R185). -/
def State.statusRecord (s : State) : List Byte :=
  [markByte s.running] ++ toBytes 1 s.role.code ++ toBytes 1 s.eng.state.code ++ toBytes 3 s.cfg.stationId.toNat ++
    toBytes 4 s.clock ++ [s.port.flags, s.port.mask] ++ toBytes 1 s.port.noticeVector ++
    toBytes 1 s.mon.standing.code ++ [markByte s.mon.armed] ++ toBytes 2 s.mon.sendFailure ++
    toBytes 1 s.mon.receptionFault ++ toBytes 1 s.mon.recovery ++ toBytes 1 s.sel.allowance ++
    toBytes 1 s.sel.refillCount ++ toBytes 1 s.gw.queue.length ++ toBytes 1 s.gw.drainList.length ++
    [markByte s.gw.solicit.isSome] ++ toBytes 1 s.table.length ++ toBytes 2 s.pair.overrun ++ toBytes 2 s.refusals ++
    toBytes 2 s.pair.clash ++ toBytes 2 s.est.lidHeld ++ toBytes 2 s.gw.drainDrop ++ toBytes 4 s.eng.heard ++
    toBytes 4 s.eng.sent ++ toBytes 4 s.eng.lost

/-- READ_STATUS (R185). -/
def execReadStatus (args : List Byte) (s : State) : Host.Outcome State Fault Refusal :=
  .next (s.serve .readStatus args (fun s => (s, ResultCode.ok.byte :: s.statusRecord)))

/-- The 46 bytes of READ_OWN; absent values read 0 (R76, R186). -/
def Estimator.ownRecord (e : Estimator) : List Byte :=
  toBytes 1 e.window.length ++ toBytes 2 (e.window.getD 0 0) ++ toBytes 2 (e.window.getD 1 0) ++
    toBytes 2 (e.window.getD 2 0) ++ toBytes 1 e.faultRun ++ [markByte e.faultState, markByte e.figures.isSome] ++
    (match e.figures with
      | some f =>
        toBytes 2 f.range ++ toBytes 2 f.level ++ [markByte f.overfull] ++ toBytes 2 f.ttf ++ toBytes 1 f.cls.val ++
          toBytes 1 (e.reportedClass f).val
      | none => List.replicate 9 0) ++
    toBytes 2 e.rate ++ [markByte e.seeded, markByte e.anchor.isSome] ++
    (match e.anchor with
      | some (level, second) => toBytes 2 level ++ toBytes 4 second
      | none => List.replicate 6 0) ++
    [markByte e.emptiedAt.isSome] ++ toBytes 4 (e.emptiedAt.getD 0) ++
    [markByte e.sampleSince, markByte e.lastReport.isSome] ++
    (match e.lastReport with
      | some r => toBytes 2 r.level ++ toBytes 1 r.cls.val ++ toBytes 4 r.second ++ [markByte r.fault]
      | none => List.replicate 8 0) ++
    toBytes 2 e.nextSeq.toNat

/-- READ_OWN (R76). -/
def execReadOwn (args : List Byte) (s : State) : Host.Outcome State Fault Refusal :=
  .next (s.serve .readOwn args (fun s => (s, ResultCode.ok.byte :: s.est.ownRecord)))

/-- The result of a read of the table: OK and the entry record, or NONE (R96, R97). -/
def State.entryResult (e : Option Entry) (s : State) : List Byte :=
  match e with
  | some e => ResultCode.ok.byte :: e.record s.clock
  | none => [ResultCode.none.byte]

/-- READ_ENTRY (R96). -/
def execReadEntry (args : List Byte) (s : State) : Host.Outcome State Fault Refusal :=
  .next (s.serve .readEntry args (fun s => (s, s.entryResult (s.entryOf (BitVec.ofNat 24 (ofBytes args))))))

/-- READ_SLOT (R97). A position of 128 to 255 holds no entry, so it gives NONE. -/
def execReadSlot (args : List Byte) (s : State) : Host.Outcome State Fault Refusal :=
  .next (s.serve .readSlot args (fun s => (s, s.entryResult (s.entryAt (ofBytes args)))))

end Sys2Proof.Machine
end

