-- ==== Sys2Proof/Machine/Standing.lean ====
section
/-! DEFINITION. The standing monitor (chapter 8): how its counts and the standing move, and what a change of standing
does at the send selector and the notices. -/

namespace Sys2Proof.Machine

/-- The standing worked out from the counts, outside MUTE (R144). -/
def Monitor.work (m : Monitor) : Monitor :=
  { m with
    standing :=
      if Config.quietThreshold < m.sendFailure ∨ Config.quietThreshold < m.receptionFault then .quiet else .active }

/-- MUTE is entered (R145). -/
def Monitor.enterMute (autoRejoin : Bool) (probeInterval : Nat) (m : Monitor) : Monitor :=
  { m with sendFailure := Config.muteCount, standing := .mute, recovery := 0, armed := autoRejoin,
           probeTimer := probeInterval }

/-- An echo outcome of an own frame: R142 and R145 outside MUTE, R149 in MUTE. -/
def Monitor.outcome (echoed autoRejoin : Bool) (probeInterval : Nat) (m : Monitor) : Monitor :=
  if m.standing = .mute then
    if echoed then
      { m with sendFailure := Config.probeEchoedCount, standing := .quiet, recovery := 0, armed := false }
    else { m with sendFailure := Config.muteCount }
  else if echoed then ({ m with sendFailure := m.sendFailure - 1 }).work
  else
    let count := min Config.muteCount (m.sendFailure + Config.unechoedStep)
    if count = Config.muteCount then m.enterMute autoRejoin probeInterval else ({ m with sendFailure := count }).work

/-- The reception-fault count after a good frame (R143). -/
def faultAfterGood (n : Nat) : Nat := if Config.quietThreshold < n then Config.faultResetCount else n - 1

/-- A good frame: the reception-fault count, and in MUTE the recovery (R143, R144, R146). -/
def Monitor.good (clash : Bool) (m : Monitor) : Monitor :=
  let counted := { m with receptionFault := faultAfterGood m.receptionFault }
  if m.standing = .mute then
    if m.armed && !clash then
      if Config.recoveryGoal ≤ m.recovery + 1 then
        { counted with standing := .active, sendFailure := 0, receptionFault := 0, recovery := 0, armed := false }
      else { counted with recovery := m.recovery + 1 }
    else counted
  else counted.work

/-- A bad frame (R143, R144). -/
def Monitor.bad (m : Monitor) : Monitor :=
  let counted := { m with receptionFault := bump Config.faultCountMax m.receptionFault }
  if m.standing = .mute then counted else counted.work

/-- The monitor takes its new state. A change of standing raises STANDING and is told to the send selector
(R144 to R146, R149; R136, R138). -/
def State.setMonitor (m : Monitor) (s : State) : State :=
  let after := { s with mon := m }
  if m.standing = s.mon.standing then after
  else
    let told := after.raise .standing
    if m.standing = .mute then told.enterMute
    else if s.mon.standing = .mute then told.leaveMute
    else told.selectorSettle

/-- The monitor takes an echo outcome (R142, R145, R149). -/
def State.monitorOutcome (echoed : Bool) (s : State) : State :=
  s.setMonitor (s.mon.outcome echoed s.cfg.autoRejoin s.cfg.probeInterval)

/-- The monitor takes the report of a good frame (R143, R146). -/
def State.monitorGood (clash : Bool) (s : State) : State := s.setMonitor (s.mon.good clash)

/-- The monitor takes the report of a bad frame (R143). -/
def State.monitorBad (s : State) : State := s.setMonitor s.mon.bad

end Sys2Proof.Machine
end

