-- ==== Sys2Proof/Machine/Reception.lean ====
section
/-! DEFINITION. Taking a frame and its outcome, the echo slot, and the echo outcome of an own frame (R11, R14 to R20,
R103, R104). -/

namespace Sys2Proof.Machine

/-- The opening mark is recognised in the hunt: taking the body begins (R11). -/
def execOpeningMarkFound (rxd : List Bool) (s : State) : Host.Outcome State Fault Refusal :=
  if s.eng.state = .receiving ∧ s.eng.onAir = none ∧ openingMarkAtEnd rxd = true then
    .next { s with eng := { s.eng with onAir := some .taking } }
  else .next s

/-- The mark wait ends with no mark: AWAKE, the kind-slot observation discarded, linger running on (R11). -/
def execMarkWaitExpiry (carrier : Bool) (s : State) : Host.Outcome State Fault Refusal :=
  if s.eng.state = .receiving ∧ s.eng.onAir = none then
    .next ({ s with eng := ({ s.eng with kindObs := none }).enterAwake carrier }).engineSettle
  else .next s

/-- The receive pair takes a frame: MERGING when idle, WAITING behind a MERGING frame, in place of one WAITING
(R103). -/
def ReceivePair.place (f : RxFrame) (p : ReceivePair) : ReceivePair × Bool :=
  match p.merging, p.waiting with
  | none, _ => ({ p with merging := some { frame := f, cursor := 0 } }, false)
  | some _, none => ({ p with waiting := some f }, false)
  | some _, some _ => ({ p with waiting := some f, overrun := bump Config.count16Max p.overrun }, true)

/-- The hand-over of a good frame: a clash is counted and not placed; an overwrite raises OVERRUN (R103, R104). -/
def State.handOver (f : RxFrame) (s : State) : State :=
  if f.sender = s.cfg.stationId then
    { s with pair := { s.pair with clash := bump Config.count16Max s.pair.clash } }
  else
    let r := s.pair.place f
    if r.2 then ({ s with pair := r.1 }).raise .overrun else { s with pair := r.1 }

/-- ECHOING is entered; the echo is keyed in ACTIVE standing (R19). -/
def Engine.enterEchoing (standing : Standing) (e : Engine) : Engine :=
  ({ e with state := .echoing, onAir := none } : Engine).keying (standing == .active)

/-- A good frame completes: handed over, counted, told to the monitor, and echoed by the standing before or after
the monitor's report (R17, R19, R144). -/
def State.goodFrame (f : RxFrame) (monitorFirst : Bool) (s : State) : State :=
  let taken := (s.handOver f).monitorGood (decide (f.sender = s.cfg.stationId))
  let standing := if monitorFirst then taken.mon.standing else s.mon.standing
  { taken with eng := ({ taken.eng with heard := bump Config.count32Max taken.eng.heard }).enterEchoing standing }

/-- GOOD_FRAME: the bits pass every check (R17). Bits that do not are no good frame. -/
def execGoodFrame (rxd : List Bool) (monitorFirst : Bool) (s : State) : Host.Outcome State Fault Refusal :=
  if s.eng.state = .receiving ∧ s.eng.onAir.isSome = true then
    match judge rxd s.eng.kindObs s.clock with
    | .good f => .next (s.goodFrame f monitorFirst)
    | _ => .next s
  else .next s

/-- The bits make a bad frame: a failed check, or CARRIER falling before the closing mark is complete (R14, R18). -/
def endsBad (rxd : List Bool) (carrierSeen : Option Bool) (second : Nat) (carrier : Bool) : Bool :=
  match judge rxd carrierSeen second with
  | .good _ => false
  | .bad => true
  | .unfinished => !carrier

/-- BAD_FRAME: told to the monitor and discarded with the kind-slot observation; AWAKE, linger restarted (R18). -/
def execBadFrame (rxd : List Bool) (carrier : Bool) (s : State) : Host.Outcome State Fault Refusal :=
  if s.eng.state = .receiving ∧ s.eng.onAir.isSome = true ∧ endsBad rxd s.eng.kindObs s.clock carrier = true then
    let told := s.monitorBad
    .next (({ told with eng := { told.eng with kindObs := none } }).frameEnd carrier).engineSettle
  else .next s

/-- The echo slot after a good frame ends: AWAKE, linger restarted (R19). -/
def execEchoSlotEnd (carrier : Bool) (s : State) : Host.Outcome State Fault Refusal :=
  if s.eng.state = .echoing then .next (s.frameEnd carrier).engineSettle else .next s

/-- The echo outcome at the selector and the monitor, in one of the two orders of R136. -/
def State.takeOutcome (echoed monitorFirst : Bool) (s : State) : State :=
  if monitorFirst then (s.monitorOutcome echoed).echoOutcome echoed else (s.echoOutcome echoed).monitorOutcome echoed

/-- The echo slot after the own frame ends: ECHOED when carrier was seen in it, UNECHOED otherwise; AWAKE, linger
restarted (R20). -/
def execAwaitEchoEnd (echo carrier monitorFirst : Bool) (s : State) : Host.Outcome State Fault Refusal :=
  if s.eng.state = .awaitEcho then .next ((s.takeOutcome echo monitorFirst).frameEnd carrier).engineSettle
  else .next s

end Sys2Proof.Machine
end

