-- ==== Sys2Proof/Machine/Dispatch.lean ====
section
/-! DEFINITION. The effect of each command on everything but the queue of waiting commands, one arm a constructor. -/

namespace Sys2Proof.Machine

def exec (i : Instr) (s : State) : Host.Outcome State Fault Refusal :=
  match i with
  | .readStatus args => Sys2Proof.Machine.execReadStatus args s
  | .start args => Sys2Proof.Machine.execStart args s
  | .restart args sentBits => Sys2Proof.Machine.execRestart args sentBits s
  | .rejoin args => Sys2Proof.Machine.execRejoin args s
  | .postSample args => Sys2Proof.Machine.execPostSample args s
  | .readOwn args => Sys2Proof.Machine.execReadOwn args s
  | .readEntry args => Sys2Proof.Machine.execReadEntry args s
  | .readSlot args => Sys2Proof.Machine.execReadSlot args s
  | .solicit args => Sys2Proof.Machine.execSolicit args s
  | .exportNext args => Sys2Proof.Machine.execExportNext args s
  | .exportNextCompletion => Sys2Proof.Machine.execExportNextCompletion s
  | .exportCutShort clocked => Sys2Proof.Machine.execExportCutShort clocked s
  | .clearNotices args => Sys2Proof.Machine.execClearNotices args s
  | .setNoticeMask args => Sys2Proof.Machine.execSetNoticeMask args s
  | .unknownCommand code args => Sys2Proof.Machine.execUnknownCommand code args s
  | .transactionAbandoned place => Sys2Proof.Machine.execTransactionAbandoned place s
  | .hardReset => Sys2Proof.Machine.execHardReset s
  | .resetRelease => Sys2Proof.Machine.execResetRelease s
  | .portReady => Sys2Proof.Machine.execPortReady s
  | .stationClockTick => Sys2Proof.Machine.execStationClockTick s
  | .minuteBoundary => Sys2Proof.Machine.execMinuteBoundary s
  | .allowanceRefill => Sys2Proof.Machine.execAllowanceRefill s
  | .probeTimerExpiry => Sys2Proof.Machine.execProbeTimerExpiry s
  | .listenTimerExpiry => Sys2Proof.Machine.execListenTimerExpiry s
  | .sampleCarrierSeen => Sys2Proof.Machine.execSampleCarrierSeen s
  | .sampleWindowEnd => Sys2Proof.Machine.execSampleWindowEnd s
  | .lingerExpiry => Sys2Proof.Machine.execLingerExpiry s
  | .carrierRise => Sys2Proof.Machine.execCarrierRise s
  | .preambleRecognised => Sys2Proof.Machine.execPreambleRecognised s
  | .carrierFall => Sys2Proof.Machine.execCarrierFall s
  | .idleGapReached => Sys2Proof.Machine.execIdleGapReached s
  | .wakeLengthEnd carrier => Sys2Proof.Machine.execWakeLengthEnd carrier s
  | .wakingCarrierFall => Sys2Proof.Machine.execWakingCarrierFall s
  | .wakingCap => Sys2Proof.Machine.execWakingCap s
  | .fieldSlot carrier => Sys2Proof.Machine.execFieldSlot carrier s
  | .contentionLost => Sys2Proof.Machine.execContentionLost s
  | .fieldEnd => Sys2Proof.Machine.execFieldEnd s
  | .closingMarkSent => Sys2Proof.Machine.execClosingMarkSent s
  | .openingMarkFound rxd => Sys2Proof.Machine.execOpeningMarkFound rxd s
  | .markWaitExpiry carrier => Sys2Proof.Machine.execMarkWaitExpiry carrier s
  | .goodFrame rxd monitorFirst => Sys2Proof.Machine.execGoodFrame rxd monitorFirst s
  | .badFrame rxd carrier => Sys2Proof.Machine.execBadFrame rxd carrier s
  | .echoSlotEnd carrier => Sys2Proof.Machine.execEchoSlotEnd carrier s
  | .awaitEchoEnd echo carrier monitorFirst => Sys2Proof.Machine.execAwaitEchoEnd echo carrier monitorFirst s
  | .abortTailEnd => Sys2Proof.Machine.execAbortTailEnd s
  | .mergeStep => Sys2Proof.Machine.execMergeStep s
  | .rxdLevelChange => Sys2Proof.Machine.execRxdLevelChange s

end Sys2Proof.Machine
end

