-- ==== Sys2Proof/Safety.lean ====
section
/-! DEFINITION. What a safe run keeps: the invariants the manual states of each block, as properties of one state, and
the words the statements use for frames. Each invariant is closed under every step; where one needs another as a
premise, the statement says so. -/

namespace Sys2Proof.Machine

/-! ### The carry table (R82 to R84) -/

/-- The positions of a table stand in rising order within 0 to 127, and no two entries have one bin id (R82). -/
abbrev tableWf (t : List Entry) : Prop :=
  t.Pairwise (fun a b => a.position < b.position ∧ a.report.binId ≠ b.report.binId) ∧
    ∀ e ∈ t, e.position < Config.positions

/-- OWN is the origin of exactly the own bin's entry while RUNNING in the bin role, and of none otherwise (R84). -/
abbrev State.originsOk (s : State) : Prop :=
  ∀ e ∈ s.table, (e.origin = .own ↔ s.isBin = true ∧ e.report.binId = s.cfg.stationId)

/-- The carry table is well formed (R82, R84). -/
abbrev State.tableOk (s : State) : Prop := tableWf s.table ∧ s.originsOk

/-! ### The ranges of values (R55, R83) -/

/-- The figures of a report lie in the ranges of R41. -/
abbrev Report.inRange (r : Report) : Prop :=
  r.level ≤ 1000 ∧ r.rate ≤ 65535 ∧ r.ttf ≤ 65535 ∧ r.since.getD 0 ≤ 65535

/-- The fields of an entry lie in the ranges of R83. -/
abbrev Entry.inRange (e : Entry) : Prop :=
  e.report.inRange ∧ e.rxAge ≤ Config.ageMax ∧ e.rxTime ≤ Config.clockMax ∧ e.hops ≤ Config.hopsMax ∧
    e.heard ≤ Config.smallCountMax ∧ e.sent ≤ Config.smallCountMax

/-- The frozen copies of a frame record, if it has any (R122). -/
def FrameRec.copies (f : FrameRec) : List Frozen :=
  match f.payload with
  | .fill es _ => es
  | _ => []

/-- A frozen copy lies in the ranges of R83. -/
abbrev Frozen.inRange (e : Frozen) : Prop :=
  e.report.inRange ∧ e.rxAge ≤ Config.ageMax ∧ e.rxTime ≤ Config.clockMax ∧ e.hops ≤ Config.hopsMax

/-- The report entries of a received frame, if it has any (R52). -/
def RxParts.entries : RxParts → List RxEntry
  | .fill es => es
  | .solicit _ => []
  | .drain _ => []

/-- The receipt time and the entries of a received frame lie in the ranges of R41 and R52. -/
abbrev RxFrame.inRange (f : RxFrame) : Prop :=
  f.rxTime ≤ Config.clockMax ∧
    ∀ e ∈ f.parts.entries, e.report.inRange ∧ e.age ≤ Config.ageMax ∧ e.hops ≤ Config.hopsMax

/-- The frames the receive pair holds. -/
def ReceivePair.frames (p : ReceivePair) : List RxFrame := (p.merging.map (fun m => m.frame)).toList ++ p.waiting.toList

/-- The estimator's items lie in the ranges of R55. -/
abbrev Estimator.inRange (e : Estimator) : Prop :=
  e.window.length ≤ 3 ∧ (∀ d ∈ e.window, d ≤ Config.rangeMax) ∧ e.faultRun ≤ 3 ∧ e.rate ≤ 65535 ∧
    (∀ f ∈ e.figures.toList, f.level ≤ 1000 ∧ f.ttf ≤ 65535 ∧ f.range ≤ Config.rangeMax) ∧
    (∀ a ∈ e.anchor.toList, a.1 ≤ 1000 ∧ a.2 ≤ Config.clockMax) ∧ (∀ t ∈ e.emptiedAt.toList, t ≤ Config.clockMax) ∧
    (∀ r ∈ e.lastReport.toList, r.level ≤ 1000 ∧ r.second ≤ Config.clockMax) ∧ e.lidHeld ≤ Config.count16Max

/-- The gateway unit's counts and the maximum class of the pending solicit lie in the ranges of R153. -/
abbrev Gateway.inRange (g : Gateway) : Prop :=
  (∀ i ∈ g.drainList, i.sent ≤ Config.smallCountMax) ∧
    ∀ p ∈ g.solicit.toList, p.sent ≤ Config.smallCountMax ∧ p.maxClass ≤ 255

/-- The saturating counters and the clock stay within their widths (R80, R185). -/
abbrev State.countersInRange (s : State) : Prop :=
  s.clock ≤ Config.clockMax ∧ s.pair.overrun ≤ Config.count16Max ∧ s.refusals ≤ Config.count16Max ∧
    s.pair.clash ≤ Config.count16Max ∧ s.gw.drainDrop ≤ Config.count16Max ∧ s.eng.heard ≤ Config.count32Max ∧
    s.eng.sent ≤ Config.count32Max ∧ s.eng.lost ≤ Config.count32Max

/-- Every value the part keeps of a report, in the table, in a received frame or in a frame slot, of the estimator, of
the gateway unit and of a counter lies in the range the manual gives it. -/
abbrev State.valuesOk (s : State) : Prop :=
  (∀ e ∈ s.table, e.inRange) ∧ (∀ f ∈ s.pair.frames, f.inRange) ∧ (∀ f ∈ s.sel.frames, ∀ e ∈ f.copies, e.inRange) ∧
    s.est.inRange ∧ s.gw.inRange ∧ s.countersInRange ∧ ∀ n ∈ s.port.resultAt.toList, n ≤ s.port.sdo.length

/-! ### The standing monitor (R141) -/

/-- The bounds R141 lays on the counts, standing by standing, with the recovery of R145 to R149. -/
abbrev Monitor.ok (m : Monitor) : Prop :=
  m.receptionFault ≤ Config.faultCountMax ∧ m.recovery < Config.recoveryGoal ∧
    (m.standing = .mute → m.sendFailure = Config.muteCount) ∧
    (m.standing ≠ .mute → m.sendFailure < Config.muteCount ∧ m.armed = false) ∧
    (m.standing = .active → m.sendFailure ≤ Config.quietThreshold ∧ m.receptionFault ≤ Config.quietThreshold) ∧
    (m.standing = .quiet → Config.quietThreshold < m.sendFailure ∨ Config.quietThreshold < m.receptionFault) ∧
    (m.armed = false → m.recovery = 0)

/-! ### The channel engine (R1, R2) -/

/-- In OFF every timer is stopped and everything R2 clears is clear. -/
abbrev Engine.offClear (e : Engine) : Prop :=
  e.state = .off →
    e.listen = none ∧ e.linger = none ∧ e.lingerExpired = false ∧ e.watch = .clear ∧ e.idleGap = 0 ∧ e.onAir = none ∧
      e.kindObs = none

/-- RADIO_EN, KEY and TXD stand as the tables of R1 and R2 give them for the engine state. -/
abbrev Engine.linesOk (e : Engine) : Prop :=
  (e.tail ≠ [] → e.state = .off) ∧
    (e.radioEn = true ↔ (e.state ≠ .off ∧ e.state ≠ .doze) ∨ e.tail ≠ []) ∧
    (e.state = .off → (e.key = true ↔ e.tail ≠ [])) ∧
    (e.state ∈ [EngineState.doze, .sample, .awake, .receiving, .awaitEcho] → e.key = false) ∧
    (e.state = .sending → e.key = true) ∧
    (e.state ∈ [EngineState.waking, .field, .echoing] → e.key = true → e.txd = some false)

/-! ### Station life (R174, R177, R178) -/

/-- An entry as RESTART leaves it: not OWN, not OWED, unplaced, both counts 0 (R99). -/
abbrev Entry.retained (e : Entry) : Prop :=
  e.origin ≠ .own ∧ e.owing ≠ .owed ∧ e.placed = .unplaced ∧ e.heard = 0 ∧ e.sent = 0

/-- The engine in OFF is clear, and while the station is UNCONFIGURED the engine is OFF and every block holds its
cleared state (R2, R99, R121, R78, R140, R151, R167, R178). -/
abbrev State.clearedOk (s : State) : Prop :=
  s.eng.offClear ∧
    (s.running = false →
      s.eng.state = .off ∧ s.pair.merging = none ∧ s.pair.waiting = none ∧ (∀ e ∈ s.table, e.retained) ∧
        s.est = { Estimator.reset with lidHeld := s.est.lidHeld } ∧ s.sel = .reset ∧ s.mon = .reset ∧
        s.gw.queue = [] ∧ s.gw.inHand = none ∧ s.gw.drainList = [] ∧ s.gw.solicit = none ∧ s.port.flags = 0)

/-! ### The held configuration (R176) -/

/-- A value lies in a closed range. -/
def within (lo hi v : Nat) : Bool := decide (lo ≤ v ∧ v ≤ hi)

/-- The fields of the bin role lie in the ranges of the record's table (R175, R176). -/
def HeldConfig.binInRange (c : HeldConfig) : Bool :=
  validBinId c.stationId && within 0 3 c.kindCode && within 200 4000 c.emptyDist &&
    (within 50 4000 c.fullDist && decide (c.fullDist + 100 ≤ c.emptyDist)) && within 500 990 c.dueLevel &&
    within 30 1440 c.imminentHorizon && within c.imminentHorizon 4320 c.dueHorizon && within 10 500 c.reportDelta &&
    within 60 1440 c.heartbeat && [250, 500, 1000, 2000].contains c.listenPeriod && within 500 10000 c.linger &&
    within 1 15 c.hopLimit && within 1 7 c.suppressCount && within 1 60 c.capacity && within 1 60 c.refillInterval

/-- The fields of the started role lie in the ranges of the record's table (R175, R176). -/
def HeldConfig.inRange (c : HeldConfig) : Bool :=
  within 270 2100 c.wakeLength && within 30 4095 c.ageLimit && within 1 7 c.sendLimit &&
    within 10 240 c.probeInterval &&
    (match c.role with
      | .bin => c.binInRange
      | .gateway => validGatewayId c.stationId)

/-- A running station holds a configuration, the configuration held is in range, and the counts it bounds are within
it: the allowance, the refill count and the probe timer (R131, R141, R174, R176). -/
abbrev State.configOk (s : State) : Prop :=
  (s.running = true → s.config.isSome = true) ∧ (∀ c ∈ s.config.toList, c.inRange = true) ∧
    s.sel.allowance ≤ s.cfg.capacity ∧ s.sel.refillCount ≤ s.cfg.refillInterval ∧
    s.mon.probeTimer ≤ s.cfg.probeInterval

/-! ### The frame slots (R122, R123, R127) -/

/-- The condition of the frame in STAGE, if there is one. -/
def Selector.stageCond (sel : Selector) : Option StageCond := sel.stage.map (fun x => x.cond)

/-- BUILD holds a frame only while STAGE does; STAGE is COMMITTED exactly in WAKING and while contending in a field,
with the key and kind the engine contends with, and SENDING exactly from the win to the echo outcome (R122, R23,
R127). -/
abbrev State.slotsOk (s : State) : Prop :=
  (s.sel.build ≠ none → s.sel.stage ≠ none) ∧
    (s.sel.stageCond = some .committed ↔ s.eng.state = .waking ∨ (s.eng.state = .field ∧ s.eng.part.contends = true)) ∧
    (s.sel.stageCond = some .sending ↔ s.eng.state = .sending ∨ s.eng.state = .awaitEcho) ∧
    (s.eng.state = .field → s.eng.part.contends = true → s.eng.part = s.sel.fieldPart)

/-- Every entry placed in BUILD is OWED and named by the BUILD frame; every entry placed in STAGE is named by the STAGE
frame, and is OWED while that frame is STAGED (R122). -/
abbrev State.placedOk (s : State) : Prop :=
  ∀ e ∈ s.table,
    (e.placed = .build → e.owing = .owed ∧
      ∃ f ∈ s.sel.build.toList, (e.report.binId, e.report.seq) ∈ f.refs) ∧
    (e.placed = .stage →
      ∃ x ∈ s.sel.stage.toList, (e.report.binId, e.report.seq) ∈ x.frame.refs ∧ (x.cond = .staged → e.owing = .owed))

/-- An admitted FILL candidate, read from R123. -/
def State.mayFill (s : State) (e : Entry) : Prop :=
  e.owing = .owed ∧ e.placed = .unplaced ∧ s.mon.standing ≠ .mute ∧
    (e.origin = .own ∨ e.report.cls = 0 ∨ s.mon.standing = .active ∧ 1 ≤ s.sel.allowance)

/-- A DRAIN frame in a slot carries the item at its listed sequence (R123). -/
def Selector.announces (sel : Selector) (i : DrainItem) : Prop :=
  ∃ f ∈ sel.frames, ∃ items, f.payload = .drain items ∧ (i.binId, i.seq) ∈ items

/-- A running selector has nothing left to do: with BUILD EMPTY nothing is admitted, and a STAGED frame is eligible or
nothing is admitted; a STAGED SOLICIT frame stands only while the drain list is empty (R125, R126, R138). -/
def State.settled (s : State) : Prop :=
  s.running = true →
    (s.role = .bin → s.sel.build = none ∨ (s.sel.stageCond = some .staged ∧ s.stageEligible = false) →
      ∀ e ∈ s.table, ¬ s.mayFill e) ∧
    (s.role = .gateway →
      (s.sel.build = none → s.mon.standing ≠ .mute → ∀ i ∈ s.gw.drainList, s.sel.announces i) ∧
      (s.sel.build = none → s.mon.standing = .active → ∀ p, s.gw.solicit = some p →
        ∃ f ∈ s.sel.frames, ∃ target, f.payload = .solicit target p.serial) ∧
      ∀ f target n, s.sel.stage = some { frame := f, cond := .staged } → f.payload = .solicit target n →
        s.gw.drainList = [])

/-- In the bin role in MUTE no frame is BUILT, and every frame in STAGE that is not SENDING is a mute probe: the FILL frame
of one report of the own bin, of class 0, with its key (R136, R137). -/
def State.muteOk (s : State) : Prop :=
  s.running = true → s.role = .bin → s.mon.standing = .mute →
    s.sel.build = none ∧ ∀ x, s.sel.stage = some x → x.cond ≠ .sending →
      ∃ c : Frozen, x.frame.payload = .fill [c] true ∧ c.report.binId = s.cfg.stationId ∧ c.origin = .own ∧
        c.report.cls = 0 ∧ x.frame.key.toNat = min 63 (c.report.ttf / 64) * 256 + s.cfg.stationId.toNat % 256

/-- A due probe that can be built has been built: in the bin role in MUTE with the probe timer at 0 and both slots EMPTY,
the OWN entry is not OWED, unplaced and of class 0 (R137, R148). -/
def State.probeBuilt (s : State) : Prop :=
  s.running = true → s.role = .bin → s.mon.standing = .mute → s.mon.probeTimer = 0 → s.sel.build = none →
    s.sel.stage = none → tableWf s.table → ∀ e ∈ s.table, e.report.binId = s.cfg.stationId →
      ¬ (e.owing = .owed ∧ e.placed = .unplaced ∧ e.report.cls = 0)

/-! ### The engine beside the selector (R6, R8) -/

/-- The idle gap required, read from the table of R8. -/
def Standing.requires (standing : Standing) : Nat := if standing = .active then 8 else 48

/-- In AWAKE with CARRIER low, an eligible frame waits only while the idle-gap measure is below the gap required, and a bin
station with nothing eligible whose linger has expired only for the fall of a recognised preamble (R6, R8). -/
def State.engineSettled (s : State) : Prop :=
  s.eng.state = .awake → s.eng.carrier = false →
    (s.stageEligible = true → s.eng.idleGap < s.mon.standing.requires) ∧
    (s.stageEligible = false → s.role = .bin → s.eng.lingerExpired = true → s.eng.watch.recognised = true)

/-! ### OWED entries (R86) -/

/-- In the bin role an OWED entry has a send count below the send limit, and hops below the hop limit unless it is the
OWN entry (R86). -/
abbrev State.owedOk (s : State) : Prop :=
  s.role = .bin →
    ∀ e ∈ s.table, e.owing = .owed → e.sent < s.cfg.sendLimit ∧ (e.origin ≠ .own → e.hops < s.cfg.hopLimit)

/-! ### The gateway unit (R153 to R155, R161) -/

/-- The gateway unit: the drain list has at most 8 items of distinct bins; in a running gateway the export queue holds
each HELD bin once and no other, no entry is OWED or placed, and no slot holds a FILL frame; in the bin role the unit
is clear and no slot holds a gateway frame (R123, R153 to R155, R161). -/
abbrev State.gatewayOk (s : State) : Prop :=
  s.gw.queue.Nodup ∧ s.gw.drainList.length ≤ Config.drainMax ∧ (s.gw.drainList.map (fun i => i.binId)).Nodup ∧
    (s.isGateway = true →
      s.gw.queue.all (fun b => s.table.any (fun e => e.report.binId == b && e.owing == .held)) = true ∧
        (∀ e ∈ s.table, (e.owing = .held → e.report.binId ∈ s.gw.queue) ∧ e.owing ≠ .owed ∧ e.placed = .unplaced ∧
          e.heard = 0 ∧ e.sent = 0) ∧
        (∀ f ∈ s.sel.frames, f.isFill = false)) ∧
    (s.isGateway = false →
      s.gw.queue = [] ∧ s.gw.inHand = none ∧ s.gw.drainList = [] ∧ s.gw.solicit = none ∧
        (∀ f ∈ s.sel.frames, f.isFill = true))

/-! ### The words of the statements -/

/-- Two tables hold the same entries but for the placement marks, which the selector alone moves (R87). -/
def samePlacesAside (t u : List Entry) : Prop :=
  t.map (fun e => { e with placed := .unplaced }) = u.map (fun e => { e with placed := .unplaced })

/-- `after`, with a served transaction's bytes on SDO: the sync byte, the status byte of the state before, 0x00 for
each argument byte, and the result bytes, which are then to be clocked out (R168, R173). -/
def State.replied (before : State) (args result : List Byte) (after : State) : State :=
  { after with port := { after.port with
      sdo := [0x96, before.statusByte] ++ List.replicate args.length 0 ++ result, resultAt := some (2 + args.length) } }

/-- A row of the command table of R172: the arguments given, the argument bytes the command takes, whether it is one
of the three accepted in UNCONFIGURED, and the one role it is accepted in, if one. -/
structure PortRow where
  args : List Byte
  argBytes : Nat
  inUnconfigured : Bool
  onlyRole : Option Role
  deriving DecidableEq, Repr

/-- The command table of R172, read from the rule. -/
def portRow : Instr → Option PortRow
  | .readStatus a => some ⟨a, 0, true, none⟩
  | .start a => some ⟨a, 43, true, none⟩
  | .restart a _ => some ⟨a, 0, true, none⟩
  | .rejoin a => some ⟨a, 0, false, none⟩
  | .postSample a => some ⟨a, 3, false, some .bin⟩
  | .readOwn a => some ⟨a, 0, false, some .bin⟩
  | .readEntry a => some ⟨a, 3, false, none⟩
  | .readSlot a => some ⟨a, 1, false, none⟩
  | .solicit a => some ⟨a, 7, false, some .gateway⟩
  | .exportNext a => some ⟨a, 0, false, some .gateway⟩
  | .clearNotices a => some ⟨a, 1, false, none⟩
  | .setNoticeMask a => some ⟨a, 1, false, none⟩
  | _ => none

/-- The number of the first refused field of a START record that fails, read from R175. -/
def startFailure (record : List Byte) : Option Byte :=
  let role := fieldAt record 0 1
  let dist := fieldAt record 1 1
  let num := fieldAt record 2 2
  let kind := fieldAt record 4 1
  let e := fieldAt record 5 2
  let f := fieldAt record 7 2
  let inDistrict := 1 ≤ dist ∧ dist ≤ 254
  if 1 < role then some 1
  else if role = 0 ∧ ¬ (inDistrict ∧ 0x0001 ≤ num ∧ num ≤ 0xEFFF) then some 2
  else if role = 1 ∧ ¬ (inDistrict ∧ 0xF000 ≤ num ∧ num ≤ 0xFFFE) then some 2
  else if role = 0 ∧ 3 < kind then some 3
  else if role = 0 ∧ ¬ (200 ≤ e ∧ e ≤ 4000) then some 4
  else if role = 0 ∧ ¬ (50 ≤ f ∧ f + 100 ≤ e) then some 5
  else none

/-- The current age at second `now`, read from R81 (ceil as a floor of a sum). -/
def currentAge (rxAge rxTime now : Nat) : Nat := min 4095 (rxAge + (now - rxTime + 59) / 60)

/-- The report part that the merge step in hand is to apply, with the frame's receipt time: the merging frame is a FILL
frame whose entry at the cursor is this one. -/
def State.hearsEntry (s : State) (m : Merging) (r : RxEntry) : Prop :=
  s.pair.merging = some m ∧ ∃ es, m.frame.parts = .fill es ∧ es[m.cursor]? = some r

/-- The entry `e` is the one the table holds for bin `b`. -/
def State.holds (s : State) (b : BinId) (e : Entry) : Prop := tableWf s.table ∧ e ∈ s.table ∧ e.report.binId = b

/-- The step `s` to `t` of a merge leaves everything but the pair, the table, the selector, the engine, and what
else is named. -/
def State.mergesInto (s t : State) : Prop :=
  t = { s with pair := t.pair, table := t.table, sel := t.sel, eng := t.eng }

/-- The result codes a command may give of its own once R172's checks have passed. -/
def ownResults : Instr → List Byte
  | .start _ => [0x00, 0x01, 0x04]
  | .rejoin _ => [0x00, 0x01]
  | .readEntry _ => [0x00, 0x05]
  | .readSlot _ => [0x00, 0x05]
  | .exportNext _ => [0x00, 0x05]
  | .solicit _ => [0x00, 0x06]
  | _ => [0x00]

/-- The vector number of a notice; its bit in a flag set is 8 less this number (R180). -/
def Notice.vector : Notice → Nat
  | .standing => 1
  | .overrun => 2
  | .refusal => 3
  | .seqJump => 4
  | .solicited => 5
  | .ownSent => 6
  | .ownIssued => 7
  | .exportReady => 8

/-- A notice is raised and unmasked. -/
def Port.shows (p : Port) (n : Notice) : Prop :=
  p.flags.getLsbD (8 - n.vector) = true ∧ p.mask.getLsbD (8 - n.vector) = false

/-- A numbered field of the configuration record, its place, its default and bounds, the role it is for, and the value
the held configuration gives it (10.4). -/
structure ConfigRow where
  number : Nat
  offset : Nat
  bytes : Nat
  dflt : Nat
  lo : Nat
  hi : Nat
  binOnly : Bool
  held : Nat
  deriving DecidableEq, Repr

/-- The clamped fields of the table of 10.4. -/
def clampedRows (c : HeldConfig) : List ConfigRow :=
  [⟨6, 9, 2, 750, 500, 990, true, c.dueLevel⟩, ⟨7, 11, 2, 240, 30, 1440, true, c.imminentHorizon⟩,
    ⟨8, 13, 2, 1440, c.imminentHorizon, 4320, true, c.dueHorizon⟩, ⟨9, 15, 2, 50, 10, 500, true, c.reportDelta⟩,
    ⟨10, 17, 2, 360, 60, 1440, true, c.heartbeat⟩, ⟨13, 23, 2, 1020, 270, 2100, false, c.wakeLength⟩,
    ⟨14, 25, 2, 2000, 500, 10000, true, c.linger⟩, ⟨15, 27, 2, 720, 30, 4095, false, c.ageLimit⟩,
    ⟨16, 29, 1, 6, 1, 15, true, c.hopLimit⟩, ⟨17, 30, 1, 2, 1, 7, true, c.suppressCount⟩,
    ⟨18, 31, 1, 3, 1, 7, false, c.sendLimit⟩, ⟨19, 32, 1, 12, 1, 60, true, c.capacity⟩,
    ⟨20, 33, 1, 5, 1, 60, true, c.refillInterval⟩, ⟨24, 41, 1, 60, 10, 240, false, c.probeInterval⟩]

/-- The listen period's row of that table; it goes to the nearest of the four periods. -/
def listenRow (c : HeldConfig) : ConfigRow := ⟨12, 21, 2, 1000, 250, 2000, true, c.listenPeriod⟩

/-- The field is of the started role, and its value in the record was replaced by another (R176). -/
def ConfigRow.adjusted (record : List Byte) (c : HeldConfig) (r : ConfigRow) : Bool :=
  (!r.binOnly || c.role == .bin) && fieldAt record r.offset r.bytes != 0 &&
    fieldAt record r.offset r.bytes != r.held

/-- The numbers of the adjusted fields, in field order (R176). -/
def adjustedNumbers (record : List Byte) (c : HeldConfig) : List Nat :=
  (List.range 26).filter (fun n =>
    (listenRow c :: clampedRows c).any (fun r => r.number == n && r.adjusted record c))

/-- The bin matches the home filter: it agrees with the filter id wherever the mask holds 0, or does not and the
filter is inverted (R85). -/
def HeldConfig.matchesHome (c : HeldConfig) (b : BinId) : Prop :=
  (∀ i < 24, c.filterMask.getLsbD i = false → b.getLsbD i = c.filterId.getLsbD i) ↔ c.invert = false

/-- A trigger of R70 holds at second `t`. -/
def Estimator.mustReport (c : HeldConfig) (t : Nat) (emptied : Bool) (e : Estimator) : Prop :=
  ∃ f, e.figures = some f ∧
    (e.lastReport = none ∨
      ∃ r, e.lastReport = some r ∧
        (r.level + c.reportDelta ≤ f.level ∨ f.level + c.reportDelta ≤ r.level ∨ e.reportedClass f ≠ r.cls ∨
          emptied = true ∨ e.faultState ≠ r.fault ∨ 60 * c.heartbeat ≤ t - r.second))

/-- The estimator after it has issued a report of the figures `f` at second `t` and moved its next sequence to `next`
(R73). -/
def Estimator.reported (f : Figures) (t : Nat) (next : Seq) (e : Estimator) : Estimator :=
  { e with
    nextSeq := next, sampleSince := false,
    lastReport := some { level := f.level, cls := e.reportedClass f, second := t, fault := e.faultState } }

/-- The report issued of the figures `f` at second `t` under sequence `q` (R73). -/
def HeldConfig.reportOf (c : HeldConfig) (e : Estimator) (f : Figures) (t : Nat) (q : Seq) (emptied : Bool) : Report :=
  { binId := c.stationId, seq := q, kind := kindOf c.kindCode, cls := e.reportedClass f, overfull := f.overfull,
    emptied := emptied, fault := e.faultState, level := f.level, rate := e.rate, ttf := f.ttf,
    since := match e.emptiedAt with
      | some e => some (min 65535 ((t - e) / 60))
      | none => none }

/-- The OWN entry of a report issued at second `t`, at position `p` (R74). -/
def ownAt (p : Nat) (r : Report) (t : Nat) : Entry :=
  { position := p, report := r, rxAge := 0, rxTime := t, hops := 0, origin := .own, owing := .owed,
    placed := .unplaced, heard := 0, sent := 0, exported := false }

/-- `t` is the table `t0` with the entry of one bin changed in its position, but for placement marks. -/
def changesOne (b : BinId) (f : Entry → Entry) (t0 t : List Entry) : Prop :=
  samePlacesAside t (t0.map (fun e => if e.report.binId = b then f e else e))

/-- `t` holds the entries of `t0` and the newcomer at its position, but for placement marks. -/
def addsOne (new : Entry) (t0 t : List Entry) : Prop :=
  samePlacesAside t (t0.filter (fun e => decide (e.position < new.position)) ++ new ::
    t0.filter (fun e => decide (new.position < e.position)))

/-- The lowest-numbered FREE position is `p` (R92). -/
def lowestFreeIs (t : List Entry) (p : Nat) : Prop :=
  p < 128 ∧ (∀ e ∈ t, e.position ≠ p) ∧ ∀ q < p, ∃ e ∈ t, e.position = q

/-- The selector's frames, the placement marks of the table and the engine may move as a selector event moves them;
everything else of `t` is as in `s`. -/
def State.onlySelects (s t : State) : Prop :=
  t = { s with sel := t.sel, table := t.table, eng := t.eng } ∧ samePlacesAside t.table s.table

/-- The entry a heard report is stored as: hops one higher, HELD in the gateway role or at the hop limit, OWED below it
(R112, R116). -/
def State.storedAs (s : State) (r : RxEntry) (rxTime position : Nat) (origin : Origin) : Entry :=
  { position := position, report := r.report, rxAge := r.age, rxTime := rxTime, hops := min 15 (r.hops + 1),
    origin := origin,
    owing := if s.role = .gateway ∨ s.cfg.hopLimit ≤ min 15 (r.hops + 1) then .held else .owed,
    placed := .unplaced, heard := 0, sent := 0, exported := false }

/-- What the engine does of itself in the step to `t`, in which the selector, the table or the allowance moves: nothing
outside AWAKE or with CARRIER high; in AWAKE with CARRIER low it stands as it was, or with a measure that has reached the
gap it keys its preamble for the eligible frame, which is COMMITTED, or past linger in the bin role, with nothing eligible
and no recognised preamble, it dozes (R6, R8). -/
def State.engineFollows (s t : State) : Prop :=
  t.eng = s.eng ∨
    s.eng.state = .awake ∧ s.eng.carrier = false ∧
      (s.mon.standing.requires ≤ s.eng.idleGap ∧
          t.eng = { s.eng with state := .waking, key := true, txd := some false } ∧
          (∃ f, t.sel.stage = some { frame := f, cond := .committed } ∧ t.eligible f = true) ∨
        s.role = .bin ∧ s.eng.lingerExpired = true ∧ s.eng.watch.recognised = false ∧ t.stageEligible = false ∧
          t.eng = { s.eng with
            state := .doze, listen := some s.cfg.listenPeriod, linger := none, lingerExpired := false, watch := .clear,
            idleGap := 0, radioEn := false, key := false, txd := none })

/-- The commands that reach the engine only through the selector. -/
def reachesEngineBySelector (c : Instr) : Prop :=
  c = .mergeStep ∨ (∃ a, c = .postSample a) ∨ c = .allowanceRefill ∨ c = .minuteBoundary ∨ (∃ a, c = .solicit a) ∨
    c = .exportNextCompletion ∨ c = .probeTimerExpiry

/-- The uncommitted frame in which `e` was placed is withdrawn in the step to `t`, and no frame built since names `e` at
the sequence it then held (R128). -/
def State.withdrawsFrameOf (s t : State) (e : Entry) : Prop :=
  (e.placed = .stage → s.sel.stageCond = some .staged → ∀ f ∈ t.sel.frames, (e.report.binId, e.report.seq) ∉ f.refs) ∧
    (e.placed = .build → ∀ f ∈ t.sel.build.toList, (e.report.binId, e.report.seq) ∉ f.refs)

/-- The frame is the DRAIN frame of the whole drain list: its items in drain-list order, its key the tie byte (R37,
R126). -/
def State.drainsAll (s : State) (f : FrameRec) : Prop :=
  f.payload = .drain (s.gw.drainList.map (fun i => (i.binId, i.seq))) ∧ f.key.toNat = s.cfg.stationId.toNat % 256

/-- Where the drain list holds 1 to 8 items, STAGE holds the DRAIN frame of them all, STAGED (R126). -/
def State.stagesDrains (s : State) : Prop :=
  s.gw.drainList ≠ [] → s.gw.drainList.length ≤ 8 →
    ∃ f, s.sel.stage = some { frame := f, cond := .staged } ∧ s.drainsAll f

/-- The frame is led by a report of this class or a more urgent one. -/
def FrameRec.ledWithin (f : FrameRec) (cls : Urgency) : Prop :=
  ∃ lead rest probe, f.payload = .fill (lead :: rest) probe ∧ lead.report.cls ≤ cls

/-- Both slots have been withdrawn and building has run: STAGE is led at least as urgently as every OWED entry that the
standing and the allowance admit, and holds no frame but an eligible one (R123 to R125, R128). -/
def State.stageRebuilt (s : State) : Prop :=
  (∀ e ∈ s.table, s.mayFill { e with placed := .unplaced } →
    ∃ x, s.sel.stage = some x ∧ x.frame.ledWithin e.report.cls) ∧
  ∀ x, s.sel.stage = some x → s.eligible x.frame = true

/-- BUILD alone has been withdrawn and building has run: the same of BUILD and the entries not placed in STAGE. -/
def State.buildRebuilt (s : State) : Prop :=
  (∀ e ∈ s.table, e.placed ≠ .stage → s.mayFill { e with placed := .unplaced } →
    ∃ f, s.sel.build = some f ∧ f.ledWithin e.report.cls) ∧
  ∀ f, s.sel.build = some f → s.eligible f = true

/-- What the step to `t`, in which an entry of this class becomes OWED, does to a frame with a lead of a larger class: in
STAGE and STAGED it is withdrawn with BUILD, and in BUILD beside a COMMITTED or SENDING frame it is withdrawn alone; then
building runs (R129). -/
def State.preemptedBy (s t : State) (cls : Urgency) : Prop :=
  ∀ f lead rest probe, f.payload = .fill (lead :: rest) probe → cls < lead.report.cls →
    (s.sel.stage = some { frame := f, cond := .staged } → t.stageRebuilt) ∧
    ((∃ x, s.sel.stage = some x ∧ x.cond ≠ .staged) → s.sel.build = some f → t.buildRebuilt)

/-- What the withdrawal check of R127 makes of a COMMITTED frame that has lost its field, in a running station. A FILL
frame is STAGED again when each of its references still matches an OWED entry and no candidate is more urgent than its
lead, unless it is not eligible then and something else is admitted (R138); otherwise it is withdrawn and building runs,
and no frame names a reference that did not match. A DRAIN frame is STAGED again when each of its items is still listed
at its sequence and every listed item is carried; a SOLICIT frame when the pending solicit is the one it carries and no
item is listed. Withdrawn, they give way to a DRAIN frame of the list, if it holds any item, and no frame carries the
unlisted item or the other solicit. -/
def State.checkedAtLoss (s t : State) : Prop :=
  ∀ f, s.sel.stage = some { frame := f, cond := .committed } → s.running = true →
    (∀ lead rest probe, f.payload = .fill (lead :: rest) probe → s.role = .bin →
      ((∀ c ∈ lead :: rest, ∃ e ∈ s.table,
          e.report.binId = c.report.binId ∧ e.report.seq = c.report.seq ∧ e.owing = .owed) →
        (∀ e ∈ s.table, e.owing = .owed → e.placed = .unplaced → lead.report.cls ≤ e.report.cls) →
        (s.eligible f = true ∨ (∀ e ∈ s.table, ¬ s.mayFill e) →
          t.sel.stage = some { frame := f, cond := .staged }) ∧
        (s.eligible f = false → (∃ e ∈ s.table, s.mayFill e) → t.stageRebuilt)) ∧
      (∀ c ∈ lead :: rest,
        (∀ e ∈ s.table, e.report.binId = c.report.binId → e.report.seq = c.report.seq → e.owing ≠ .owed) →
        t.stageRebuilt ∧ ∀ g ∈ t.sel.frames, (c.report.binId, c.report.seq) ∉ g.refs) ∧
      ((∃ e ∈ s.table, e.owing = .owed ∧ e.placed = .unplaced ∧ e.report.cls < lead.report.cls) → t.stageRebuilt)) ∧
    (∀ items, f.payload = .drain items → s.role = .gateway → s.mon.standing ≠ .mute →
      ((∀ i ∈ items, ∃ x ∈ s.gw.drainList, (x.binId, x.seq) = i) → (∀ x ∈ s.gw.drainList, s.sel.announces x) →
        t.sel.stage = some { frame := f, cond := .staged }) ∧
      (∀ i ∈ items, (∀ x ∈ s.gw.drainList, (x.binId, x.seq) ≠ i) →
        ∀ g ∈ t.sel.frames, ∀ items', g.payload = .drain items' → i ∉ items') ∧
      ((∃ i ∈ items, ∀ x ∈ s.gw.drainList, (x.binId, x.seq) ≠ i) ∨ (∃ x ∈ s.gw.drainList, ¬ s.sel.announces x) →
        t.stagesDrains)) ∧
    ∀ target n, f.payload = .solicit target n → s.role = .gateway → s.mon.standing ≠ .mute →
      ((∃ p, s.gw.solicit = some p ∧ p.serial = n) → s.gw.drainList = [] →
        t.sel.stage = some { frame := f, cond := .staged }) ∧
      ((∀ p, s.gw.solicit = some p → p.serial ≠ n) →
        ∀ g ∈ t.sel.frames, ∀ target', g.payload ≠ .solicit target' n) ∧
      t.stagesDrains

/-- The bin agrees with the target wherever the mask holds 0 (R45). -/
def Target.addresses (t : Target) (b : BinId) : Prop :=
  ∀ i < 24, t.mask.getLsbD i = false → b.getLsbD i = t.binId.getLsbD i

/-- The entry may be evicted for a newcomer of this origin, read from R93. -/
def State.mayEvict (s : State) (newcomer : Origin) (e : Entry) : Prop :=
  e.origin ≠ .own ∧ e.placed = .unplaced ∧ ¬ (e.origin = .home ∧ s.cfg.homeGuard = true ∧ newcomer = .passing) ∧
    ¬ (s.isGateway = true ∧ e.report.binId ∈ s.gw.queue)

/-- The order of R94 at second `now`: state, then larger class number, then larger age, then larger bin id. -/
def evictsFirst (now : Nat) (a b : Entry) : Prop :=
  a.owing.evictionRank < b.owing.evictionRank ∨ a.owing = b.owing ∧
    (b.report.cls < a.report.cls ∨ a.report.cls = b.report.cls ∧
      (currentAge b.rxAge b.rxTime now < currentAge a.rxAge a.rxTime now ∨
        currentAge a.rxAge a.rxTime now = currentAge b.rxAge b.rxTime now ∧
          b.report.binId.toNat < a.report.binId.toNat))

/-- The step to `t` has taken in an own report of this class: the notices `raised` are raised, no insert is refused, and
the new entry preempts (R74, R129). -/
def State.tookOwn (s t : State) (raised : FlagSet) (cls : Urgency) : Prop :=
  t.port.flags = s.port.flags ||| raised ∧ t.refusals = s.refusals ∧ s.preemptedBy t cls

/-- In the step to `t` the own report is stored: in the OWN entry's position, the uncommitted frame of that entry withdrawn,
or with no OWN entry in the lowest FREE position, or with none FREE in that of the one entry first in eviction order. The
entries of other bins change by `change` (R74, R92 to R94, R128). -/
def State.storesOwn (s t : State) (change : Entry → Entry) (raised : FlagSet) (r : Report) : Prop :=
  (∀ own, s.holds s.cfg.stationId own →
    s.tookOwn t raised r.cls ∧ (own.report.seq ≠ r.seq → s.withdrawsFrameOf t own) ∧
      samePlacesAside t.table (s.table.map (fun e =>
        if e.report.binId = s.cfg.stationId then ownAt e.position r s.clock else change e))) ∧
  (tableWf s.table → (∀ e ∈ s.table, e.report.binId ≠ s.cfg.stationId) →
    (∀ p, lowestFreeIs s.table p →
      s.tookOwn t raised r.cls ∧ addsOne (ownAt p r s.clock) (s.table.map change) t.table) ∧
    ((∀ p < 128, ∃ e ∈ s.table, e.position = p) → ∀ v ∈ s.table, s.mayEvict .own v →
      (∀ w ∈ s.table, s.mayEvict .own w → w ≠ v → evictsFirst s.clock v w) →
      s.tookOwn t raised r.cls ∧ samePlacesAside t.table (s.table.map (fun e =>
        if e.position = v.position then ownAt v.position r s.clock else change e))))

/-- Selection order, read from R124. -/
def selectsFirst (a b : Entry) : Prop :=
  a.report.cls < b.report.cls ∨ a.report.cls = b.report.cls ∧
    (a.origin = .own ∧ b.origin ≠ .own ∨ (a.origin = .own ↔ b.origin = .own) ∧
      (a.report.ttf < b.report.ttf ∨ a.report.ttf = b.report.ttf ∧
        (a.hops < b.hops ∨ a.hops = b.hops ∧ a.report.binId.toNat < b.report.binId.toNat)))

/-- The engine back in AWAKE with CARRIER at this level, nothing on air, and linger restarted in the bin role (R6). -/
def State.awakeAgain (s : State) (carrier : Bool) (e : Engine) : Engine :=
  { e with
    state := .awake, listen := none, carrier := carrier, idleGap := 0, onAir := none,
    watch := { running := carrier, plain := 0, recognised := false }, radioEn := true, key := false, txd := none,
    linger := if s.role = .bin then some s.cfg.linger else e.linger,
    lingerExpired := if s.role = .bin then false else e.lingerExpired }

/-- The merge step in hand is to apply this drain item. -/
def State.hearsItem (s : State) (m : Merging) (i : RxItem) : Prop :=
  s.pair.merging = some m ∧ ∃ is, m.frame.parts = .drain is ∧ is[m.cursor]? = some i

/-! ### The frame on air, read from R12 to R16, R44 and R49 to R54 -/

/-- The bits of a list of bytes in the order they are sent, most significant first (R12). -/
def airBits (bs : List Byte) : List Bool := bs.flatMap (fun x => (List.range 8).map (fun i => x.getLsbD (7 - i)))

/-- One data bit into the CRC register, read from R16. -/
def crcStep (register : BitVec 16) (bit : Bool) : BitVec 16 :=
  if register.getLsbD 15 = bit then register <<< 1 else (register <<< 1) ^^^ 0x8BB7

/-- The CRC of body bytes: the register, preset to 0xFFFF, after all their bits, inverted (R16). -/
def crcOf (body : List Byte) : BitVec 16 := ~~~(airBits body).foldl crcStep 0xFFFF

/-- The bits SENDING puts on the channel: the opening mark, the stuffed body, a pad of 0 when that ends in a 1, and the
closing mark (R12, R13). -/
def channelBits (body : List Byte) : List Bool :=
  [true, true, true, true, true, true, false, false] ++ (stuff Run.start (airBits body)).1 ++
    (if (stuff Run.start (airBits body)).1.getLast? = some true then [false] else []) ++
    [true, true, true, true, true, true, false, false]

/-- The body bits kept of the bits on air behind the opening mark, and the run of equal bits they end in, while nothing has
ended the taking: after five equal bits the opposite one is stuffed and discarded, and any other bit is kept (R14). -/
inductive Taken : (air kept : List Bool) → (bit : Bool) → (run : Nat) → Prop
  | atMark : Taken [] [] false 2
  | body {air kept bit run} (b : Bool) : Taken air kept bit run → run < 5 →
      Taken (air ++ [b]) (kept ++ [b]) b (if b = bit then run + 1 else 1)
  | stuffed {air kept bit} : Taken air kept bit 5 → Taken (air ++ [!bit]) kept (!bit) 1

/-- The bits show the closing mark, six ones and two zeros, behind body bits that end in a 0 on air; `kept` are the body
bits before it (R14, R15). -/
def closesWith (rxd kept : List Bool) : Prop :=
  ∃ air run after, Taken air kept false run ∧ rxd = air ++ [true, true, true, true, true, true, false, false] ++ after

/-- A sixth zero, a seventh one, six ones with a zero and a one behind them, or an 87th byte of kept bits (R14, R15). -/
def breaksOff (rxd : List Bool) : Prop :=
  ∃ air kept after,
    Taken air kept false 5 ∧ rxd = air ++ false :: after ∨
    Taken air kept true 5 ∧ (rxd = air ++ true :: true :: after ∨ rxd = air ++ true :: false :: true :: after) ∨
    (∃ bit run, Taken air kept bit run) ∧ kept.length = 87 * 8 ∧ rxd = air ++ after

/-- The bin id is malformed: its district is 0 or 255, or its number lies outside 0x0001 to 0xEFFF (R44). -/
def BinId.malformed (b : BinId) : Prop :=
  b.toNat / 65536 = 0 ∨ b.toNat / 65536 = 255 ∨ b.toNat % 65536 = 0 ∨ 0xEFFF < b.toNat % 65536

/-- A report entry as it is read from its bytes on air, 14 or 16 of them by SINCE (R42 to R44, R50, R54). -/
def RxEntry.readsAs (b : List Byte) (e : RxEntry) : Prop :=
  ∃ fl : Byte, b[5]? = some fl ∧ b.length = (if fl.getLsbD 0 = true then 16 else 14) ∧
    e.report.binId.toNat = fieldAt b 0 3 ∧ e.report.seq.toNat = fieldAt b 3 2 ∧
    [BinKind.litter, .glass, .underground, .compacting][fl.toNat / 64]? = some e.report.kind ∧
    e.report.cls.val = fl.toNat / 16 % 4 ∧ e.report.overfull = fl.getLsbD 3 ∧ e.report.emptied = fl.getLsbD 2 ∧
    e.report.fault = fl.getLsbD 1 ∧ e.report.level = min 1000 (fieldAt b 6 2) ∧ e.report.rate = fieldAt b 8 2 ∧
    e.report.ttf = fieldAt b 10 2 ∧ e.age = fieldAt b 12 2 / 16 ∧ e.hops = fieldAt b 12 2 % 16 ∧
    e.report.since = (if fl.getLsbD 0 = true then some (fieldAt b 14 2) else none) ∧
    (e.malformed = true ↔ BinId.malformed e.report.binId)

/-- A drain item as it is read from its 5 bytes on air (R46, R54). -/
def RxItem.readsAs (b : List Byte) (i : RxItem) : Prop :=
  b.length = 5 ∧ i.binId.toNat = fieldAt b 0 3 ∧ i.seq.toNat = fieldAt b 3 2 ∧
    (i.malformed = true ↔ BinId.malformed i.binId)

/-- The frame record of a body, its CRC left off, that passes the checks of count, length, kind value and kind-slot
agreement, with this kind-slot observation and receipt second (R49 to R52). -/
def RxFrame.readsAs (body : List Byte) (carrierSeen : Option Bool) (second : Nat) (f : RxFrame) : Prop :=
  f.sender.toNat = fieldAt body 1 3 ∧ f.rxTime = second ∧
    match f.parts with
    | .fill es =>
      fieldAt body 0 1 = 16 + es.length ∧ 1 ≤ es.length ∧ es.length ≤ 5 ∧ carrierSeen = some true ∧
        ∃ chunks : List (List Byte), body.drop 4 = chunks.flatten ∧ List.Forall₂ RxEntry.readsAs chunks es
    | .solicit t =>
      fieldAt body 0 1 = 2 * 16 + 1 ∧ body.length = 11 ∧ carrierSeen = some false ∧ t.binId.toNat = fieldAt body 4 3 ∧
        t.mask.toNat = fieldAt body 7 3 ∧ t.maxClass.val = min 3 (fieldAt body 10 1)
    | .drain is =>
      fieldAt body 0 1 = 3 * 16 + is.length ∧ 1 ≤ is.length ∧ is.length ≤ 8 ∧ carrierSeen = some false ∧
        ∃ chunks : List (List Byte), body.drop 4 = chunks.flatten ∧ List.Forall₂ RxItem.readsAs chunks is

/-- The kept bits are a good body that gives this record: 6 to 86 whole bytes, with at most a pad of 0 behind them, whose
last two are the CRC of the others, and which pass the checks of the body (R15, R16, R49 to R52). -/
def goodBody (kept : List Bool) (carrierSeen : Option Bool) (second : Nat) (f : RxFrame) : Prop :=
  ∃ body crc : List Byte, (kept = airBits (body ++ crc) ∨ kept = airBits (body ++ crc) ++ [false]) ∧
    4 ≤ body.length ∧ body.length ≤ 84 ∧ crc.length = 2 ∧ fieldAt crc 0 2 = (crcOf body).toNat ∧
    f.readsAs body carrierSeen second

/-- A receipt frame as an FR7 sends it: the counts of R39 and fields within their widths. -/
def RxFrame.sendable (f : RxFrame) : Prop :=
  match f.parts with
  | .fill es =>
    1 ≤ es.length ∧ es.length ≤ 5 ∧
      ∀ e ∈ es, e.report.level ≤ 1000 ∧ e.report.rate ≤ 65535 ∧ e.report.ttf ≤ 65535 ∧
        (∀ m ∈ e.report.since, m ≤ 65535) ∧ e.age ≤ 4095 ∧ e.hops ≤ 15 ∧ e.malformed = !validBinId e.report.binId
  | .solicit _ => True
  | .drain is => 1 ≤ is.length ∧ is.length ≤ 8 ∧ ∀ i ∈ is, i.malformed = !validBinId i.binId

/-- The body of a frame by R54, without the CRC. -/
def RxFrame.bodyBytes (f : RxFrame) : List Byte :=
  match f.parts with
  | .fill es => headerBytes 1 es.length f.sender ++ es.flatMap (fun e => entryBytes e.report e.age e.hops)
  | .solicit t => headerBytes 2 1 f.sender ++ targetBytes t
  | .drain is => headerBytes 3 is.length f.sender ++ is.flatMap (fun i => itemBytes (i.binId, i.seq))

end Sys2Proof.Machine
end

