-- ==== Sys2Proof/Certificates/Slice0/Obligations.lean ====
section
/-! DEFINITION. The statements about this model, from the manual's rules, for the provers; OBLIGATIONS.json lists
them. -/

open Sys2Proof Sys2Proof.Machine

/-! ### The step and the module port (chapter 10) -/

/-- One step takes the command at the front of the queue and runs it with the queue's rest. On an empty queue the
block idles (the model's choice, notes/assumptions/1.md). -/
def Obligations.StepRunsTheFrontCommand : Prop :=
  (∀ (c : Instr) (rest : List Instr) (s : State),
    step { s with pending := c :: rest } = exec c { s with pending := rest }) ∧
  ∀ s : State, s.pending = [] → step s = .next s

/-- R179, R171: before the port is ready no transaction is served, and a transaction abandoned before its effect point
changes nothing but what SDO carried. R168, R169, R171: when SEL rises in the result phase, SDO has carried 0xFF in
each busy byte, then the result bytes, of which those not clocked out are lost, and 0x00 behind the last one. That
each is one step, and that an export in hand is cut short or completes by a command of its own, is the model's choice
(notes/assumptions/3.md). -/
def Obligations.UnservedAndAbandoned : Prop :=
  (∀ (s : State) (busy bytes n : Nat), s.port.resultAt = some n → n ≤ s.port.sdo.length →
    s.gw.inHand = none ∨ s.port.sdo.length ≤ n + bytes →
    ∃ t, exec (.transactionAbandoned (.afterEffect { busy := busy, bytes := bytes })) s = .next t ∧
      t = { s with port := { s.port with sdo := t.port.sdo, resultAt := none } } ∧
      t.port.sdo.length = n + busy + bytes ∧
      (∀ i < n, t.port.sdo[i]? = s.port.sdo[i]?) ∧
      (∀ i < busy, t.port.sdo[n + i]? = some 0xFF) ∧
      ∀ i < bytes, t.port.sdo[n + busy + i]? = some (s.port.sdo.getD (n + i) 0x00)) ∧
  ∀ s : State,
    (s.port.ready = false →
      (∀ c : Instr, (portRow c).isSome = true → exec c s = .next (s.returns [])) ∧
      ∀ (code : Byte) (args : List Byte), code ∉ commandCodes →
        exec (.unknownCommand code args) s = .next (s.returns [])) ∧
    ∀ (place : Abandon) (returned : List Byte),
      place = .inCode ∧ returned = [] ∨ (∃ code, place = .inCount code ∧ returned = [0x96]) ∨
          (∃ code count taken, place = .inArgs code count taken ∧ place.wellFormed = true ∧
            returned = 0x96 :: s.statusByte :: List.replicate taken.length 0) →
        exec (.transactionAbandoned place) s = .next (s.returns (if s.port.ready = true then returned else []))

/-- R172: the code, the length, the station life and the role are checked in this order, the first check that fails
gives the result alone and nothing else happens, and a command that passes all four gives a result of its own. -/
def Obligations.PortChecksInOrder : Prop :=
  ∀ s : State, s.port.ready = true →
    (∀ (code : Byte) (args : List Byte), code ∉ commandCodes →
      exec (.unknownCommand code args) s = .next (s.replied args [0x07] s)) ∧
    ∀ (c : Instr) (r : PortRow), portRow c = some r →
      if r.args.length ≠ r.argBytes then exec c s = .next (s.replied r.args [0x03] s)
      else if s.running = false ∧ r.inUnconfigured = false then exec c s = .next (s.replied r.args [0x01] s)
      else if s.running = true ∧ r.onlyRole ≠ none ∧ r.onlyRole ≠ some s.role then
        exec c s = .next (s.replied r.args [0x02] s)
      else ∃ code ∈ ownResults c, ∃ rest after, exec c s = .next (s.replied r.args (code :: rest) after)

/-- R173: the seven fields of the status byte; in UNCONFIGURED only the role field may read 1. -/
def Obligations.StatusByteFields : Prop :=
  (∀ s : State,
    s.statusByte.getLsbD 7 = s.running ∧
    (s.statusByte.getLsbD 6 = true ↔ s.config.map (fun c => c.role) = some .gateway) ∧
    (s.statusByte.getLsbD 5 = true ↔ s.mon.standing = .mute) ∧
    (s.statusByte.getLsbD 4 = true ↔ s.mon.standing = .quiet) ∧
    (s.statusByte.getLsbD 3 = true ↔ ∃ n, s.port.shows n) ∧
    (s.statusByte.getLsbD 2 = true ↔ s.gw.queue ≠ []) ∧
    (s.statusByte.getLsbD 1 = true ↔ s.sel.stage ≠ none) ∧
    (s.statusByte.getLsbD 0 = true ↔ s.eng.state ≠ .off ∧ s.eng.state ≠ .doze)) ∧
  (∀ s : State, s.running = false → s.clearedOk →
    s.statusByte = if s.config.map (fun c => c.role) = some .gateway then 0x40 else 0x00) ∧
  ∀ s t : State, exec .hardReset s = .next t → t.statusByte = 0x00

/-- R181: the NOTICE line is asserted exactly while some flag is raised and unmasked; the vector is the number of the
highest-priority such flag, 0 for none; a masked flag is still raised by its cause. -/
def Obligations.NoticeLineAndVector : Prop :=
  (∀ p : Port,
    (p.noticeLine = true ↔ ∃ n, p.shows n) ∧
    (p.noticeVector = 0 ↔ p.noticeLine = false) ∧
    ∀ n : Notice, p.noticeVector = n.vector ↔ p.shows n ∧ ∀ m : Notice, m.vector < n.vector → ¬ p.shows m) ∧
  ∀ (s : State) (n : Notice) (i : Nat),
    (s.raise n).port.flags.getLsbD i = (s.port.flags.getLsbD i || decide (i + n.vector = 8)) ∧
    (s.raise n).port.mask = s.port.mask

/-- R185: READ_STATUS changes nothing and returns OK and 47 bytes, each field at its place. -/
def Obligations.ReadStatusReturnsTheSnapshot : Prop :=
  ∀ s : State, s.port.ready = true →
    ∃ b : List Byte, exec (.readStatus []) s = .next (s.replied [] (0x00 :: b) s) ∧ b.length = 47 ∧
      fieldAt b 0 1 = s.running.toNat ∧
      fieldAt b 1 1 = (if s.config.map (fun c => c.role) = some .gateway then 1 else 0) ∧
      [EngineState.off, .doze, .sample, .awake, .waking, .field, .receiving, .echoing, .sending, .awaitEcho][fieldAt b 2 1]? =
        some s.eng.state ∧
      fieldAt b 3 3 = (match s.config with | some c => c.stationId.toNat | none => 0) ∧
      fieldAt b 6 4 = s.clock % 2 ^ 32 ∧ fieldAt b 10 1 = s.port.flags.toNat ∧ fieldAt b 11 1 = s.port.mask.toNat ∧
      fieldAt b 12 1 = s.port.noticeVector ∧
      [Standing.active, .quiet, .mute][fieldAt b 13 1]? = some s.mon.standing ∧ fieldAt b 14 1 = s.mon.armed.toNat ∧
      fieldAt b 15 2 = s.mon.sendFailure % 2 ^ 16 ∧ fieldAt b 17 1 = s.mon.receptionFault % 2 ^ 8 ∧
      fieldAt b 18 1 = s.mon.recovery % 2 ^ 8 ∧ fieldAt b 19 1 = s.sel.allowance % 2 ^ 8 ∧
      fieldAt b 20 1 = s.sel.refillCount % 2 ^ 8 ∧ fieldAt b 21 1 = s.gw.queue.length % 2 ^ 8 ∧
      fieldAt b 22 1 = s.gw.drainList.length % 2 ^ 8 ∧ fieldAt b 23 1 = s.gw.solicit.isSome.toNat ∧
      fieldAt b 24 1 = s.table.length % 2 ^ 8 ∧ fieldAt b 25 2 = s.pair.overrun % 2 ^ 16 ∧
      fieldAt b 27 2 = s.refusals % 2 ^ 16 ∧ fieldAt b 29 2 = s.pair.clash % 2 ^ 16 ∧
      fieldAt b 31 2 = s.est.lidHeld % 2 ^ 16 ∧ fieldAt b 33 2 = s.gw.drainDrop % 2 ^ 16 ∧
      fieldAt b 35 4 = s.eng.heard % 2 ^ 32 ∧ fieldAt b 39 4 = s.eng.sent % 2 ^ 32 ∧ fieldAt b 43 4 = s.eng.lost % 2 ^ 32

/-- R76, R186: READ_OWN changes nothing and returns OK and the 46 bytes of the estimator's state, absent values 0. -/
def Obligations.ReadOwnReturnsTheEstimator : Prop :=
  ∀ s : State, s.port.ready = true → s.running = true → s.role = .bin →
    ∃ b : List Byte, exec (.readOwn []) s = .next (s.replied [] (0x00 :: b) s) ∧ b.length = 46 ∧
      fieldAt b 0 1 = s.est.window.length % 2 ^ 8 ∧
      (∀ i < 3, fieldAt b (1 + 2 * i) 2 = s.est.window.getD i 0 % 2 ^ 16) ∧
      fieldAt b 7 1 = s.est.faultRun % 2 ^ 8 ∧ fieldAt b 8 1 = s.est.faultState.toNat ∧
      (match s.est.figures with
        | none => fieldAt b 9 10 = 0
        | some f =>
          fieldAt b 9 1 = 1 ∧ fieldAt b 10 2 = f.range % 2 ^ 16 ∧ fieldAt b 12 2 = f.level % 2 ^ 16 ∧
            fieldAt b 14 1 = f.overfull.toNat ∧ fieldAt b 15 2 = f.ttf % 2 ^ 16 ∧ fieldAt b 17 1 = f.cls.val ∧
            fieldAt b 18 1 = (if s.est.faultState then min f.cls.val 2 else f.cls.val)) ∧
      fieldAt b 19 2 = s.est.rate % 2 ^ 16 ∧ fieldAt b 21 1 = s.est.seeded.toNat ∧
      (match s.est.anchor with
        | none => fieldAt b 22 7 = 0
        | some (l, t) => fieldAt b 22 1 = 1 ∧ fieldAt b 23 2 = l % 2 ^ 16 ∧ fieldAt b 25 4 = t % 2 ^ 32) ∧
      (match s.est.emptiedAt with
        | none => fieldAt b 29 5 = 0
        | some t => fieldAt b 29 1 = 1 ∧ fieldAt b 30 4 = t % 2 ^ 32) ∧
      fieldAt b 34 1 = s.est.sampleSince.toNat ∧
      (match s.est.lastReport with
        | none => fieldAt b 35 9 = 0
        | some r =>
          fieldAt b 35 1 = 1 ∧ fieldAt b 36 2 = r.level % 2 ^ 16 ∧ fieldAt b 38 1 = r.cls.val ∧
            fieldAt b 39 4 = r.second % 2 ^ 32 ∧ fieldAt b 43 1 = r.fault.toNat) ∧
      fieldAt b 44 2 = s.est.nextSeq.toNat

/-- R96: the entry record is 30 bytes, each field at its place, with the current age of R81. R96, R97: READ_ENTRY and
READ_SLOT return OK and the record of the entry asked for, or NONE, and change nothing; in UNCONFIGURED they give
STATE. -/
def Obligations.ReadEntryAndReadSlot : Prop :=
  (∀ (e : Entry) (now : Nat), ∃ b : List Byte, e.record now = b ∧ b.length = 30 ∧
     fieldAt b 0 1 = e.position % 2 ^ 8 ∧ fieldAt b 1 3 = e.report.binId.toNat ∧ fieldAt b 4 2 = e.report.seq.toNat ∧
     (∃ fl : Byte, b[6]? = some fl ∧
       [BinKind.litter, .glass, .underground, .compacting][fl.toNat / 64]? = some e.report.kind ∧
       fl.toNat / 16 % 4 = e.report.cls.val ∧ fl.getLsbD 3 = e.report.overfull ∧ fl.getLsbD 2 = e.report.emptied ∧
       fl.getLsbD 1 = e.report.fault ∧ fl.getLsbD 0 = e.report.since.isSome) ∧
     fieldAt b 7 2 = e.report.level % 2 ^ 16 ∧ fieldAt b 9 2 = e.report.rate % 2 ^ 16 ∧
     fieldAt b 11 2 = e.report.ttf % 2 ^ 16 ∧ fieldAt b 13 2 = e.report.since.getD 0 % 2 ^ 16 ∧
     fieldAt b 15 2 = e.rxAge % 2 ^ 16 ∧ fieldAt b 17 4 = e.rxTime % 2 ^ 32 ∧
     fieldAt b 21 2 = currentAge e.rxAge e.rxTime now ∧ fieldAt b 23 1 = e.hops % 2 ^ 8 ∧
     [Origin.own, .home, .passing][fieldAt b 24 1]? = some e.origin ∧
     [none, some Owing.owed, some .held, some .drained][fieldAt b 25 1]? = some (some e.owing) ∧
     [Placement.unplaced, .build, .stage][fieldAt b 26 1]? = some e.placed ∧ fieldAt b 27 1 = e.heard % 2 ^ 8 ∧
     fieldAt b 28 1 = e.sent % 2 ^ 8 ∧ fieldAt b 29 1 = e.exported.toNat) ∧
  (∀ s : State, s.port.ready = true →
     (s.running = false → ∀ a b c : Byte,
       exec (.readEntry [a, b, c]) s = .next (s.replied [a, b, c] [0x01] s) ∧
       exec (.readSlot [a]) s = .next (s.replied [a] [0x01] s)) ∧
     (s.running = true → tableWf s.table → ∀ d n1 n0 : Byte,
       (∀ e ∈ s.table, e.report.binId = d ++ n1 ++ n0 →
         exec (.readEntry [d, n1, n0]) s = .next (s.replied [d, n1, n0] (0x00 :: e.record s.clock) s)) ∧
       ((∀ e ∈ s.table, e.report.binId ≠ d ++ n1 ++ n0) →
         exec (.readEntry [d, n1, n0]) s = .next (s.replied [d, n1, n0] [0x05] s))) ∧
     (s.running = true → tableWf s.table → ∀ p : Byte,
       (∀ e ∈ s.table, e.position = p.toNat →
         exec (.readSlot [p]) s = .next (s.replied [p] (0x00 :: e.record s.clock) s)) ∧
       ((∀ e ∈ s.table, e.position ≠ p.toNat) → exec (.readSlot [p]) s = .next (s.replied [p] [0x05] s))))

/-- R147: REJOIN arms recovery in MUTE, and gives STATE with no effect otherwise. -/
def Obligations.RejoinArmsRecovery : Prop :=
  ∀ s : State, s.port.ready = true →
    (s.running = false ∨ s.mon.standing ≠ .mute → exec (.rejoin []) s = .next (s.replied [] [0x01] s)) ∧
    (s.running = true → s.mon.standing = .mute →
      exec (.rejoin []) s = .next (s.replied [] [0x00] { s with mon := { s.mon with armed := true } }))

/-- R182: CLEAR_NOTICES clears exactly the flags named and returns them all as they stood. R183: SET_NOTICE_MASK
replaces the mask whole and leaves the flags. -/
def Obligations.NoticeFlagsAndMaskCommands : Prop :=
  (∀ (s : State) (set : Byte), s.port.ready = true → s.running = true →
     ∃ flags : Byte,
       exec (.clearNotices [set]) s =
         .next (s.replied [set] [0x00, s.port.flags] { s with port := { s.port with flags := flags } }) ∧
       ∀ i < 8, flags.getLsbD i = (s.port.flags.getLsbD i && !set.getLsbD i)) ∧
  (∀ (s : State) (mask : Byte), s.port.ready = true → s.running = true →
     exec (.setNoticeMask [mask]) s =
       .next (s.replied [mask] [0x00] { s with port := { s.port with mask := mask } }))

/-! ### Station life (10.3 to 10.5, 1.5) -/

/-- R175: START in RUNNING gives STATE; in UNCONFIGURED a record whose refused fields do not all pass gives CONFIG and
the number of the first that fails; neither has any effect. -/
def Obligations.StartRefuses : Prop :=
  ∀ (s : State) (args : List Byte), s.port.ready = true → args.length = 43 →
    (s.running = true → exec (.start args) s = .next (s.replied args [0x01] s)) ∧
    ∀ n : Byte, s.running = false → startFailure args = some n →
      exec (.start args) s = .next (s.replied args [0x04, n] s)

/-- R174, R177: an accepted START makes the station RUNNING, holds the record, sets the mask, gives the selector its
START state, clears the estimator, and takes the engine out of OFF unless it is sending its abort tail; every other
block stands as the reset before left it. -/
def Obligations.StartRuns : Prop :=
  ∀ (s : State) (args : List Byte), s.port.ready = true → args.length = 43 → s.running = false →
    startFailure args = none →
    ∃ (c : HeldConfig) (t : State) (result : List Byte), exec (.start args) s = .next (s.replied args (0x00 :: result) t) ∧
      t = { s with running := true, config := some c, table := t.table, est := t.est, sel := t.sel,
                   gw := { s.gw with queue := t.gw.queue }, port := t.port, eng := t.eng } ∧
      (c.role = .bin ↔ fieldAt args 0 1 = 0) ∧ c.stationId.toNat = fieldAt args 1 3 ∧
      c.kindCode = fieldAt args 4 1 ∧ c.emptyDist = fieldAt args 5 2 ∧ c.fullDist = fieldAt args 7 2 ∧
      t.port = { s.port with mask := BitVec.ofNat 8 (fieldAt args 42 1), flags := t.port.flags } ∧
      t.port.flags = (if t.gw.queue = [] then s.port.flags else s.port.flags ||| 0x01) ∧
      t.est = { Estimator.reset with lidHeld := s.est.lidHeld, nextSeq := t.est.nextSeq } ∧
      t.sel = { s.sel with allowance := if c.role = .bin then c.capacity else 0, refillCount := 0 } ∧
      (s.eng.tail ≠ [] → t.eng = s.eng) ∧
      (s.eng.tail = [] → c.role = .bin →
        t.eng.state = .doze ∧ t.eng.listen = some c.listenPeriod ∧ t.eng.radioEn = false ∧ t.eng.key = false) ∧
      (s.eng.tail = [] → c.role = .gateway →
        t.eng.state = .awake ∧ t.eng.linger = s.eng.linger ∧ t.eng.idleGap = 0 ∧ t.eng.radioEn = true ∧ t.eng.key = false)

/-- R176: each clamped field is the default for 0 and else the value moved into its range, the listen period the
nearest of the four, the rest as given, and the result lists exactly the adjusted fields in field order. -/
def Obligations.StartAppliesTheRecord : Prop :=
  ∀ (s : State) (args : List Byte), s.port.ready = true → args.length = 43 → s.running = false →
    startFailure args = none →
    ∃ (c : HeldConfig) (t : State), t.config = some c ∧
      exec (.start args) s = .next (s.replied args
        (0x00 :: BitVec.ofNat 8 (adjustedNumbers args c).length :: (adjustedNumbers args c).map (BitVec.ofNat 8)) t) ∧
      (adjustedNumbers args c).length ≤ 15 ∧
      (∀ r ∈ clampedRows c, r.binOnly = false ∨ c.role = .bin →
        r.held = if fieldAt args r.offset r.bytes = 0 then r.dflt else max r.lo (min r.hi (fieldAt args r.offset r.bytes))) ∧
      (c.role = .bin →
        (fieldAt args 21 2 = 0 → c.listenPeriod = 1000) ∧
        (fieldAt args 21 2 ≠ 0 → c.listenPeriod ∈ [250, 500, 1000, 2000] ∧
          ∀ p ∈ [250, 500, 1000, 2000],
            apart c.listenPeriod (fieldAt args 21 2) ≤ apart p (fieldAt args 21 2) ∧
            (apart c.listenPeriod (fieldAt args 21 2) = apart p (fieldAt args 21 2) → p ≤ c.listenPeriod))) ∧
      c.startSeq.toNat = fieldAt args 19 2 ∧ c.filterId.toNat = fieldAt args 34 3 ∧
      c.filterMask.toNat = fieldAt args 37 3 ∧
      (∃ sw : Byte, args[40]? = some sw ∧ c.invert = sw.getLsbD 3 ∧ c.passingCarry = !sw.getLsbD 2 ∧
        c.homeGuard = !sw.getLsbD 1 ∧ c.autoRejoin = !sw.getLsbD 0) ∧
      args[42]? = some t.port.mask

/-- R79, R100, R166: START prepares the retained entries: in the bin role the own bin's entry is freed and gives the
next sequence, origins follow the new filter, and in the gateway role the bins not DRAINED form the queue in rising
order. -/
def Obligations.StartPreparesTheTable : Prop :=
  ∀ (s : State) (args : List Byte), s.port.ready = true → args.length = 43 → s.running = false →
    startFailure args = none → tableWf s.table →
    ∃ (c : HeldConfig) (t : State) (result : List Byte) (origin : BinId → Origin),
      exec (.start args) s = .next (s.replied args (0x00 :: result) t) ∧ t.config = some c ∧
      (∀ b, origin b = .home ∧ c.matchesHome b ∨ origin b = .passing ∧ ¬ c.matchesHome b) ∧
      (c.role = .bin →
        t.table = (s.table.filter (fun e => e.report.binId != c.stationId)).map
            (fun e => { e with origin := origin e.report.binId, exported := false }) ∧
        t.gw.queue = [] ∧
        ((∀ e ∈ s.table, e.report.binId ≠ c.stationId) → t.est.nextSeq = c.startSeq) ∧
        ∀ e ∈ s.table, e.report.binId = c.stationId →
          t.est.nextSeq =
            if 1 ≤ (e.report.seq + 1 - c.startSeq).toNat ∧ (e.report.seq + 1 - c.startSeq).toNat ≤ 32767 then
              e.report.seq + 1
            else c.startSeq) ∧
      (c.role = .gateway →
        t.table = s.table.map (fun e => { e with origin := origin e.report.binId }) ∧ t.est.nextSeq = 0 ∧
        t.gw.queue.Pairwise (fun a b => a.toNat < b.toNat) ∧
        ∀ b, b ∈ t.gw.queue ↔ ∃ e ∈ s.table, e.report.binId = b ∧ e.owing ≠ .drained)

/-- R178: RESTART has no effect in UNCONFIGURED; while RUNNING every block takes its RESTART state, and the clock, the
configuration, the mask and the saturating counters stand. -/
def Obligations.RestartClears : Prop :=
  ∀ (s : State) (sentBits : Nat), s.port.ready = true →
    (s.running = false → exec (.restart [] sentBits) s = .next (s.replied [] [0x00] s)) ∧
    (s.running = true →
      ∃ t, exec (.restart [] sentBits) s = .next (s.replied [] [0x00] t) ∧
        t = { s with
          running := false, eng := t.eng, pair := { s.pair with merging := none, waiting := none },
          table := (s.table.filter (fun e => e.origin != .own)).map (fun e =>
            { e with owing := (match e.owing with | .owed => .held | o => o), placed := .unplaced, heard := 0, sent := 0 }),
          est := { window := [], faultRun := 0, faultState := false, figures := none, rate := 0, seeded := false,
                   anchor := none, emptiedAt := none, sampleSince := false, lastReport := none, nextSeq := 0,
                   lidHeld := s.est.lidHeld },
          sel := { build := none, stage := none, allowance := 0, refillCount := 0 },
          mon := { sendFailure := 0, receptionFault := 0, standing := .active, recovery := 0, armed := false,
                   probeTimer := 0 },
          gw := { s.gw with queue := [], inHand := none, drainList := [], solicit := none },
          port := { s.port with flags := 0 } } ∧
        t.eng.state = .off ∧ t.eng.heard = s.eng.heard ∧ t.eng.sent = s.eng.sent ∧ t.eng.lost = s.eng.lost)

/-- R21, R2: RESTART of a running station drops whatever the engine has on the channel, except that in SENDING it
first finishes the byte or mark in progress and sends eight ones; the tail of a frame has at most 17 bits. How many
bits of the frame have gone onto the channel is the command's operand, and that the byte in progress is the one the
last of them falls in is the model's reading (notes/assumptions/8.md); that a stuffed bit which a byte's last bit
calls for falls within that byte is its choice (notes/assumptions/21.md). R21, R177: at the end of the abort tail KEY
and RADIO_EN go low, and an engine whose station START has made RUNNING meanwhile leaves OFF for DOZE or AWAKE then.
That the end of a tail with none being sent changes nothing is the model's choice (notes/assumptions/2.md). -/
def Obligations.RestartOnTheChannel : Prop :=
  (∀ (s : State) (sentBits : Nat), s.port.ready = true → s.running = true → s.eng.state ≠ .off →
     ∃ t, exec (.restart [] sentBits) s = .next t ∧ t.eng.offClear ∧ t.eng.state = .off ∧
       (s.eng.state ≠ .sending → t.eng.tail = [] ∧ t.eng.key = false ∧ t.eng.radioEn = false) ∧
       (s.eng.state = .sending → t.eng.key = true ∧ t.eng.radioEn = true ∧
         ∀ (o : OnAir) (done rest : List (List Bool)) (unit : List Bool), s.eng.onAir = some o →
           o.units = done ++ unit :: rest → done.flatten.length < sentBits ∨ done = [] ∧ sentBits = 0 →
           sentBits ≤ done.flatten.length + unit.length →
           t.eng.tail = unit.drop (sentBits - done.flatten.length) ++ List.replicate 8 true) ∧
       ∀ body : List Byte, s.eng.onAir = some (.sending body) → t.eng.tail.length ≤ 17) ∧
  (∀ s : State,
     (s.eng.tail = [] → exec .abortTailEnd s = .next s) ∧
     (s.eng.tail ≠ [] →
       ∃ t, exec .abortTailEnd s = .next t ∧ t = { s with eng := t.eng } ∧ t.eng.tail = [] ∧ t.eng.key = false ∧
         (s.running = false → t.eng = { s.eng with tail := [], key := false, radioEn := false }) ∧
         (s.running = true → s.role = .bin →
           t.eng.state = .doze ∧ t.eng.listen = some s.cfg.listenPeriod ∧ t.eng.radioEn = false) ∧
         (s.running = true → s.role = .gateway →
           t.eng.state = .awake ∧ t.eng.idleGap = 0 ∧ t.eng.radioEn = true)))

/-- R179, R80: hard reset puts every block in its hard-reset state; RESETN rising starts the clock from 0; 5 ms later
the port is ready; and each second the clock advances by 1, stopping at 4294967295. The levels of CARRIER and RXD and
the waiting commands are not the part's to clear, and a boundary the tick makes due is the model's own mark
(notes/assumptions/5.md, 19.md). -/
def Obligations.ResetAndClock : Prop :=
  ∀ s : State,
    exec .hardReset s = .next { State.reset with
      pending := s.pending, eng := { Engine.reset with carrier := s.eng.carrier, rxd := s.eng.rxd } } ∧
    (s.port.resetn = false →
      exec .resetRelease s =
        .next { s with clock := 0, boundaryDue := false, port := { s.port with resetn := true, ready := false } }) ∧
    (s.port.resetn = true → exec .portReady s = .next { s with port := { s.port with ready := true } }) ∧
    (s.port.resetn = true → s.clock < 4294967295 →
      exec .stationClockTick s =
        .next { s with clock := s.clock + 1, boundaryDue := s.boundaryDue || decide (60 ∣ s.clock + 1) }) ∧
    (s.clock = 4294967295 → exec .stationClockTick s = .next s)

/-- R80, R89, R131, R148: a minute boundary frees every non-OWN entry whose current age has reached the age limit,
takes its bin from the export queue, counts towards the refill in the bin role and runs the probe timer down in MUTE.
R128: the uncommitted frame of an entry it frees is withdrawn. That the refill itself is the next command is the
model's choice (notes/assumptions/5.md). R131: once the refill count has reached the refill interval it is set to 0
and the allowance rises by 1 up to the capacity; before that nothing is refilled. -/
def Obligations.MinuteBoundaryAndRefill : Prop :=
  (∀ s : State, s.boundaryDue = true →
     (s.running = false → exec .minuteBoundary s = .next { s with boundaryDue := false }) ∧
     (s.running = true →
       ∃ t, exec .minuteBoundary s = .next t ∧
         t = { s with boundaryDue := false, table := t.table, sel := t.sel, eng := t.eng,
                      gw := { s.gw with queue := t.gw.queue }, mon := { s.mon with probeTimer := t.mon.probeTimer } } ∧
         samePlacesAside t.table (s.table.filter (fun e =>
           decide (e.origin = .own ∨ currentAge e.rxAge e.rxTime s.clock < s.cfg.ageLimit))) ∧
         t.gw.queue = s.gw.queue.filter (fun b => s.table.all (fun e =>
           decide (e.report.binId = b → e.origin = .own ∨ currentAge e.rxAge e.rxTime s.clock < s.cfg.ageLimit))) ∧
         (tableWf s.table → ∀ e ∈ s.table, e.origin ≠ .own → s.cfg.ageLimit ≤ currentAge e.rxAge e.rxTime s.clock →
           s.withdrawsFrameOf t e) ∧
         t.sel.allowance = s.sel.allowance ∧
         t.sel.refillCount =
           (if s.role = .bin then min s.cfg.refillInterval (s.sel.refillCount + 1) else s.sel.refillCount) ∧
         t.mon.probeTimer = (if s.mon.standing = .mute then s.mon.probeTimer - 1 else s.mon.probeTimer))) ∧
  (∀ s : State, s.running = true → s.role = .bin →
     (s.sel.refillCount < s.cfg.refillInterval → exec .allowanceRefill s = .next s) ∧
     (s.cfg.refillInterval ≤ s.sel.refillCount →
       ∃ t, exec .allowanceRefill s = .next t ∧ s.onlySelects t ∧ t.sel.refillCount = 0 ∧
         t.sel.allowance = min s.cfg.capacity (s.sel.allowance + 1)))

/-- R137, R148: when the probe timer has run out in MUTE in the bin role and both slots are EMPTY, the OWN entry, if
OWED, unplaced and of class 0, is staged alone as the mute probe, with the key of its class, time to full and tie
byte. R136, R137: through every command, in MUTE nothing is BUILT and a frame in STAGE is a probe unless it is
SENDING, a frame newly staged is the probe of the OWN entry as it then stands, and no due probe that can be built is
left unbuilt, but for the minute boundary that makes it due, whose PROBE_TIMER_EXPIRY is a command of its own by the
model's choice (notes/assumptions/5.md). -/
def Obligations.ProbeTimerStagesTheProbe : Prop :=
  (∀ (s : State) (e : Entry), s.running = true → s.role = .bin → s.mon.standing = .mute → s.mon.probeTimer = 0 →
    s.sel.build = none → s.sel.stage = none → s.holds s.cfg.stationId e → e.owing = .owed → e.placed = .unplaced →
    e.report.cls = 0 →
    ∃ t x, exec .probeTimerExpiry s = .next t ∧ s.onlySelects t ∧ t.sel.build = none ∧ t.sel.stage = some x ∧
      x.frame.payload =
        .fill [{ report := e.report, rxAge := e.rxAge, rxTime := e.rxTime, hops := e.hops, origin := e.origin }] true ∧
      x.frame.key.toNat = min 63 (e.report.ttf / 64) * 256 + s.cfg.stationId.toNat % 256 ∧
      { e with placed := .stage } ∈ t.table) ∧
  (∀ (c : Instr) (s t : State), s.probeBuilt → s.clearedOk → ¬ (c = .minuteBoundary ∧ s.mon.probeTimer = 1) →
    exec c s = .next t → t.probeBuilt) ∧
  ∀ (c : Instr) (s t : State), s.muteOk → s.tableOk → s.clearedOk → s.slotsOk → exec c s = .next t →
    t.muteOk ∧
    (t.running = true → t.role = .bin → t.mon.standing = .mute → ∀ f, t.sel.stage = some { frame := f, cond := .staged } →
      (∀ x, s.sel.stage = some x → x.frame ≠ f) →
      ∃ e, t.holds t.cfg.stationId e ∧ e.owing = .owed ∧ e.placed = .stage ∧ e.report.cls = 0 ∧
        f.payload =
          .fill [{ report := e.report, rxAge := e.rxAge, rxTime := e.rxTime, hops := e.hops, origin := e.origin }] true)

/-! ### The fill estimator (chapter 4) -/

/-- R61, R62: the filtered range of the window after the sample has joined it, and the level and OVERFULL it gives;
both are kept in the current figures. R67, R68, R69: the time to full and the computed class of an admitted sample, in
order of their conditions, and the class a report carries, capped at 2 in the fault state. -/
def Obligations.FiguresOfAnAdmittedSample : Prop :=
  (∀ (c : HeldConfig) (t range : Nat) (compaction : Bool) (e : Estimator), e.window.length ≤ 3 → c.fullDist < c.emptyDist →
     ∃ f d, (e.admitRange c t range compaction).1.figures = some f ∧ f.range = d ∧
       (match (e.admitRange c t range compaction).1.window with
         | [x] => d = x
         | [x, y] => d = max x y
         | [x, y, z] =>
           d ∈ [x, y, z] ∧ 2 ≤ ([x, y, z].filter (fun v => v ≤ d)).length ∧ 2 ≤ ([x, y, z].filter (fun v => d ≤ v)).length
         | _ => False) ∧
       (c.emptyDist ≤ d → f.level = 0 ∧ f.overfull = false) ∧
       (d < c.fullDist → f.level = 1000 ∧ f.overfull = true) ∧
       (d = c.fullDist → f.level = 1000 ∧ f.overfull = false) ∧
       (c.fullDist < d → d < c.emptyDist →
         f.overfull = false ∧
         f.level = (2000 * (c.emptyDist - d) + (c.emptyDist - c.fullDist)) / (2 * (c.emptyDist - c.fullDist)) ∧
         2 * f.level * (c.emptyDist - c.fullDist) ≤ 2000 * (c.emptyDist - d) + (c.emptyDist - c.fullDist) ∧
         2000 * (c.emptyDist - d) + (c.emptyDist - c.fullDist) < 2 * (f.level + 1) * (c.emptyDist - c.fullDist))) ∧
  ((∀ (c : HeldConfig) (t range : Nat) (compaction : Bool) (e : Estimator), c.fullDist < c.emptyDist →
     ∃ e' f emptied, e.admitRange c t range compaction = (e', emptied) ∧ e'.figures = some f ∧
       (f.level = 1000 → f.ttf = 0 ∧ f.cls = 0) ∧
       (f.level < 1000 → e'.rate = 0 → f.ttf = 65535) ∧
       (f.level < 1000 → 0 < e'.rate → f.ttf = min 65534 (960 * (1000 - f.level) / e'.rate)) ∧
       (f.level < 1000 → f.ttf ≤ c.imminentHorizon → f.cls = 1) ∧
       (f.level < 1000 → c.imminentHorizon < f.ttf → c.dueLevel ≤ f.level ∨ f.ttf ≤ c.dueHorizon → f.cls = 2) ∧
       (f.level < 1000 → c.imminentHorizon < f.ttf → f.level < c.dueLevel → c.dueHorizon < f.ttf → f.cls = 3)) ∧
   ∀ (c : HeldConfig) (e : Estimator) (f : Figures) (t : Nat) (q : Seq) (emptied : Bool),
     (c.reportOf e f t q emptied).cls.val = (if e.faultState = true then min f.cls.val 2 else f.cls.val) ∧
     (c.reportOf e f t q emptied).fault = e.faultState)

/-- R65, R66: the rate step: the first anchor, the hold below 60 s, and the measured, bounded and smoothed rate. -/
def Obligations.RateStepMeasures : Prop :=
  ∀ (t l : Nat) (e : Estimator),
    (e.anchor = none → e.rateStep t l = { e with anchor := some (l, t) }) ∧
    ∀ la ta : Nat, e.anchor = some (la, ta) → ta ≤ t →
      (t - ta < 60 → e.rateStep t l = e) ∧
      (60 ≤ t - ta →
        ∃ r : Nat, (r : Int) = max 0 (min 65535 ((16 * 3600 * ((l : Int) - la)) / ((t : Int) - ta))) ∧
          e.rateStep t l = { e with
            rate := if e.seeded then (3 * e.rate + r) / 4 else r, seeded := true, anchor := some (l, t) } ∧
          (e.rate ≤ 65535 → (e.rateStep t l).rate ≤ 65535))

/-- R57 to R59, R186: how a sample is taken by its flags and the bin kind, and that lid and fault samples change only
their count, or the fault run and state. R60, R63, R64: what an admitted sample does to the window, the fault marks,
the sample-since mark, the emptied time, the rate and the anchor, and when it detects an emptying; what it does not
name stands. -/
def Obligations.SamplesAreTaken : Prop :=
  ((∀ (flags : Byte) (kind : BinKind),
     sampleKind flags kind =
       if flags.getLsbD 2 = true then .lid else if flags.getLsbD 1 = true then .fault
       else if flags.getLsbD 0 = true ∧ kind = .compacting then .compaction else .plain) ∧
   ∀ (c : HeldConfig) (t range : Nat) (e : Estimator),
     e.takeSample c t range .lid = ({ e with lidHeld := min 65535 (e.lidHeld + 1) }, false) ∧
     e.takeSample c t range .fault =
       ({ e with faultRun := min 3 (e.faultRun + 1), faultState := e.faultState || decide (2 ≤ e.faultRun) }, false) ∧
     e.takeSample c t range .compaction = e.admitRange c t (min 4000 range) true ∧
     e.takeSample c t range .plain = e.admitRange c t (min 4000 range) false) ∧
  (∀ (c : HeldConfig) (t range : Nat) (compaction : Bool) (e : Estimator), e.window.length ≤ 3 →
     ∃ e' f emptied, e.admitRange c t range compaction = (e', emptied) ∧ e'.figures = some f ∧
       e'.window = (e.window ++ [range]).drop ((e.window ++ [range]).length - 3) ∧
       e'.faultRun = 0 ∧ e'.faultState = false ∧ e'.sampleSince = true ∧
       e'.lastReport = e.lastReport ∧ e'.nextSeq = e.nextSeq ∧ e'.lidHeld = e.lidHeld ∧
       (emptied = true ↔
         compaction = false ∧ ∃ p, e.figures = some p ∧ (f.level : Int) ≤ (p.level : Int) - 250) ∧
       (compaction = true →
         e'.emptiedAt = e.emptiedAt ∧ e'.rate = e.rate ∧ e'.seeded = e.seeded ∧ e'.anchor = some (f.level, t)) ∧
       (emptied = true →
         e'.emptiedAt = some t ∧ e'.rate = 0 ∧ e'.seeded = false ∧ e'.anchor = some (f.level, t)) ∧
       (compaction = false → emptied = false →
         e'.emptiedAt = e.emptiedAt ∧ e'.rate = (e.rateStep t f.level).rate ∧
           e'.seeded = (e.rateStep t f.level).seeded ∧ e'.anchor = (e.rateStep t f.level).anchor))

/-- R56, R70, R73, R74: POST_SAMPLE takes the sample and runs the trigger check. With no trigger nothing but the
estimator changes. With one, an own report is issued: it replaces the OWN entry in its position, whose uncommitted
frame is withdrawn (R128), or takes the lowest FREE position or the victim's (R92 to R94), it preempts frames of a
larger lead class (R129), OWN_ISSUED is raised, and the result gives the outcome, whether one was issued, and the own
sequence. -/
def Obligations.PostSampleReports : Prop :=
  ∀ (s : State) (r1 r0 flags : Byte) (e : Estimator) (emptied : Bool),
    s.port.ready = true → s.running = true → s.role = .bin →
    s.est.takeSample s.cfg s.clock (r1.toNat * 256 + r0.toNat) (sampleKind flags (kindOf s.cfg.kindCode)) = (e, emptied) →
    ∃ (outcome q1 q0 : Byte) (t : State) (issued : Bool),
      exec (.postSample [r1, r0, flags]) s =
        .next (s.replied [r1, r0, flags] [0x00, outcome, if issued then 1 else 0, q1, q0] t) ∧
      outcome = (if flags.getLsbD 2 = true then 0 else if flags.getLsbD 1 = true then 1 else 2) ∧
      q1 ++ q0 = (t.est.nextSeq - 1 : BitVec 16) ∧
      (issued = true ↔ e.mustReport s.cfg s.clock emptied) ∧
      (issued = false → t = { s with est := e }) ∧
      (issued = true →
        ∃ f, e.figures = some f ∧ t.est = e.reported f s.clock (e.nextSeq + 1) ∧
          t = { s with est := t.est, table := t.table, refusals := t.refusals, sel := t.sel, eng := t.eng, port := t.port } ∧
          t.port = { s.port with flags := t.port.flags } ∧ t.port.flags.getLsbD 1 = true ∧
          s.storesOwn t id 0x02 (s.cfg.reportOf e f s.clock e.nextSeq emptied))

/-! ### The gateway unit (chapter 9) -/

/-- R163, R126: SOLICIT makes a new pending solicit with send count 0 and answers OK, or REPLACED when one was
pending; no uncommitted frame then carries the old one. In ACTIVE, with both slots EMPTY and nothing to drain, the new
one is staged with its class reduced to 0 to 3. Telling solicits apart by a serial is the model's
(notes/assumptions/15.md). -/
def Obligations.SolicitMakesAPendingSolicit : Prop :=
  ∀ (s : State) (b2 b1 b0 m2 m1 m0 k : Byte), s.port.ready = true → s.running = true → s.role = .gateway →
    ∃ t, exec (.solicit [b2, b1, b0, m2, m1, m0, k]) s =
        .next (s.replied [b2, b1, b0, m2, m1, m0, k] [if s.gw.solicit = none then 0x00 else 0x06] t) ∧
      t = { s with gw := { s.gw with solicit := t.gw.solicit, nextSerial := s.gw.nextSerial + 1 },
                   sel := t.sel, table := t.table, eng := t.eng } ∧
      samePlacesAside t.table s.table ∧
      t.gw.solicit = some { binId := b2 ++ b1 ++ b0, mask := m2 ++ m1 ++ m0, maxClass := k.toNat, sent := 0,
                            serial := s.gw.nextSerial } ∧
      (s.gw.solicit ≠ none → ∀ (f : FrameRec) (target : Target) (n : Nat),
        t.sel.stage = some { frame := f, cond := .staged } ∨ t.sel.build = some f →
        f.payload = .solicit target n → n = s.gw.nextSerial) ∧
      (s.sel.build = none → s.sel.stage = none → s.gw.drainList = [] → s.mon.standing = .active →
        ∃ x target, t.sel.stage = some x ∧ x.frame.payload = .solicit target s.gw.nextSerial ∧
          target.binId = b2 ++ b1 ++ b0 ∧ target.mask = m2 ++ m1 ++ m0 ∧ target.maxClass.val = min 3 k.toNat ∧
          x.frame.key.toNat = min 3 k.toNat * 16384 + 63 * 256 + s.cfg.stationId.toNat % 256)

/-- R157, R160: EXPORT_NEXT hands out the entry of the queue's head with the number queued and has it in hand, or
gives NONE; cut short among its busy or result bytes, the export in hand becomes absent and nothing else follows, but
that SDO has carried 0xFF in each busy byte (R169) and the result bytes not clocked out are lost (R171). -/
def Obligations.ExportNextHandsOutTheHead : Prop :=
  ∀ s : State,
    (s.port.ready = true → s.running = true → s.role = .gateway →
      (s.gw.queue = [] →
        exec (.exportNext []) s = .next (s.replied [] [0x05] { s with gw := { s.gw with inHand := none } })) ∧
      ∀ (b : BinId) (rest : List BinId) (e : Entry), s.gw.queue = b :: rest → s.holds b e →
        exec (.exportNext []) s = .next (s.replied []
          (0x00 :: e.record s.clock ++ [BitVec.ofNat 8 (rest.length + 1)])
          { s with gw := { s.gw with inHand := some (b, e.report.seq) } })) ∧
    ∀ (busy bytes n : Nat) (h : BinId × Seq), s.gw.inHand = some h → s.port.resultAt = some n →
      n + bytes < s.port.sdo.length →
      exec (.exportCutShort { busy := busy, bytes := bytes }) s =
        .next { s with
          gw := { s.gw with inHand := none },
          port := { s.port with
            sdo := s.port.sdo.take n ++ List.replicate busy 0xFF ++ (s.port.sdo.drop n).take bytes,
            resultAt := none } }

/-- R158: the completion of an export. The delivered report enters the drain list; an entry still at the reported
sequence is exported and DRAINED and leaves the queue, and one at any other stays as it is; and where the slots hold
nothing committed, the DRAIN frame of the list as it now is is staged, its key the tie byte (R37). R161: how the
delivered report enters the drain list, row by row, and when an item is pushed out and counted. -/
def Obligations.ExportCompletes : Prop :=
  (∀ (s : State) (b : BinId) (r : Seq), s.gw.inHand = some (b, r) → tableWf s.table →
     ∃ t, exec .exportNextCompletion s = .next t ∧
       t = { s with gw := t.gw, table := t.table, sel := t.sel, eng := t.eng,
                    port := { s.port with resultAt := none } } ∧
       t.gw = { s.gw with queue := t.gw.queue, inHand := none, drainList := t.gw.drainList, drainDrop := t.gw.drainDrop } ∧
       (∀ e, s.holds b e → e.report.seq = r →
         t.gw.queue = s.gw.queue.filter (fun x => decide (x ≠ b)) ∧
         changesOne b (fun x => { x with exported := true, owing := .drained }) s.table t.table) ∧
       ((∀ e ∈ s.table, e.report.binId = b → e.report.seq ≠ r) →
         t.gw.queue = s.gw.queue ∧ samePlacesAside t.table s.table) ∧
       (s.running = true → s.role = .gateway → s.mon.standing ≠ .mute → t.gw.drainList.length ≤ 8 →
         t.gw.drainList ≠ s.gw.drainList → (∀ f ∈ s.sel.frames, f.isFill = false) →
         (s.sel.stage = none → s.sel.build = none) → (∀ x, s.sel.stage = some x → x.cond = .staged) →
         ∃ x, t.sel.stage = some x ∧ t.drainsAll x.frame)) ∧
  (∀ (s : State) (b : BinId) (r : Seq), s.gw.inHand = some (b, r) →
     ∃ t, exec .exportNextCompletion s = .next t ∧
       ((∀ i ∈ s.gw.drainList, i.binId ≠ b) → s.gw.drainList.length < 8 →
         t.gw.drainList = s.gw.drainList ++ [⟨b, r, 0⟩] ∧ t.gw.drainDrop = s.gw.drainDrop) ∧
       ((∀ i ∈ s.gw.drainList, i.binId ≠ b) → ∀ (i : DrainItem) (is : List DrainItem), is.length = 7 →
         s.gw.drainList = i :: is →
         t.gw.drainList = is ++ [⟨b, r, 0⟩] ∧ t.gw.drainDrop = min 65535 (s.gw.drainDrop + 1)) ∧
       ∀ (before after : List DrainItem) (i : DrainItem), s.gw.drainList = before ++ i :: after → i.binId = b →
         (s.gw.drainList.map (fun x => x.binId)).Nodup →
         t.gw.drainDrop = s.gw.drainDrop ∧
         t.gw.drainList = before ++
           (if (r - i.seq).toNat < 32768 then { i with seq := r, sent := 0 } else i) :: after)

/-! ### The channel engine and the field (chapters 1 and 2) -/

/-- R123: whether a STAGED frame is eligible, by its kind, its lead, the standing and the allowance. -/
def Obligations.EligibilityTable : Prop :=
  ∀ s : State,
    (s.stageEligible = true →
      ∃ f, s.sel.stage = some { frame := f, cond := .staged }) ∧
    ∀ f : FrameRec, s.sel.stage = some { frame := f, cond := .staged } →
      (∀ (lead : Frozen) (rest : List Frozen) (probe : Bool), f.payload = .fill (lead :: rest) probe →
        (s.stageEligible = true ↔
          probe = true ∨
          s.mon.standing ≠ .mute ∧ (lead.origin = .own ∨ lead.report.cls = 0) ∨
          s.mon.standing = .active ∧ 1 ≤ s.sel.allowance)) ∧
      (∀ items, f.payload = .drain items → (s.stageEligible = true ↔ s.mon.standing ≠ .mute)) ∧
      ∀ target n, f.payload = .solicit target n → (s.stageEligible = true ↔ s.mon.standing = .active)

/-- R3 to R6: the listen timer takes DOZE to SAMPLE; the sample window ends in AWAKE with linger started when carrier
is seen or an eligible frame waits, and in DOZE with a fresh period otherwise. R6: the linger timer running out sets
the expired mark; in AWAKE a bin station then dozes exactly when nothing eligible is staged, CARRIER is low and no
recognised preamble awaits its fall. The recorded levels of CARRIER and TXD are the model's (notes/assumptions/6.md,
9.md). -/
def Obligations.DozeSampleAndLinger : Prop :=
  (∀ s : State,
     (∀ p, s.eng.state = .doze → s.eng.listen = some p →
       exec .listenTimerExpiry s =
         .next { s with eng := { s.eng with state := .sample, listen := none, radioEn := true } }) ∧
     (s.eng.state = .sample → s.role = .bin →
       exec .sampleCarrierSeen s =
         .next { s with eng := { s.eng with
           state := .awake, listen := none, linger := some s.cfg.linger, lingerExpired := false, carrier := true,
           watch := { running := true, plain := 0, recognised := false }, idleGap := 0, onAir := none,
           radioEn := true, key := false, txd := none } } ∧
       (s.stageEligible = true →
         exec .sampleWindowEnd s =
           .next { s with eng := { s.eng with
             state := .awake, listen := none, linger := some s.cfg.linger, lingerExpired := false, carrier := false,
             watch := .clear, idleGap := 0, onAir := none, radioEn := true, key := false, txd := none } }) ∧
       (s.stageEligible = false →
         exec .sampleWindowEnd s =
           .next { s with eng := { s.eng with
             state := .doze, listen := some s.cfg.listenPeriod, linger := none, lingerExpired := false,
             carrier := false, watch := .clear, idleGap := 0, radioEn := false, key := false, txd := none } }))) ∧
  (∀ (s : State) (p : Nat), s.eng.linger = some p →
     (s.eng.state = .awake ∧ s.eng.carrier = false ∧ s.role = .bin ∧ s.stageEligible = false ∧
         s.eng.watch.recognised = false →
       exec .lingerExpiry s =
         .next { s with eng := { s.eng with
           state := .doze, listen := some s.cfg.listenPeriod, linger := none, lingerExpired := false, watch := .clear,
           idleGap := 0, radioEn := false, key := false, txd := none } }) ∧
     (s.eng.state ≠ .awake ∨ s.eng.carrier = true ∨ (s.stageEligible = true ∧ s.eng.idleGap < 8) ∨
         (s.stageEligible = false ∧ (s.role = .gateway ∨ s.eng.watch.recognised = true)) →
       exec .lingerExpiry s = .next { s with eng := { s.eng with linger := none, lingerExpired := true } }))

/-- R7, R8: a carrier rise in AWAKE starts the watch and sets the idle gap back to 0; 20 ms of plain carrier sets the
mark; a change of RXD starts the plain time again. R7, R10, R23, R27: a carrier fall in AWAKE after a recognised
preamble begins a field, in which an eligible staged frame is COMMITTED and contends with its stored key, and
otherwise the station listens. R6, R7, R8: without the mark, the watch is cleared and the idle gap counts from the
fall, unless a bin station whose linger has expired, with nothing eligible staged, dozes at the fall. The levels kept
of the lines are the model's (notes/assumptions/6.md, 9.md), and so is the reading that a change of RXD leaves the
preamble-recognised mark and that a field's start clears the watch (notes/assumptions/17.md). -/
def Obligations.CarrierWatchAndFall : Prop :=
  (∀ s : State, s.eng.state = .awake →
     (s.eng.carrier = false →
       exec .carrierRise s =
         .next { s with eng := { s.eng with
           carrier := true, idleGap := 0, watch := { running := true, plain := 0, recognised := false } } }) ∧
     (s.eng.watch.running = true →
       exec .preambleRecognised s =
         .next { s with eng := { s.eng with watch := { running := true, plain := 20, recognised := true } } } ∧
       exec .rxdLevelChange s =
         .next { s with eng := { s.eng with
           rxd := !s.eng.rxd, watch := { running := true, plain := 0, recognised := s.eng.watch.recognised } } })) ∧
  (∀ s : State, s.eng.state = .awake → s.eng.carrier = true →
     (s.eng.watch.recognised = true →
       ∃ t, exec .carrierFall s = .next t ∧ t = { s with eng := t.eng, sel := t.sel } ∧
         t.eng = { s.eng with state := .field, slot := 0, part := t.eng.part, kindObs := none, carrier := false,
                              watch := .clear, radioEn := true, key := false, txd := none } ∧
         (∀ f, s.sel.stage = some { frame := f, cond := .staged } → s.stageEligible = true →
           t.sel = { s.sel with stage := some { frame := f, cond := .committed } } ∧
           ∃ isFill : Bool, t.eng.part = .contender f.key isFill ∧
             (isFill = true ↔ ∃ es probe, f.payload = .fill es probe)) ∧
         (s.sel.stage = none ∨ (s.stageEligible = false ∧ ∃ f, s.sel.stage = some { frame := f, cond := .staged }) →
           t.sel = s.sel ∧ t.eng.part = .listener)) ∧
     (s.eng.watch.recognised = false →
       (s.eng.lingerExpired = false ∨ s.stageEligible = true ∨ s.role = .gateway →
         exec .carrierFall s =
           .next { s with eng := { s.eng with carrier := false, idleGap := 0, watch := .clear } }) ∧
       (s.eng.lingerExpired = true → s.stageEligible = false → s.role = .bin →
         exec .carrierFall s =
           .next { s with eng := { s.eng with
             state := .doze, listen := some s.cfg.listenPeriod, linger := none, lingerExpired := false, carrier := false,
             watch := .clear, idleGap := 0, radioEn := false, key := false, txd := none } })))

/-- R8: when the idle gap the standing requires is reached with an eligible frame staged, the engine keys its preamble
in WAKING and the frame is COMMITTED; with none, the measure alone moves. R9, R22: at the end of the own preamble KEY
goes low and a field begins at once with CARRIER low, or at the next fall of CARRIER; the COMMITTED frame contends in
it. The recorded levels of CARRIER and TXD are the model's (notes/assumptions/6.md, 9.md). -/
def Obligations.IdleGapAndWakeLength : Prop :=
  (∀ s : State, s.eng.state = .awake → s.eng.carrier = false →
     ∃ gap : Nat, gap = (if s.mon.standing = .active then 8 else 48) ∧
       (∀ f, s.sel.stage = some { frame := f, cond := .staged } → s.stageEligible = true →
         exec .idleGapReached s =
           .next { s with
             sel := { s.sel with stage := some { frame := f, cond := .committed } },
             eng := { s.eng with state := .waking, idleGap := max s.eng.idleGap gap, key := true, txd := some false } }) ∧
       (s.stageEligible = false → s.eng.lingerExpired = false →
         exec .idleGapReached s = .next { s with eng := { s.eng with idleGap := max s.eng.idleGap gap } })) ∧
  (∀ s : State, s.eng.state = .waking →
     (s.eng.key = true →
       exec (.wakeLengthEnd true) s = .next { s with eng := { s.eng with carrier := true, key := false, txd := none } }) ∧
     ∀ (c : Instr) (f : FrameRec), c = .wakeLengthEnd false ∧ s.eng.key = true ∨ c = .wakingCarrierFall ∧ s.eng.key = false →
       s.sel.stage = some { frame := f, cond := .committed } →
       ∃ isFill : Bool, (isFill = true ↔ ∃ es probe, f.payload = .fill es probe) ∧
         exec c s =
           .next { s with eng := { s.eng with
             state := .field, slot := 0, part := .contender f.key isFill, kindObs := none, carrier := false,
             watch := .clear, radioEn := true, key := false, txd := none } })

/-- R9, R30, R126, R127: at the 2200 ms cap the engine is in AWAKE and the frame lost its field without counting as a
lost contention; the withdrawal check then withdraws the frame or makes it STAGED again, by its kind, in every
standing for a FILL frame (R138 rebuilding one that is not eligible). The recorded levels of CARRIER and TXD are the
model's (notes/assumptions/6.md, 9.md). -/
def Obligations.WakingCapReportsLost : Prop :=
  ∀ s : State, s.eng.state = .waking → s.eng.key = false →
    ∃ t, exec .wakingCap s = .next t ∧ s.onlySelects t ∧ t.eng.state = .awake ∧ t.eng.carrier = true ∧
      t.eng.watch = { running := true, plain := 0, recognised := false } ∧ t.eng.lost = s.eng.lost ∧ s.checkedAtLoss t

/-- R24 to R27, R30: in slot n below 16 a contender keys its key bit 15 − n when it is 0 and listens when it is 1; in
slot 16 it keys for a FILL frame and listens otherwise; a station that does not key slot 16 records the carrier heard
there; and a contender that listens and hears carrier has lost, keys no more, and counts one lost contention. R25,
R26, R127: carrier first seen in the slot a contender is listening in makes it lose at that moment; its lost
contention is counted once, and its frame goes through the withdrawal check. That the loss comes about in FIELD_SLOT
as well as in CONTENTION_LOST, whichever comes first, is the model's choice (notes/assumptions/7.md). -/
def Obligations.FieldSlotsAndLoss : Prop :=
  (∀ (s : State) (carrier : Bool), s.eng.state = .field → s.eng.slot ≤ 16 →
     ∃ (keyed : Bool) (t : State), exec (.fieldSlot carrier) s = .next t ∧ s.onlySelects t ∧
       (∀ key isFill, s.eng.part = .contender key isFill →
         (s.eng.slot < 16 → keyed = !key.getLsbD (15 - s.eng.slot)) ∧ (s.eng.slot = 16 → keyed = isFill)) ∧
       (s.eng.part = .listener ∨ s.eng.part = .lost → keyed = false) ∧
       t.eng = { s.eng with slot := s.eng.slot + 1, key := keyed, txd := t.eng.txd, kindObs := t.eng.kindObs,
                            part := t.eng.part, lost := t.eng.lost } ∧
       (keyed = true → t.eng.txd = some false) ∧
       t.eng.kindObs = (if s.eng.slot = 16 ∧ keyed = false then some carrier else s.eng.kindObs) ∧
       (keyed = false → carrier = true → (∃ key isFill, s.eng.part = .contender key isFill) →
         t.eng.part = .lost ∧ t.eng.lost = min (2 ^ 32 - 1) (s.eng.lost + 1) ∧ s.checkedAtLoss t) ∧
       (keyed = true ∨ carrier = false ∨ s.eng.part = .listener ∨ s.eng.part = .lost →
         t.eng.part = s.eng.part ∧ t.eng.lost = s.eng.lost ∧ t.sel = s.sel ∧ t.table = s.table)) ∧
  (∀ (s : State) (key : Key) (isFill : Bool), s.eng.state = .field → 1 ≤ s.eng.slot → s.eng.slot ≤ 17 →
     s.eng.part = .contender key isFill → s.eng.key = false →
     ∃ t, exec .contentionLost s = .next t ∧ s.onlySelects t ∧
       t.eng = { s.eng with
         part := .lost, lost := min (2 ^ 32 - 1) (s.eng.lost + 1),
         kindObs := if s.eng.slot = 17 then some true else s.eng.kindObs } ∧
       (s.sel.stageCond = some .committed → t.sel.stageCond ≠ some .committed) ∧ s.checkedAtLoss t)

/-- R12, R28, R130: a contender still contending at the end of slot 16 wins: its frame is SENDING and its body is
handed to the engine with the ages of that second and the CRC, to go onto the channel stuffed between the marks, the
allowance is spent on a FILL frame whose lead is not exempt and which is no probe, and a probe sets the probe timer
again. R10, R12, R29: every other station enters RECEIVING at the field's end; and when the closing mark has been sent
KEY goes low, the frames-sent count rises and the engine awaits the echo. The recorded levels of CARRIER and TXD are
the model's (notes/assumptions/6.md, 9.md). -/
def Obligations.FieldEndAndClosingMark : Prop :=
  (∀ (s : State) (x : StageSlot) (key : Key) (isFill : Bool), s.eng.state = .field → s.eng.slot = 17 →
     s.eng.part = .contender key isFill → s.sel.stage = some x →
     ∃ t body, exec .fieldEnd s = .next t ∧
       (OnAir.sending (body ++ crcBytes body)).units.flatten = channelBits (body ++ crcBytes body) ∧
       fieldAt (crcBytes body) 0 2 = (crcOf body).toNat ∧
       t = { s with eng := { s.eng with state := .sending, onAir := some (.sending (body ++ crcBytes body)), key := true,
                                        txd := none },
                    sel := { s.sel with stage := some { x with cond := .sending }, allowance := t.sel.allowance },
                    mon := { s.mon with probeTimer := t.mon.probeTimer } } ∧
       (∀ es probe, x.frame.payload = .fill es probe →
         body = headerBytes 1 es.length s.cfg.stationId ++
           es.flatMap (fun e => entryBytes e.report (currentAge e.rxAge e.rxTime s.clock) e.hops) ∧
         t.mon.probeTimer = (if probe = true then s.cfg.probeInterval else s.mon.probeTimer) ∧
         ∀ lead rest, es = lead :: rest →
           t.sel.allowance = s.sel.allowance -
             (if probe = true ∨ lead.origin = .own ∨ lead.report.cls = 0 then 0 else 1)) ∧
       (∀ items, x.frame.payload = .drain items →
         body = headerBytes 3 items.length s.cfg.stationId ++ items.flatMap itemBytes ∧
         t.sel.allowance = s.sel.allowance ∧ t.mon.probeTimer = s.mon.probeTimer) ∧
       ∀ target n, x.frame.payload = .solicit target n →
         body = headerBytes 2 1 s.cfg.stationId ++ targetBytes target ∧
         t.sel.allowance = s.sel.allowance ∧ t.mon.probeTimer = s.mon.probeTimer) ∧
  (∀ s : State,
     (s.eng.state = .field → s.eng.slot = 17 → s.eng.part = .listener ∨ s.eng.part = .lost →
       exec .fieldEnd s =
         .next { s with eng := { s.eng with state := .receiving, onAir := none, key := false, txd := none } }) ∧
     (s.eng.state = .sending →
       exec .closingMarkSent s =
         .next { s with eng := { s.eng with
           state := .awaitEcho, onAir := none, sent := min (2 ^ 32 - 1) (s.eng.sent + 1), key := false, txd := none } }))

/-- R11: the hunt ends at the first place that shows six ones followed by two zeros, and taking the body begins with
the run count at two zeros and the CRC register preset; with no mark the mark wait ends in AWAKE, the observation
discarded, or for a bin station whose linger has expired, with CARRIER low and nothing eligible, in DOZE (R6). The
recorded levels of CARRIER and TXD are the model's (notes/assumptions/6.md, 9.md), and so is it that the event carries
the bits of the hunt and changes nothing where they do not end in the mark (notes/assumptions/2.md, 10.md). -/
def Obligations.MarkHunt : Prop :=
  ∀ s : State, s.eng.state = .receiving → s.eng.onAir = none →
    (∀ rxd : List Bool,
      ((∃ before, rxd = before ++ markBits) → (∀ before after, rxd = before ++ markBits ++ after → after = []) →
        exec (.openingMarkFound rxd) s =
          .next { s with eng := { s.eng with
            onAir := some { units := [], runBit := false, run := 2, crc := 0xFFFF, bytes := 0 } } }) ∧
      ((∀ before, rxd ≠ before ++ markBits) → exec (.openingMarkFound rxd) s = .next s)) ∧
    (∀ carrier : Bool,
      carrier = true ∨ s.eng.lingerExpired = false ∨ s.stageEligible = true ∨ s.role = .gateway →
      exec (.markWaitExpiry carrier) s =
        .next { s with eng := { s.eng with
          state := .awake, listen := none, kindObs := none, carrier := carrier, idleGap := 0, onAir := none,
          watch := { running := carrier, plain := 0, recognised := false }, radioEn := true, key := false, txd := none } }) ∧
    (s.eng.lingerExpired = true → s.stageEligible = false → s.role = .bin →
      exec (.markWaitExpiry false) s =
        .next { s with eng := { s.eng with
          state := .doze, listen := some s.cfg.listenPeriod, linger := none, lingerExpired := false, kindObs := none,
          carrier := false, idleGap := 0, onAir := none, watch := .clear, radioEn := false, key := false, txd := none } })

/-! ### Frames taken and their outcomes (1.4, 6.1, 7.6) -/

/-- R17, R19, R103, R104, R144: a good frame is stamped, counted, told to the monitor and handed to the receive pair,
where a clash is only counted, a first frame merges, a second waits, and a third overwrites the waiting one with
OVERRUN; its echo is keyed in ACTIVE standing, before or after the monitor's report by the operand
(notes/assumptions/4.md). R136, R138: where the standing changes, the selector is left with nothing to rebuild, and
where it leaves MUTE a STAGED probe stands on as an ordinary FILL frame. The recorded levels of CARRIER and TXD are
the model's (notes/assumptions/6.md, 9.md). -/
def Obligations.GoodFrameIsHandedOver : Prop :=
  ∀ (s : State) (rxd : List Bool) (monitorFirst clash : Bool) (f : RxFrame),
    s.eng.state = .receiving → s.eng.onAir ≠ none → judge rxd s.eng.kindObs s.clock = .good f →
    (clash = true ↔ f.sender = s.cfg.stationId) →
    ∃ t, exec (.goodFrame rxd monitorFirst) s = .next t ∧ f.rxTime = s.clock ∧
      t = { s with eng := t.eng, pair := t.pair, mon := s.mon.good clash, sel := t.sel, table := t.table,
                   port := { s.port with flags := t.port.flags } } ∧
      samePlacesAside t.table s.table ∧
      (t.mon.standing = s.mon.standing → t.sel = s.sel ∧ t.table = s.table) ∧
      (t.mon.standing ≠ s.mon.standing → t.settled) ∧
      (s.mon.standing = .mute → t.mon.standing ≠ .mute → ∀ g lead rest, g.payload = .fill (lead :: rest) true →
        s.sel.stage = some { frame := g, cond := .staged } → lead.origin = .own ∨ lead.report.cls = 0 →
        t.sel.stage = some { frame := { g with payload := .fill (lead :: rest) false }, cond := .staged }) ∧
      t.eng = { s.eng with state := .echoing, onAir := none, heard := min (2 ^ 32 - 1) (s.eng.heard + 1),
                           key := t.eng.key, txd := if t.eng.key = true then some false else none } ∧
      (t.eng.key = true ↔ (if monitorFirst = true then t.mon.standing else s.mon.standing) = .active) ∧
      (clash = true → t.pair = { s.pair with clash := min 65535 (s.pair.clash + 1) }) ∧
      (clash = false → s.pair.merging = none →
        t.pair = { s.pair with merging := some { frame := f, cursor := 0 } }) ∧
      (clash = false → s.pair.merging ≠ none → s.pair.waiting = none →
        t.pair = { s.pair with waiting := some f }) ∧
      (clash = false → s.pair.merging ≠ none → s.pair.waiting ≠ none →
        t.pair = { s.pair with waiting := some f, overrun := min 65535 (s.pair.overrun + 1) }) ∧
      ∀ i, t.port.flags.getLsbD i =
        (s.port.flags.getLsbD i || (i == 7 && t.mon.standing != s.mon.standing) ||
          (i == 6 && !clash && s.pair.merging.isSome && s.pair.waiting.isSome))

/-- R14 to R16, R44, R49 to R52: the bits behind the opening mark are judged good, with a frame record, exactly when
they close with a body that passes every check and reads as that record, and bad exactly when the taking breaks off or
they close with a body that gives no record. The bits of the closing mark's ones count as kept until the mark is known
(notes/assumptions/11.md). R14, R18, R19: a failed check, an abort or the fall of CARRIER before the closing mark is
complete makes a bad frame, told to the monitor and discarded; it and the end of the echo slot return the engine to
AWAKE with linger restarted. R138: where the standing changes, the selector is left with nothing to rebuild. A frame
whose mark is complete and whose checks pass is no bad frame whatever follows it, and bits that are not good are no
good frame; that either event then changes nothing is the model's choice (notes/assumptions/2.md, 10.md). The recorded
levels of CARRIER and TXD are the model's (notes/assumptions/6.md, 9.md). -/
def Obligations.BadFrameAndEchoSlotEnd : Prop :=
  (∀ (rxd : List Bool) (carrierSeen : Option Bool) (second : Nat),
    (∀ f : RxFrame, judge rxd carrierSeen second = .good f ↔
      ∃ kept, closesWith rxd kept ∧ goodBody kept carrierSeen second f) ∧
    (judge rxd carrierSeen second = .bad ↔
      breaksOff rxd ∨ ∃ kept, closesWith rxd kept ∧ ∀ f : RxFrame, ¬ goodBody kept carrierSeen second f)) ∧
  ∀ (s : State) (carrier : Bool),
    (∀ rxd : List Bool, s.eng.state = .receiving → s.eng.onAir ≠ none →
      judge rxd s.eng.kindObs s.clock = .bad ∨
        (judge rxd s.eng.kindObs s.clock = .unfinished ∧ carrier = false) →
      ∃ t, exec (.badFrame rxd carrier) s = .next t ∧
        t = { s with eng := s.awakeAgain carrier { s.eng with kindObs := none }, mon := s.mon.bad, sel := t.sel,
                     table := t.table, port := { s.port with flags := t.port.flags } } ∧
        samePlacesAside t.table s.table ∧
        (t.mon.standing = s.mon.standing → t.sel = s.sel ∧ t.table = s.table) ∧
        (t.mon.standing ≠ s.mon.standing → t.settled) ∧
        ∀ i, t.port.flags.getLsbD i =
          (s.port.flags.getLsbD i || (i == 7 && t.mon.standing != s.mon.standing))) ∧
    (∀ (rxd after : List Bool) (f : RxFrame), judge rxd s.eng.kindObs s.clock = .good f →
      exec (.badFrame (rxd ++ after) carrier) s = .next s) ∧
    (∀ (rxd : List Bool) (monitorFirst : Bool), (∀ f, judge rxd s.eng.kindObs s.clock ≠ .good f) →
      exec (.goodFrame rxd monitorFirst) s = .next s) ∧
    (s.eng.state = .echoing →
      exec (.echoSlotEnd carrier) s = .next { s with eng := s.awakeAgain carrier s.eng })

/-- R20, R132 to R135: the echo slot after the own frame ends ECHOED when carrier was heard in it, and UNECHOED
otherwise; the outcome goes to the monitor, and to the entries, items or solicit the frame still matches. STAGE then
empties and BUILD moves up, its entries with it; entering MUTE leaves no uncommitted frame (R136), and the selector is
left with nothing to build or rebuild (R125, R126, R138). An entry that the outcome has just made HELD is not placed
with a frame that moves up (notes/assumptions/14.md). That a changed drain list is then what is staged covers an
UNECHOED outcome that only raises send counts, which the model reads as a change that withdraws
(notes/assumptions/13.md), and that it is staged whole, the items just announced among it, rests on the model's choice
that building waits until STAGE is EMPTY (notes/assumptions/22.md). The operand monitorFirst takes both orders of R136
(notes/assumptions/4.md). The recorded levels of CARRIER and TXD are the model's (notes/assumptions/6.md, 9.md). -/
def Obligations.EchoOutcomeIsApplied : Prop :=
  ∀ (s : State) (echo carrier monitorFirst : Bool) (f : FrameRec), s.eng.state = .awaitEcho →
    s.sel.stage = some { frame := f, cond := .sending } → tableWf s.table →
    ∃ t, exec (.awaitEchoEnd echo carrier monitorFirst) s = .next t ∧
      t = { s with eng := s.awakeAgain carrier s.eng, table := t.table, sel := t.sel, gw := t.gw,
                   mon := s.mon.outcome echo s.cfg.autoRejoin s.cfg.probeInterval,
                   port := { s.port with flags := t.port.flags } } ∧
      t.sel.allowance = s.sel.allowance ∧ t.sel.refillCount = s.sel.refillCount ∧
      (t.sel.stageCond = none ∨ t.sel.stageCond = some .staged) ∧ t.settled ∧
      (∀ g, s.sel.build = some g → g.isSolicit = false → f.isDrain = false ∨ g.isDrain = false →
        s.mon.standing ≠ .mute → t.mon.standing ≠ .mute → s.eligible g = true → t.eligible g = true →
        t.sel.stage = some { frame := g, cond := .staged } ∧
        (∀ e ∈ t.table, e.owing = .owed → (e.report.binId, e.report.seq) ∈ g.refs → e.placed = .stage) ∧
        ∀ e ∈ s.table, e.placed = .build → (e.report.binId, e.report.seq) ∉ f.refs →
          { e with placed := .stage } ∈ t.table) ∧
      (s.mon.standing ≠ .mute → t.mon.standing = .mute → s.cfg.probeInterval ≠ 0 →
        t.sel.stage = none ∧ t.sel.build = none) ∧
      (∀ i, t.port.flags.getLsbD i = true ↔
        s.port.flags.getLsbD i = true ∨ i = 7 ∧ t.mon.standing ≠ s.mon.standing ∨
          i = 2 ∧ echo = true ∧ s.isBin = true ∧
            ∃ e ∈ s.table, e.report.binId = s.cfg.stationId ∧ (e.report.binId, e.report.seq) ∈ f.refs) ∧
      (∀ es probe, f.payload = .fill es probe →
        t.gw = s.gw ∧
        samePlacesAside t.table (s.table.map (fun e =>
          if (e.report.binId, e.report.seq) ∈ es.map (fun c => (c.report.binId, c.report.seq)) then
            { e with
              sent := min 7 (e.sent + 1),
              owing := if e.owing = .owed ∧ (echo = true ∨ s.cfg.sendLimit ≤ min 7 (e.sent + 1)) then .held else e.owing }
          else e))) ∧
      (∀ items, f.payload = .drain items →
        samePlacesAside t.table s.table ∧
        t.gw = { s.gw with drainList := t.gw.drainList, drainDrop := t.gw.drainDrop } ∧
        (t.gw.drainList ≠ s.gw.drainList → s.running = true → s.role = .gateway → s.mon.standing ≠ .mute →
          t.mon.standing ≠ .mute → (∀ g ∈ s.sel.frames, g.isFill = false) → t.stagesDrains) ∧
        (echo = true →
          t.gw.drainList = s.gw.drainList.filter (fun i => decide ((i.binId, i.seq) ∉ items)) ∧
          t.gw.drainDrop = s.gw.drainDrop) ∧
        (echo = false →
          t.gw.drainList = (s.gw.drainList.map (fun i =>
              if (i.binId, i.seq) ∈ items then { i with sent := min 7 (i.sent + 1) } else i)).filter
            (fun i => decide ((i.binId, i.seq) ∉ items ∨ i.sent < s.cfg.sendLimit)) ∧
          (s.gw.drainDrop ≤ 65535 →
            t.gw.drainDrop = min 65535 (s.gw.drainDrop + (s.gw.drainList.length - t.gw.drainList.length))))) ∧
      ∀ target n, f.payload = .solicit target n →
        samePlacesAside t.table s.table ∧ t.gw = { s.gw with solicit := t.gw.solicit } ∧
        (∀ p, s.gw.solicit = some p → p.serial = n →
          t.gw.solicit =
            if echo = true ∨ s.cfg.sendLimit ≤ min 7 (p.sent + 1) then none
            else some { p with sent := min 7 (p.sent + 1) }) ∧
        ((∀ p, s.gw.solicit = some p → p.serial ≠ n) → t.gw.solicit = s.gw.solicit)

/-! ### The standing monitor (chapter 8) -/

/-- R142 to R146, R149: how an echo outcome, a good frame and a bad frame move the counts, the standing, recovery and
the armed mark, in MUTE and outside it. -/
def Obligations.MonitorArithmetic : Prop :=
  ∀ (m : Monitor) (autoRejoin clash : Bool) (interval : Nat),
    ∃ worked : Nat → Nat → Standing,
      (∀ x y, worked x y = .quiet ↔ 127 < x ∨ 127 < y) ∧ (∀ x y, worked x y = .active ↔ x ≤ 127 ∧ y ≤ 127) ∧
      (m.standing ≠ .mute →
        m.outcome true autoRejoin interval =
          { m with sendFailure := m.sendFailure - 1, standing := worked (m.sendFailure - 1) m.receptionFault } ∧
        (m.sendFailure + 8 < 256 →
          m.outcome false autoRejoin interval =
            { m with sendFailure := m.sendFailure + 8, standing := worked (m.sendFailure + 8) m.receptionFault }) ∧
        (256 ≤ m.sendFailure + 8 →
          m.outcome false autoRejoin interval =
            { sendFailure := 256, receptionFault := m.receptionFault, standing := .mute, recovery := 0,
              armed := autoRejoin, probeTimer := interval }) ∧
        (∀ y, y = (if 127 < m.receptionFault then 120 else m.receptionFault - 1) →
          m.good clash = { m with receptionFault := y, standing := worked m.sendFailure y }) ∧
        m.bad = { m with receptionFault := min 255 (m.receptionFault + 1),
                         standing := worked m.sendFailure (min 255 (m.receptionFault + 1)) }) ∧
      (m.standing = .mute →
        m.outcome true autoRejoin interval =
          { m with sendFailure := 128, standing := .quiet, recovery := 0, armed := false } ∧
        m.outcome false autoRejoin interval = { m with sendFailure := 256 } ∧
        (∀ y, y = (if 127 < m.receptionFault then 120 else m.receptionFault - 1) →
          (m.armed = false ∨ clash = true → m.good clash = { m with receptionFault := y }) ∧
          (m.armed = true → clash = false → m.recovery + 1 < 128 →
            m.good clash = { m with receptionFault := y, recovery := m.recovery + 1 }) ∧
          (m.armed = true → clash = false → 128 ≤ m.recovery + 1 →
            m.good clash = { m with sendFailure := 0, receptionFault := 0, standing := .active, recovery := 0,
                                    armed := false })) ∧
        m.bad = { m with receptionFault := min 255 (m.receptionFault + 1) })

/-! ### Merging (chapter 6) -/

/-- R109, R110, R113, R114: a report heard again at the held sequence counts towards suppression while OWED; an older
one repairs a HELD entry below the send and hop limits in the bin role; an unordered one changes nothing. For the own
bin the sequence compared with is the own sequence, and with no OWN entry none of them changes anything. R128, R129:
the uncommitted frame of an entry made HELD is withdrawn, and an entry repaired, wherever it is placed
(notes/assumptions/12.md), preempts frames of a larger lead class. -/
def Obligations.HearingAgainSuppressesOrRepairs : Prop :=
  (∀ (s : State) (m : Merging) (r : RxEntry),
    s.hearsEntry m r → r.malformed = false → s.running = true → s.role = .bin → r.report.binId = s.cfg.stationId →
    (∀ e ∈ s.table, e.report.binId ≠ s.cfg.stationId) →
    (r.report.seq - (s.est.nextSeq - 1)).toNat = 0 ∨ 32768 ≤ (r.report.seq - (s.est.nextSeq - 1)).toNat →
    ∃ t, exec .mergeStep s = .next t ∧ s.mergesInto t ∧ samePlacesAside t.table s.table) ∧
  ∀ (s : State) (m : Merging) (r : RxEntry) (e : Entry) (own : Bool) (h : Seq),
    s.hearsEntry m r → r.malformed = false → s.running = true → s.holds r.report.binId e →
    (own = true ↔ s.role = .bin ∧ r.report.binId = s.cfg.stationId) →
    h = (if own = true then s.est.nextSeq - 1 else e.report.seq) →
    ∃ t, exec .mergeStep s = .next t ∧
      ((r.report.seq - h).toNat = 0 ∨ 32768 ≤ (r.report.seq - h).toNat → s.mergesInto t) ∧
      ((r.report.seq - h).toNat = 0 → e.owing = .owed →
        changesOne r.report.binId (fun x => { x with
          heard := min 7 (x.heard + 1), owing := if s.cfg.suppressCount ≤ min 7 (x.heard + 1) then .held else .owed })
          s.table t.table ∧
        (s.cfg.suppressCount ≤ min 7 (e.heard + 1) → s.withdrawsFrameOf t e)) ∧
      (32768 < (r.report.seq - h).toNat → s.role = .bin → e.owing = .held → e.sent < s.cfg.sendLimit →
        own = true ∨ e.hops < s.cfg.hopLimit →
        changesOne r.report.binId (fun x => { x with owing := .owed }) s.table t.table ∧
          s.preemptedBy t e.report.cls) ∧
      (((r.report.seq - h).toNat = 0 ∧ e.owing ≠ .owed) ∨ (r.report.seq - h).toNat = 32768 ∨
          (32768 < (r.report.seq - h).toNat ∧
            (s.role = .gateway ∨ e.owing ≠ .held ∨ s.cfg.sendLimit ≤ e.sent ∨
              (own = false ∧ s.cfg.hopLimit ≤ e.hops))) →
        samePlacesAside t.table s.table)

/-- R112, R155, R156: a newer report of a held bin supersedes the entry in its position; in the gateway role it is
HELD and its bin joins the export queue, raising EXPORT_READY when the queue was empty. R128, R129: the uncommitted
frame the entry was placed in is withdrawn, and the new one, if OWED, preempts frames of a larger lead class. -/
def Obligations.NewerReportSupersedes : Prop :=
  ∀ (s : State) (m : Merging) (r : RxEntry) (e : Entry),
    s.hearsEntry m r → r.malformed = false → s.running = true → s.holds r.report.binId e →
    s.role = .gateway ∨ r.report.binId ≠ s.cfg.stationId →
    1 ≤ (r.report.seq - e.report.seq).toNat → (r.report.seq - e.report.seq).toNat ≤ 32767 →
    ∃ t, exec .mergeStep s = .next t ∧
      t = { s with pair := t.pair, table := t.table, sel := t.sel, eng := t.eng,
                   gw := { s.gw with queue := t.gw.queue }, port := { s.port with flags := t.port.flags } } ∧
      changesOne r.report.binId (fun x => s.storedAs r m.frame.rxTime x.position x.origin) s.table t.table ∧
      s.withdrawsFrameOf t e ∧
      ((s.storedAs r m.frame.rxTime e.position e.origin).owing = .owed → s.preemptedBy t r.report.cls) ∧
      t.gw.queue =
        (if s.role = .gateway ∧ r.report.binId ∉ s.gw.queue then s.gw.queue ++ [r.report.binId] else s.gw.queue) ∧
      t.port.flags = (if s.role = .gateway ∧ s.gw.queue = [] then s.port.flags ||| 0x01 else s.port.flags)

/-- R72, R111: a report of the own bin newer than the own sequence is a sequence jump: SEQ_JUMP is raised, the next
sequence moves past it, and with a filtered level an own report is issued at once, under the heard sequence itself in
the half-distance case, and stored as R74 gives. -/
def Obligations.SequenceJumpIssues : Prop :=
  ∀ (s : State) (m : Merging) (r : RxEntry),
    s.hearsEntry m r → r.malformed = false → s.running = true → s.role = .bin → r.report.binId = s.cfg.stationId →
    1 ≤ (r.report.seq - (s.est.nextSeq - 1)).toNat → (r.report.seq - (s.est.nextSeq - 1)).toNat ≤ 32767 →
    ∃ t, exec .mergeStep s = .next t ∧ t.port.flags.getLsbD 4 = true ∧
      (s.est.figures = none →
        t = { s with pair := t.pair, table := t.table, sel := t.sel, eng := t.eng,
                     est := { s.est with nextSeq := r.report.seq + 1 },
                     port := { s.port with flags := s.port.flags ||| 0x10 } } ∧
        samePlacesAside t.table s.table) ∧
      ∀ (f : Figures) (q next : Seq), s.est.figures = some f →
        ((r.report.seq - (s.est.nextSeq - 1)).toNat = 32767 → q = r.report.seq ∧ next = r.report.seq + 1) →
        ((r.report.seq - (s.est.nextSeq - 1)).toNat < 32767 → q = r.report.seq + 1 ∧ next = r.report.seq + 2) →
        t = { s with pair := t.pair, table := t.table, sel := t.sel, eng := t.eng, refusals := t.refusals,
                     est := s.est.reported f s.clock next, port := { s.port with flags := t.port.flags } } ∧
        t.port.flags.getLsbD 1 = true ∧ s.storesOwn t id 0x12 (s.cfg.reportOf s.est f s.clock q false)

/-- R92 to R95, R115, R116: a report of an absent bin is rejected by passing carry or the age limit, and otherwise
takes the lowest FREE position, or that of the one entry first in eviction order, or, with no candidate, is refused
and counted. R129: stored as OWED, it preempts frames of a larger lead class. -/
def Obligations.AbsentBinIsInserted : Prop :=
  ∀ (s : State) (m : Merging) (r : RxEntry) (origin : Origin),
    s.hearsEntry m r → r.malformed = false → s.running = true → tableWf s.table →
    (∀ e ∈ s.table, e.report.binId ≠ r.report.binId) → s.role = .gateway ∨ r.report.binId ≠ s.cfg.stationId →
    origin = .home ∧ s.cfg.matchesHome r.report.binId ∨ origin = .passing ∧ ¬ s.cfg.matchesHome r.report.binId →
    ∃ t, exec .mergeStep s = .next t ∧
      t = { s with pair := t.pair, table := t.table, sel := t.sel, eng := t.eng, refusals := t.refusals,
                   gw := { s.gw with queue := t.gw.queue }, port := { s.port with flags := t.port.flags } } ∧
      ((origin = .passing ∧ s.cfg.passingCarry = false) ∨
          s.cfg.ageLimit ≤ currentAge r.age m.frame.rxTime s.clock →
        s.mergesInto t ∧ samePlacesAside t.table s.table) ∧
      (origin = .home ∨ s.cfg.passingCarry = true → currentAge r.age m.frame.rxTime s.clock < s.cfg.ageLimit →
        (∀ p, lowestFreeIs s.table p →
          addsOne (s.storedAs r m.frame.rxTime p origin) s.table t.table) ∧
        ((∀ p < 128, ∃ e ∈ s.table, e.position = p) → ∀ v ∈ s.table, s.mayEvict origin v →
          (∀ w ∈ s.table, s.mayEvict origin w → w ≠ v → evictsFirst s.clock v w) →
          samePlacesAside t.table (s.table.map (fun e =>
            if e.position = v.position then s.storedAs r m.frame.rxTime v.position origin else e))) ∧
        ((∃ p, lowestFreeIs s.table p) ∨ (∃ v ∈ s.table, s.mayEvict origin v) →
          t.refusals = s.refusals ∧
          ((s.storedAs r m.frame.rxTime 0 origin).owing = .owed → s.preemptedBy t r.report.cls) ∧
          t.gw.queue =
            (if s.role = .gateway ∧ r.report.binId ∉ s.gw.queue then s.gw.queue ++ [r.report.binId] else s.gw.queue) ∧
          t.port.flags = (if s.role = .gateway ∧ s.gw.queue = [] then s.port.flags ||| 0x01 else s.port.flags)) ∧
        ((∀ p < 128, ∃ e ∈ s.table, e.position = p) → (∀ v ∈ s.table, ¬ s.mayEvict origin v) →
          samePlacesAside t.table s.table ∧ t.refusals = min 65535 (s.refusals + 1) ∧ t.gw = s.gw ∧
          t.port.flags = s.port.flags ||| 0x20))

/-- R71, R117, R118: a target in the bin role. When it addresses the own bin SOLICITED is raised, and the OWN entry is
issued afresh if a trigger or the sample-since mark holds and otherwise owed again, or, with no OWN entry, an own
report is inserted (R92 to R94) in the first case and the table left alone in the second; every other entry it
addresses, within its class, not OWED and below the hop limit, is owed again with both counts 0. R128, R129: a
replaced OWN entry's uncommitted frame is withdrawn, and each entry that becomes OWED, wherever it is placed
(notes/assumptions/12.md), preempts frames of a larger lead class. -/
def Obligations.SolicitationIsAnswered : Prop :=
  ∀ (s : State) (m : Merging) (g : Target),
    s.pair.merging = some m → m.frame.parts = .solicit g → s.running = true → s.role = .bin → s.tableOk →
    ∃ (t : State) (change : Entry → Entry), exec .mergeStep s = .next t ∧
      t = { s with pair := t.pair, table := t.table, sel := t.sel, eng := t.eng, est := t.est, refusals := t.refusals,
                   port := { s.port with flags := t.port.flags } } ∧
      (∀ e ∈ s.table, e.origin ≠ .own →
        (g.addresses e.report.binId → e.report.cls ≤ g.maxClass → e.owing ≠ .owed → e.hops < s.cfg.hopLimit →
          change e = { e with owing := .owed, heard := 0, sent := 0 } ∧
            ((∃ x ∈ t.table, x.report.binId = e.report.binId) → s.preemptedBy t e.report.cls)) ∧
        (¬ g.addresses e.report.binId ∨ g.maxClass < e.report.cls ∨ e.owing = .owed ∨ s.cfg.hopLimit ≤ e.hops →
          change e = e)) ∧
      (¬ g.addresses s.cfg.stationId →
        t.est = s.est ∧ t.refusals = s.refusals ∧ t.port.flags = s.port.flags ∧
          samePlacesAside t.table (s.table.map change) ∧ ∀ own, s.holds s.cfg.stationId own → change own = own) ∧
      (g.addresses s.cfg.stationId →
        (s.est.mustReport s.cfg s.clock false ∨ s.est.figures ≠ none ∧ s.est.sampleSince = true →
          ∃ f, s.est.figures = some f ∧ t.est = s.est.reported f s.clock (s.est.nextSeq + 1) ∧
            (∀ i, i = 1 ∨ i = 3 → t.port.flags.getLsbD i = true) ∧
            s.storesOwn t change 0x0A (s.cfg.reportOf s.est f s.clock s.est.nextSeq false)) ∧
        (¬ s.est.mustReport s.cfg s.clock false → s.est.figures = none ∨ s.est.sampleSince = false →
          t.est = s.est ∧ t.refusals = s.refusals ∧ t.port.flags = s.port.flags ||| 0x08 ∧
            samePlacesAside t.table (s.table.map change) ∧
            ∀ own, s.holds s.cfg.stationId own →
              change own = { own with owing := .owed, heard := 0, sent := 0 } ∧
                (own.owing ≠ .owed → s.preemptedBy t own.report.cls)))

/-- R119: a drain item makes the entry of its bin DRAINED when that is OWED or HELD at the item's sequence or an older
one, and takes the bin from a gateway's export queue; in every other case it changes nothing. R128: the uncommitted
frame of an entry made DRAINED is withdrawn. -/
def Obligations.DrainItemDrains : Prop :=
  ∀ (s : State) (m : Merging) (i : RxItem), s.hearsItem m i → i.malformed = false → tableWf s.table →
    ∃ t, exec .mergeStep s = .next t ∧
      (∀ e, s.holds i.binId e → e.owing ≠ .drained → (i.seq - e.report.seq).toNat < 32768 →
        t = { s with pair := t.pair, table := t.table, sel := t.sel, eng := t.eng,
                     gw := { s.gw with queue := s.gw.queue.filter (fun b => decide (b ≠ i.binId)) } } ∧
        changesOne i.binId (fun x => { x with owing := .drained }) s.table t.table ∧ s.withdrawsFrameOf t e) ∧
      ((∀ e ∈ s.table, e.report.binId = i.binId → e.owing = .drained ∨ 32768 ≤ (i.seq - e.report.seq).toNat) →
        s.mergesInto t ∧ samePlacesAside t.table s.table)

/-- R105 to R108: the cursor moves to the next part, or after the last a WAITING frame becomes MERGING; a malformed
part, and a target in the gateway role, change nothing else. That a merge step with no frame merging changes nothing
is the model's choice (notes/assumptions/2.md). -/
def Obligations.MergeStepMovesTheCursor : Prop :=
  ∀ s : State,
    (s.pair.merging = none → exec .mergeStep s = .next s) ∧
    ∀ m : Merging, s.pair.merging = some m →
      ∃ t, exec .mergeStep s = .next t ∧
        (m.cursor + 1 < m.frame.parts.count →
          t.pair = { s.pair with merging := some { m with cursor := m.cursor + 1 } }) ∧
        (m.frame.parts.count ≤ m.cursor + 1 →
          t.pair = { s.pair with waiting := none,
                                 merging := (match s.pair.waiting with
                                   | some f => some { frame := f, cursor := 0 }
                                   | none => none) }) ∧
        ((∃ r, s.hearsEntry m r ∧ r.malformed = true) ∨ (∃ i, s.hearsItem m i ∧ i.malformed = true) ∨
            (s.role = .gateway ∧ ∃ g, m.frame.parts = .solicit g) →
          s.mergesInto t ∧ samePlacesAside t.table s.table)

/-- R47: exactly one of four relations holds of two sequences, by their distance, and each is the reverse the table
gives. -/
def Obligations.SerialOrderRelations : Prop :=
  ∀ a b : Seq, ∃ d : Nat, d = (a.toNat + 65536 - b.toNat) % 65536 ∧
    (serial a b = .equal ↔ d = 0) ∧ (serial a b = .newer ↔ 1 ≤ d ∧ d ≤ 32767) ∧
    (serial a b = .unordered ↔ d = 32768) ∧ (serial a b = .older ↔ 32769 ≤ d ∧ d ≤ 65535) ∧
    (serial a b = .equal ↔ serial b a = .equal) ∧ (serial a b = .newer ↔ serial b a = .older) ∧
    (serial a b = .unordered ↔ serial b a = .unordered)

/-! ### The send selector (chapter 7) -/

/-- R35, R123 to R125: with BUILD EMPTY in the bin role outside MUTE, a build takes the first five admitted candidates
in selection order, or all of fewer, as one FILL frame with the key of its lead. With STAGE EMPTY the frame is STAGED
and its entries are placed in STAGE; behind an occupied STAGE it is BUILT and they are placed in BUILD. -/
def Obligations.BuildTakesTheFirstFive : Prop :=
  ∀ s : State, s.role = .bin → s.mon.standing ≠ .mute → s.sel.build = none → tableWf s.table →
    (∃ e ∈ s.table, s.mayFill e) →
    ∃ (taken : List Entry) (lead : Entry) (rest : List Entry) (f : FrameRec),
      taken = lead :: rest ∧ taken.length ≤ 5 ∧ taken.Pairwise selectsFirst ∧
      (∀ e ∈ taken, e ∈ s.table ∧ s.mayFill e) ∧
      (∀ e ∈ s.table, s.mayFill e → e ∈ taken ∨ (taken.length = 5 ∧ ∀ x ∈ taken, selectsFirst x e)) ∧
      f.key.toNat = lead.report.cls.val * 16384 + min 63 (lead.report.ttf / 64) * 256 + s.cfg.stationId.toNat % 256 ∧
      f.payload = .fill (taken.map (fun e =>
        { report := e.report, rxAge := e.rxAge, rxTime := e.rxTime, hops := e.hops, origin := e.origin })) false ∧
      (s.sel.stage = none →
        s.buildOne = { s with
          sel := { s.sel with stage := some { frame := f, cond := .staged } },
          table := s.table.map (fun e => if e ∈ taken then { e with placed := .stage } else e) }) ∧
      (s.sel.stage ≠ none →
        s.buildOne = { s with
          sel := { s.sel with build := some f },
          table := s.table.map (fun e => if e ∈ taken then { e with placed := .build } else e) })

/-- R128, R129: a new candidate of a smaller class than the lead of a STAGED frame withdraws both slots, their entries
unplaced; beside a COMMITTED or SENDING frame it withdraws BUILD alone; otherwise it withdraws nothing. -/
def Obligations.PreemptionWithdraws : Prop :=
  ∀ (s : State) (fresh : List Urgency) (x : StageSlot), s.sel.stage = some x →
    ∃ outranks : FrameRec → Prop,
      (∀ f, outranks f ↔ ∃ lead rest probe, f.payload = .fill (lead :: rest) probe ∧ ∃ c ∈ fresh, c < lead.report.cls) ∧
      (x.cond = .staged → outranks x.frame →
        s.preempt fresh = { s with sel := { s.sel with build := none, stage := none },
                                   table := s.table.map (fun e => { e with placed := .unplaced }) }) ∧
      (x.cond = .staged → ¬ outranks x.frame → s.preempt fresh = s) ∧
      (x.cond ≠ .staged → ∀ f, s.sel.build = some f → outranks f →
        s.preempt fresh = { s with sel := { s.sel with build := none },
                                   table := s.table.map (fun e =>
                                     { e with placed := if e.placed = .build then .unplaced else e.placed }) }) ∧
      (x.cond ≠ .staged → (∀ f, s.sel.build = some f → ¬ outranks f) → s.preempt fresh = s)

/-! ### The frame on air (1.3, chapter 3) -/

/-- R13, R14: the stuffed body is what the receiver's rule reads back as the bits sent, with no stuffed bit owing at
its end. R12 to R14: the stuffed body, run on from the opening mark's two zeros, never shows six equal bits in a row,
and the receiver's destuffing of it with its pad and closing mark gives back the bits sent. -/
def Obligations.StuffingIsUndone : Prop :=
  ∀ bits : List Bool, bits.length ≤ 86 * 8 →
    (∃ bit run, Taken (stuff Run.start bits).1 bits bit run ∧ run < 5) ∧
    (∀ (before after : List Bool) (b : Bool),
      false :: false :: (stuff Run.start bits).1 ≠ before ++ List.replicate 6 b ++ after) ∧
    takeBits Taking.start ((stuff Run.start bits).1 ++ (if (stuff Run.start bits).2.bit = true then [false] else []) ++
        markBits) =
      .closed (bits ++ if (stuff Run.start bits).2.bit = true then [false] else [])

/-- R54: the header, a report entry, a target and an item have each field at its byte and bit position, most
significant byte first. R16: the two CRC bytes are the inverted register of generator 0x8BB7, preset to 0xFFFF, over
the body bytes, each most significant bit first. R12, R13: what SENDING puts on the channel is the opening mark, the
stuffed body, the pad where that ends in a 1, and the closing mark. R12 to R17, R39 to R54: the channel bits of every
frame an FR7 may send, taken after the opening mark with the kind slot as its sender leaves it, are judged good and
give back the frame. -/
def Obligations.SentFrameIsReadBack : Prop :=
  ((∀ (kind count : Nat) (sender : BinId), kind < 16 → count < 16 →
      ∃ b : List Byte, headerBytes kind count sender = b ∧ b.length = 4 ∧ fieldAt b 0 1 / 16 = kind ∧
        fieldAt b 0 1 % 16 = count ∧ fieldAt b 1 3 = sender.toNat) ∧
   (∀ (r : Report) (age hops : Nat), age ≤ 4095 → hops ≤ 15 →
      ∃ (b : List Byte) (fl : Byte), entryBytes r age hops = b ∧ b.length = (if r.since = none then 14 else 16) ∧
        fieldAt b 0 3 = r.binId.toNat ∧ fieldAt b 3 2 = r.seq.toNat ∧ b[5]? = some fl ∧
        [BinKind.litter, .glass, .underground, .compacting][fl.toNat / 64]? = some r.kind ∧
        fl.toNat / 16 % 4 = r.cls.val ∧ fl.getLsbD 3 = r.overfull ∧ fl.getLsbD 2 = r.emptied ∧
        fl.getLsbD 1 = r.fault ∧ fl.getLsbD 0 = r.since.isSome ∧ fieldAt b 6 2 = r.level % 2 ^ 16 ∧
        fieldAt b 8 2 = r.rate % 2 ^ 16 ∧ fieldAt b 10 2 = r.ttf % 2 ^ 16 ∧ fieldAt b 12 2 / 16 = age ∧
        fieldAt b 12 2 % 16 = hops ∧ ∀ m, r.since = some m → fieldAt b 14 2 = m % 2 ^ 16) ∧
   (∀ g : Target, ∃ b : List Byte, targetBytes g = b ∧ b.length = 7 ∧ fieldAt b 0 3 = g.binId.toNat ∧
      fieldAt b 3 3 = g.mask.toNat ∧ fieldAt b 6 1 = g.maxClass.val) ∧
   (∀ i : BinId × Seq, ∃ b : List Byte, itemBytes i = b ∧ b.length = 5 ∧ fieldAt b 0 3 = i.1.toNat ∧
      fieldAt b 3 2 = i.2.toNat) ∧
   ∀ body : List Byte,
     (crcBytes body).length = 2 ∧ fieldAt (crcBytes body) 0 2 = (crcOf body).toNat ∧
     (OnAir.sending body).units.flatten = channelBits body ∧
     (OnAir.sending body).units.head? = some [true, true, true, true, true, true, false, false] ∧
     (OnAir.sending body).bytes = body.length) ∧
  ∀ f : RxFrame, f.sendable →
    judge ((OnAir.sending (f.bodyBytes ++ crcBytes f.bodyBytes)).units.flatten.drop 8)
      (some (match f.parts with | .fill _ => true | _ => false)) f.rxTime = .good f

/-! ### The whole machine -/

/-- Each piece of state outside the slots, the table, SDO and the engine's own state, timers, marks and lines moves
only at the commands and events whose rules name it, with two additions of the model: a loss, which the step table
puts under CONTENTION_LOST, can come about in FIELD_SLOT too (notes/assumptions/7.md), and POST_SAMPLE stands beside
MERGE_STEP at the refusal count, for an own report that finds no position is a refused insert, though R74 has that no
own report is refused (notes/assumptions/16.md). That every command in every state ends in a next state, which leaves
the waiting commands, is the model's choice (notes/assumptions/2.md). -/
def Obligations.StateMovesOnlyAtItsEvents : Prop :=
  ∀ (c : Instr) (s : State), ∃ t, exec c s = .next t ∧ t.pending = s.pending ∧
    (t.running ≠ s.running → (∃ a, c = .start a) ∨ (∃ a n, c = .restart a n) ∨ c = .hardReset) ∧
    (t.config ≠ s.config → (∃ a, c = .start a) ∨ c = .hardReset) ∧
    (t.clock ≠ s.clock → c = .stationClockTick ∨ c = .resetRelease ∨ c = .hardReset) ∧
    (t.port.mask ≠ s.port.mask → (∃ a, c = .start a) ∨ (∃ a, c = .setNoticeMask a) ∨ c = .hardReset) ∧
    (t.mon.standing ≠ s.mon.standing →
      (∃ e k f, c = .awaitEchoEnd e k f) ∨ (∃ r f, c = .goodFrame r f) ∨ (∃ r k, c = .badFrame r k) ∨
        (∃ a n, c = .restart a n) ∨ c = .hardReset) ∧
    (t.mon.sendFailure ≠ s.mon.sendFailure →
      (∃ e k f, c = .awaitEchoEnd e k f) ∨ (∃ r f, c = .goodFrame r f) ∨ (∃ a n, c = .restart a n) ∨ c = .hardReset) ∧
    (t.mon.receptionFault ≠ s.mon.receptionFault →
      (∃ r f, c = .goodFrame r f) ∨ (∃ r k, c = .badFrame r k) ∨ (∃ a n, c = .restart a n) ∨ c = .hardReset) ∧
    (t.mon.recovery ≠ s.mon.recovery →
      (∃ e k f, c = .awaitEchoEnd e k f) ∨ (∃ r f, c = .goodFrame r f) ∨ (∃ a n, c = .restart a n) ∨ c = .hardReset) ∧
    (t.mon.armed ≠ s.mon.armed →
      (∃ a, c = .rejoin a) ∨ (∃ e k f, c = .awaitEchoEnd e k f) ∨ (∃ r f, c = .goodFrame r f) ∨
        (∃ a n, c = .restart a n) ∨ c = .hardReset) ∧
    (t.mon.probeTimer ≠ s.mon.probeTimer →
      (∃ e k f, c = .awaitEchoEnd e k f) ∨ c = .fieldEnd ∨ c = .minuteBoundary ∨ (∃ a n, c = .restart a n) ∨
        c = .hardReset) ∧
    (t.sel.allowance ≠ s.sel.allowance →
      (∃ a, c = .start a) ∨ c = .fieldEnd ∨ c = .allowanceRefill ∨ (∃ a n, c = .restart a n) ∨ c = .hardReset) ∧
    (t.sel.refillCount ≠ s.sel.refillCount →
      (∃ a, c = .start a) ∨ c = .minuteBoundary ∨ c = .allowanceRefill ∨ (∃ a n, c = .restart a n) ∨ c = .hardReset) ∧
    (t.eng.heard ≠ s.eng.heard → (∃ r f, c = .goodFrame r f) ∨ c = .hardReset) ∧
    (t.eng.sent ≠ s.eng.sent → c = .closingMarkSent ∨ c = .hardReset) ∧
    (t.eng.lost ≠ s.eng.lost → (∃ k, c = .fieldSlot k) ∨ c = .contentionLost ∨ c = .hardReset) ∧
    (t.pair.clash ≠ s.pair.clash → (∃ r f, c = .goodFrame r f) ∨ c = .hardReset) ∧
    (t.pair.overrun ≠ s.pair.overrun → (∃ r f, c = .goodFrame r f) ∨ c = .hardReset) ∧
    (t.refusals ≠ s.refusals → c = .mergeStep ∨ (∃ a, c = .postSample a) ∨ c = .hardReset) ∧
    (t.est ≠ s.est →
      (∃ a, c = .postSample a) ∨ c = .mergeStep ∨ (∃ a, c = .start a) ∨ (∃ a n, c = .restart a n) ∨ c = .hardReset) ∧
    (t.pair ≠ s.pair → c = .mergeStep ∨ (∃ r f, c = .goodFrame r f) ∨ (∃ a n, c = .restart a n) ∨ c = .hardReset) ∧
    (t.gw.queue ≠ s.gw.queue →
      c = .mergeStep ∨ c = .minuteBoundary ∨ c = .exportNextCompletion ∨ (∃ a, c = .start a) ∨
        (∃ a n, c = .restart a n) ∨ c = .hardReset) ∧
    (t.gw.drainList ≠ s.gw.drainList →
      (∃ e k f, c = .awaitEchoEnd e k f) ∨ c = .exportNextCompletion ∨ (∃ a n, c = .restart a n) ∨ c = .hardReset) ∧
    (t.gw.solicit ≠ s.gw.solicit →
      (∃ a, c = .solicit a) ∨ (∃ e k f, c = .awaitEchoEnd e k f) ∨ (∃ a n, c = .restart a n) ∨ c = .hardReset) ∧
    (t.gw.nextSerial ≠ s.gw.nextSerial → (∃ a, c = .solicit a) ∨ c = .hardReset) ∧
    (t.port.flags ≠ s.port.flags →
      (∃ a, c = .clearNotices a) ∨ (∃ a, c = .postSample a) ∨ c = .mergeStep ∨ (∃ e k f, c = .awaitEchoEnd e k f) ∨
        (∃ r f, c = .goodFrame r f) ∨ (∃ r k, c = .badFrame r k) ∨ (∃ a, c = .start a) ∨ (∃ a n, c = .restart a n) ∨
        c = .hardReset) ∧
    (t.port.resetn ≠ s.port.resetn → c = .resetRelease ∨ c = .hardReset) ∧
    (t.port.ready ≠ s.port.ready → c = .resetRelease ∨ c = .portReady ∨ c = .hardReset) ∧
    (t.boundaryDue ≠ s.boundaryDue →
      c = .stationClockTick ∨ c = .minuteBoundary ∨ c = .resetRelease ∨ c = .hardReset) ∧
    (t.est.lidHeld ≠ s.est.lidHeld → (∃ a, c = .postSample a) ∨ c = .hardReset) ∧
    (t.gw.drainDrop ≠ s.gw.drainDrop →
      (∃ e k f, c = .awaitEchoEnd e k f) ∨ c = .exportNextCompletion ∨ c = .hardReset) ∧
    (t.gw.inHand ≠ s.gw.inHand →
      (∃ a, c = .exportNext a) ∨ c = .exportNextCompletion ∨ (∃ n, c = .exportCutShort n) ∨
        (∃ a n, c = .restart a n) ∨ c = .hardReset)

/-- The state after hard reset meets every invariant below. -/
def Obligations.ResetMeetsTheInvariants : Prop :=
  State.reset.tableOk ∧ State.reset.valuesOk ∧ State.reset.mon.ok ∧ State.reset.eng.linesOk ∧ State.reset.clearedOk ∧
    State.reset.configOk ∧ State.reset.slotsOk ∧ State.reset.settled ∧ State.reset.placedOk ∧ State.reset.owedOk ∧
    State.reset.gatewayOk ∧ State.reset.muteOk ∧ State.reset.probeBuilt ∧ State.reset.engineSettled

/-- R82 to R84: no two entries share a position or a bin id, positions are 0 to 127, and OWN is the origin of exactly
the own bin's entry. -/
def Obligations.TableInvariant : Prop :=
  ∀ s t : State, s.tableOk → s.clearedOk → step s = .next t → t.tableOk

/-- R41, R44, R52, R55, R80, R83, R122, R153, R185: every level, rate, time, age, hops and count of a report held in
the table, in a received frame or in a frame slot, every value of the estimator, the send counts and the maximum class
of the gateway unit and every saturating count stay within the range given for them. R141: the counts keep the bounds
of the standing they go with. -/
def Obligations.ValuesAndMonitorInvariant : Prop :=
  (∀ s t : State, s.valuesOk → step s = .next t → t.valuesOk) ∧
  (∀ s t : State, s.mon.ok → step s = .next t → t.mon.ok)

/-- R1, R2: RADIO_EN, KEY and TXD stand as the tables give them for every engine state. R2, R174, R178: the engine in
OFF is clear, and in UNCONFIGURED every block holds its cleared state. -/
def Obligations.LinesAndClearedInvariant : Prop :=
  (∀ s t : State, s.eng.linesOk → step s = .next t → t.eng.linesOk) ∧
  (∀ s t : State, s.clearedOk → step s = .next t → t.clearedOk)

/-- R131, R174, R176: a running station holds a configuration, it is in range, and the counts it bounds are within it.
-/
def Obligations.ConfigInvariant : Prop :=
  ∀ s t : State, s.configOk → s.clearedOk → step s = .next t → t.configOk

/-- R122, R23, R127: BUILD holds a frame only while STAGE does, and STAGE's condition goes with the engine's state.
R125, R126, R138: a running selector has nothing left to build or rebuild after any step. R6, R8: after any step an
engine in AWAKE with CARRIER low has no eligible frame past the idle gap and, past linger in the bin role with no
recognised preamble, has an eligible frame; and the commands that reach it through the selector alone leave it as it
was, or take it to WAKING with the eligible frame COMMITTED or to DOZE. The idle-gap measure and the level of TXD are
held as the model holds them (notes/assumptions/1.md, notes/assumptions/9.md). -/
def Obligations.SlotsInvariant : Prop :=
  (∀ s t : State, s.slotsOk → s.clearedOk → s.eng.linesOk → step s = .next t → t.slotsOk) ∧
  (∀ s t : State, s.settled → s.clearedOk → step s = .next t → t.settled) ∧
  (∀ s t : State, s.engineSettled → s.clearedOk → step s = .next t → t.engineSettled) ∧
  ∀ (c : Instr) (s t : State), reachesEngineBySelector c → exec c s = .next t → s.engineFollows t

/-- R122: every placed entry is named by the frame it is placed in, and is OWED while that frame is uncommitted. -/
def Obligations.PlacementInvariant : Prop :=
  ∀ s t : State, s.placedOk → s.tableOk → s.clearedOk → s.gatewayOk → s.slotsOk → step s = .next t → t.placedOk

/-- R86: an OWED entry is below the send limit and, unless OWN, below the hop limit. -/
def Obligations.OwedInvariant : Prop :=
  ∀ s t : State, s.owedOk → s.tableOk → s.clearedOk → s.configOk → step s = .next t → t.owedOk

/-- R123, R153 to R155, R161: a running gateway's queue is the list of its HELD bins, it owes and places nothing, and
its drain list holds at most 8 distinct bins; in the bin role the gateway unit is clear. -/
def Obligations.GatewayInvariant : Prop :=
  ∀ s t : State, s.gatewayOk → s.tableOk → s.clearedOk → step s = .next t → t.gatewayOk
end

