-- ==== Sys2Proof/Laws/State.lean ====
section
/-! SUPPORT. One lemma per field for every named update of the state, so that no later proof unfolds a record
update: what `raise`, `returns`, `queueJoin`, `queueLeave`, `insert`, `startLinger`, `commit`, `alter` leave as it
is. -/

namespace Sys2Proof.Machine

variable (s : State)

/-! ### Notices and replies -/

@[simp] theorem State.raise_keeps (n : Notice) :
    (s.raise n).pending = s.pending ∧ (s.raise n).running = s.running ∧ (s.raise n).config = s.config ∧
    (s.raise n).clock = s.clock ∧ (s.raise n).boundaryDue = s.boundaryDue ∧ (s.raise n).eng = s.eng ∧
    (s.raise n).pair = s.pair ∧ (s.raise n).table = s.table ∧ (s.raise n).refusals = s.refusals ∧
    (s.raise n).est = s.est ∧ (s.raise n).sel = s.sel ∧ (s.raise n).mon = s.mon ∧ (s.raise n).gw = s.gw :=
  ⟨rfl, rfl, rfl, rfl, rfl, rfl, rfl, rfl, rfl, rfl, rfl, rfl, rfl⟩

@[simp] theorem State.raise_flags (n : Notice) : (s.raise n).port.flags = s.port.flags ||| n.bit := rfl
@[simp] theorem State.raise_mask (n : Notice) : (s.raise n).port.mask = s.port.mask := rfl
@[simp] theorem State.raise_resetn (n : Notice) : (s.raise n).port.resetn = s.port.resetn := rfl
@[simp] theorem State.raise_ready (n : Notice) : (s.raise n).port.ready = s.port.ready := rfl
@[simp] theorem State.raise_sdo (n : Notice) : (s.raise n).port.sdo = s.port.sdo := rfl

@[simp] theorem State.returns_keeps (bs : List Byte) :
    (s.returns bs).pending = s.pending ∧ (s.returns bs).running = s.running ∧
    (s.returns bs).config = s.config ∧ (s.returns bs).clock = s.clock ∧
    (s.returns bs).boundaryDue = s.boundaryDue ∧ (s.returns bs).eng = s.eng ∧ (s.returns bs).pair = s.pair ∧
    (s.returns bs).table = s.table ∧ (s.returns bs).refusals = s.refusals ∧ (s.returns bs).est = s.est ∧
    (s.returns bs).sel = s.sel ∧ (s.returns bs).mon = s.mon ∧ (s.returns bs).gw = s.gw :=
  ⟨rfl, rfl, rfl, rfl, rfl, rfl, rfl, rfl, rfl, rfl, rfl, rfl, rfl⟩

@[simp] theorem State.returns_flags (bs : List Byte) : (s.returns bs).port.flags = s.port.flags := rfl
@[simp] theorem State.returns_mask (bs : List Byte) : (s.returns bs).port.mask = s.port.mask := rfl
@[simp] theorem State.returns_resetn (bs : List Byte) : (s.returns bs).port.resetn = s.port.resetn := rfl
@[simp] theorem State.returns_ready (bs : List Byte) : (s.returns bs).port.ready = s.port.ready := rfl
@[simp] theorem State.returns_sdo (bs : List Byte) : (s.returns bs).port.sdo = bs := rfl
@[simp] theorem State.returns_resultAt (bs : List Byte) : (s.returns bs).port.resultAt = none := rfl

@[simp] theorem State.replies_keeps (head result : List Byte) :
    (s.replies head result).pending = s.pending ∧ (s.replies head result).running = s.running ∧
    (s.replies head result).config = s.config ∧ (s.replies head result).clock = s.clock ∧
    (s.replies head result).boundaryDue = s.boundaryDue ∧ (s.replies head result).eng = s.eng ∧
    (s.replies head result).pair = s.pair ∧ (s.replies head result).table = s.table ∧
    (s.replies head result).refusals = s.refusals ∧ (s.replies head result).est = s.est ∧
    (s.replies head result).sel = s.sel ∧ (s.replies head result).mon = s.mon ∧
    (s.replies head result).gw = s.gw :=
  ⟨rfl, rfl, rfl, rfl, rfl, rfl, rfl, rfl, rfl, rfl, rfl, rfl, rfl⟩

@[simp] theorem State.replies_flags (head result : List Byte) :
    (s.replies head result).port.flags = s.port.flags := rfl
@[simp] theorem State.replies_mask (head result : List Byte) : (s.replies head result).port.mask = s.port.mask := rfl
@[simp] theorem State.replies_resetn (head result : List Byte) :
    (s.replies head result).port.resetn = s.port.resetn := rfl
@[simp] theorem State.replies_ready (head result : List Byte) :
    (s.replies head result).port.ready = s.port.ready := rfl
@[simp] theorem State.replies_sdo (head result : List Byte) :
    (s.replies head result).port.sdo = head ++ result := rfl
@[simp] theorem State.replies_resultAt (head result : List Byte) :
    (s.replies head result).port.resultAt = some head.length := rfl

/-- The rise of SEL moves nothing of the port but SDO and the result phase. -/
theorem Port.selRises_keeps (p : Port) (clocked : Clocked) :
    p.selRises clocked = { p with sdo := (p.selRises clocked).sdo, resultAt := none } := by
  cases p with
  | mk flags mask resetn ready sdo resultAt => cases resultAt <;> rfl

/-- In a result phase the rise of SEL leaves on SDO what stood before it, the busy bytes, and the bytes behind them. -/
theorem Port.selRises_sdo {p : Port} {n : Nat} (clocked : Clocked) (h : p.resultAt = some n) :
    (p.selRises clocked).sdo = p.sdo.take n ++ carriedResult clocked (p.sdo.drop n) := by
  simp [Port.selRises, h]

/-- Each busy byte and each byte behind is one byte of the result phase. -/
@[simp] theorem carriedResult_length (clocked : Clocked) (result : List Byte) :
    (carriedResult clocked result).length = clocked.busy + clocked.bytes := by
  simp [carriedResult]

/-! ### The export queue -/

@[simp] theorem State.queueLeave_keeps (b : BinId) :
    (s.queueLeave b).pending = s.pending ∧ (s.queueLeave b).running = s.running ∧
    (s.queueLeave b).config = s.config ∧ (s.queueLeave b).clock = s.clock ∧
    (s.queueLeave b).boundaryDue = s.boundaryDue ∧ (s.queueLeave b).eng = s.eng ∧
    (s.queueLeave b).pair = s.pair ∧ (s.queueLeave b).table = s.table ∧
    (s.queueLeave b).refusals = s.refusals ∧ (s.queueLeave b).est = s.est ∧ (s.queueLeave b).sel = s.sel ∧
    (s.queueLeave b).mon = s.mon ∧ (s.queueLeave b).port = s.port :=
  ⟨rfl, rfl, rfl, rfl, rfl, rfl, rfl, rfl, rfl, rfl, rfl, rfl, rfl⟩

@[simp] theorem State.queueLeave_queue (b : BinId) :
    (s.queueLeave b).gw.queue = s.gw.queue.filter (fun x => x != b) := rfl

@[simp] theorem State.queueJoin_keeps (b : BinId) :
    (s.queueJoin b).pending = s.pending ∧ (s.queueJoin b).running = s.running ∧
    (s.queueJoin b).config = s.config ∧ (s.queueJoin b).clock = s.clock ∧
    (s.queueJoin b).boundaryDue = s.boundaryDue ∧ (s.queueJoin b).eng = s.eng ∧
    (s.queueJoin b).pair = s.pair ∧ (s.queueJoin b).table = s.table ∧ (s.queueJoin b).refusals = s.refusals ∧
    (s.queueJoin b).est = s.est ∧ (s.queueJoin b).sel = s.sel ∧ (s.queueJoin b).mon = s.mon :=
  by
  unfold State.queueJoin
  (repeat' split) <;> simp


/-- The queue after a join: unchanged in the bin role and for a queued bin, one longer at its tail otherwise. -/
theorem State.queueJoin_queue (b : BinId) :
    (s.queueJoin b).gw.queue = if s.isGateway = false ∨ b ∈ s.gw.queue then s.gw.queue else s.gw.queue ++ [b] := by
  unfold State.queueJoin
  split
  · rfl
  · dsimp only
    split <;> rfl

/-! ### Insertion -/

@[simp] theorem State.insert_keeps (e : Entry) :
    ((s.insert e).1).pending = s.pending ∧ ((s.insert e).1).running = s.running ∧
    ((s.insert e).1).config = s.config ∧ ((s.insert e).1).clock = s.clock ∧
    ((s.insert e).1).boundaryDue = s.boundaryDue ∧ ((s.insert e).1).eng = s.eng ∧
    ((s.insert e).1).pair = s.pair ∧ ((s.insert e).1).est = s.est ∧ ((s.insert e).1).sel = s.sel ∧
    ((s.insert e).1).mon = s.mon ∧ ((s.insert e).1).gw = s.gw :=
  by
  unfold State.insert
  split <;> simp


/-! ### The engine -/

@[simp] theorem State.startLinger_keeps :
    (s.startLinger).pending = s.pending ∧ (s.startLinger).running = s.running ∧
    (s.startLinger).config = s.config ∧ (s.startLinger).clock = s.clock ∧
    (s.startLinger).boundaryDue = s.boundaryDue ∧ (s.startLinger).pair = s.pair ∧
    (s.startLinger).table = s.table ∧ (s.startLinger).refusals = s.refusals ∧ (s.startLinger).est = s.est ∧
    (s.startLinger).sel = s.sel ∧ (s.startLinger).mon = s.mon ∧ (s.startLinger).gw = s.gw ∧
    (s.startLinger).port = s.port :=
  by
  unfold State.startLinger
  split <;> simp

@[simp] theorem State.startLinger_state : s.startLinger.eng.state = s.eng.state := by
  unfold State.startLinger; split <;> rfl
@[simp] theorem State.startLinger_carrier : s.startLinger.eng.carrier = s.eng.carrier := by
  unfold State.startLinger; split <;> rfl
@[simp] theorem Engine.keying_state (on : Bool) (e : Engine) : (e.keying on).state = e.state := rfl
@[simp] theorem Engine.keying_key (on : Bool) (e : Engine) : (e.keying on).key = on := rfl
@[simp] theorem Engine.keying_radioEn (on : Bool) (e : Engine) : (e.keying on).radioEn = e.radioEn := rfl
@[simp] theorem Engine.keying_tail (on : Bool) (e : Engine) : (e.keying on).tail = e.tail := rfl
@[simp] theorem Engine.keying_txd (on : Bool) (e : Engine) :
    (e.keying on).txd = if on then some false else none := rfl

@[simp] theorem State.frameEnd_keeps (c : Bool) :
    (s.frameEnd c).pending = s.pending ∧ (s.frameEnd c).running = s.running ∧
    (s.frameEnd c).config = s.config ∧ (s.frameEnd c).clock = s.clock ∧
    (s.frameEnd c).boundaryDue = s.boundaryDue ∧ (s.frameEnd c).pair = s.pair ∧
    (s.frameEnd c).table = s.table ∧ (s.frameEnd c).refusals = s.refusals ∧ (s.frameEnd c).est = s.est ∧
    (s.frameEnd c).sel = s.sel ∧ (s.frameEnd c).mon = s.mon ∧ (s.frameEnd c).gw = s.gw ∧
    (s.frameEnd c).port = s.port :=
  by simp [State.frameEnd]

@[simp] theorem State.leaveOff_keeps :
    (s.leaveOff).pending = s.pending ∧ (s.leaveOff).running = s.running ∧ (s.leaveOff).config = s.config ∧
    (s.leaveOff).clock = s.clock ∧ (s.leaveOff).boundaryDue = s.boundaryDue ∧ (s.leaveOff).pair = s.pair ∧
    (s.leaveOff).table = s.table ∧ (s.leaveOff).refusals = s.refusals ∧ (s.leaveOff).est = s.est ∧
    (s.leaveOff).sel = s.sel ∧ (s.leaveOff).mon = s.mon ∧ (s.leaveOff).gw = s.gw ∧
    (s.leaveOff).port = s.port :=
  by
  unfold State.leaveOff
  split <;> simp


/-! ### Changes to one entry (R88) -/

@[simp] theorem State.alter_keeps (e : Entry) (f : Entry → Entry) (told : Told) :
    ((s.alter e f told).1).pending = s.pending ∧ ((s.alter e f told).1).running = s.running ∧
    ((s.alter e f told).1).config = s.config ∧ ((s.alter e f told).1).clock = s.clock ∧
    ((s.alter e f told).1).boundaryDue = s.boundaryDue ∧ ((s.alter e f told).1).eng = s.eng ∧
    ((s.alter e f told).1).pair = s.pair ∧ ((s.alter e f told).1).refusals = s.refusals ∧
    ((s.alter e f told).1).est = s.est ∧ ((s.alter e f told).1).sel = s.sel ∧
    ((s.alter e f told).1).mon = s.mon ∧ ((s.alter e f told).1).gw = s.gw ∧
    ((s.alter e f told).1).port = s.port :=
  ⟨rfl, rfl, rfl, rfl, rfl, rfl, rfl, rfl, rfl, rfl, rfl, rfl, rfl⟩

@[simp] theorem State.alter_table (e : Entry) (f : Entry → Entry) (told : Told) :
    (s.alter e f told).1.table = changeEntry e.report.binId f s.table := rfl

end Sys2Proof.Machine
end

