-- ==== Sys2Proof/Laws/Selector.lean ====
section
/-! SUPPORT. What the send selector's operations can do. Every one of them changes the selector and the placement
marks of the table and nothing else; the lemmas say so field by field, and the table's entries but for their placement
stay as they were. -/

namespace Sys2Proof.Machine

variable (s : State)


@[simp] theorem State.withdrawBoth_keeps :
    (s.withdrawBoth).pending = s.pending ∧ (s.withdrawBoth).running = s.running ∧
    (s.withdrawBoth).config = s.config ∧ (s.withdrawBoth).clock = s.clock ∧
    (s.withdrawBoth).boundaryDue = s.boundaryDue ∧ (s.withdrawBoth).eng = s.eng ∧
    (s.withdrawBoth).pair = s.pair ∧ (s.withdrawBoth).refusals = s.refusals ∧ (s.withdrawBoth).est = s.est ∧
    (s.withdrawBoth).mon = s.mon ∧ (s.withdrawBoth).gw = s.gw ∧ (s.withdrawBoth).port = s.port :=
  ⟨rfl, rfl, rfl, rfl, rfl, rfl, rfl, rfl, rfl, rfl, rfl, rfl⟩


@[simp] theorem State.withdrawBuild_keeps :
    (s.withdrawBuild).pending = s.pending ∧ (s.withdrawBuild).running = s.running ∧
    (s.withdrawBuild).config = s.config ∧ (s.withdrawBuild).clock = s.clock ∧
    (s.withdrawBuild).boundaryDue = s.boundaryDue ∧ (s.withdrawBuild).eng = s.eng ∧
    (s.withdrawBuild).pair = s.pair ∧ (s.withdrawBuild).refusals = s.refusals ∧
    (s.withdrawBuild).est = s.est ∧ (s.withdrawBuild).mon = s.mon ∧ (s.withdrawBuild).gw = s.gw ∧
    (s.withdrawBuild).port = s.port :=
  ⟨rfl, rfl, rfl, rfl, rfl, rfl, rfl, rfl, rfl, rfl, rfl, rfl⟩


@[simp] theorem State.withdraw_keeps (a b : Bool) :
    (s.withdraw a b).pending = s.pending ∧ (s.withdraw a b).running = s.running ∧
    (s.withdraw a b).config = s.config ∧ (s.withdraw a b).clock = s.clock ∧
    (s.withdraw a b).boundaryDue = s.boundaryDue ∧ (s.withdraw a b).eng = s.eng ∧
    (s.withdraw a b).pair = s.pair ∧ (s.withdraw a b).refusals = s.refusals ∧ (s.withdraw a b).est = s.est ∧
    (s.withdraw a b).mon = s.mon ∧ (s.withdraw a b).gw = s.gw ∧ (s.withdraw a b).port = s.port :=
  by
  unfold State.withdraw
  (repeat' split) <;> simp


@[simp] theorem State.withdrawWhere_keeps (p : FrameRec → Bool) :
    (s.withdrawWhere p).pending = s.pending ∧ (s.withdrawWhere p).running = s.running ∧
    (s.withdrawWhere p).config = s.config ∧ (s.withdrawWhere p).clock = s.clock ∧
    (s.withdrawWhere p).boundaryDue = s.boundaryDue ∧ (s.withdrawWhere p).eng = s.eng ∧
    (s.withdrawWhere p).pair = s.pair ∧ (s.withdrawWhere p).refusals = s.refusals ∧
    (s.withdrawWhere p).est = s.est ∧ (s.withdrawWhere p).mon = s.mon ∧ (s.withdrawWhere p).gw = s.gw ∧
    (s.withdrawWhere p).port = s.port :=
  by simp [State.withdrawWhere]


@[simp] theorem State.preempt_keeps (l : List Urgency) :
    (s.preempt l).pending = s.pending ∧ (s.preempt l).running = s.running ∧ (s.preempt l).config = s.config ∧
    (s.preempt l).clock = s.clock ∧ (s.preempt l).boundaryDue = s.boundaryDue ∧ (s.preempt l).eng = s.eng ∧
    (s.preempt l).pair = s.pair ∧ (s.preempt l).refusals = s.refusals ∧ (s.preempt l).est = s.est ∧
    (s.preempt l).mon = s.mon ∧ (s.preempt l).gw = s.gw ∧ (s.preempt l).port = s.port :=
  by
  unfold State.preempt
  (repeat' split) <;> simp


@[simp] theorem State.drainFirst_keeps :
    (s.drainFirst).pending = s.pending ∧ (s.drainFirst).running = s.running ∧
    (s.drainFirst).config = s.config ∧ (s.drainFirst).clock = s.clock ∧
    (s.drainFirst).boundaryDue = s.boundaryDue ∧ (s.drainFirst).eng = s.eng ∧ (s.drainFirst).pair = s.pair ∧
    (s.drainFirst).refusals = s.refusals ∧ (s.drainFirst).est = s.est ∧ (s.drainFirst).mon = s.mon ∧
    (s.drainFirst).gw = s.gw ∧ (s.drainFirst).port = s.port :=
  by
  unfold State.drainFirst
  split <;> simp


@[simp] theorem State.rebuildTest_keeps :
    (s.rebuildTest).pending = s.pending ∧ (s.rebuildTest).running = s.running ∧
    (s.rebuildTest).config = s.config ∧ (s.rebuildTest).clock = s.clock ∧
    (s.rebuildTest).boundaryDue = s.boundaryDue ∧ (s.rebuildTest).eng = s.eng ∧
    (s.rebuildTest).pair = s.pair ∧ (s.rebuildTest).refusals = s.refusals ∧ (s.rebuildTest).est = s.est ∧
    (s.rebuildTest).mon = s.mon ∧ (s.rebuildTest).gw = s.gw ∧ (s.rebuildTest).port = s.port :=
  by
  unfold State.rebuildTest
  split <;> simp


@[simp] theorem State.buildOne_keeps :
    (s.buildOne).pending = s.pending ∧ (s.buildOne).running = s.running ∧ (s.buildOne).config = s.config ∧
    (s.buildOne).clock = s.clock ∧ (s.buildOne).boundaryDue = s.boundaryDue ∧ (s.buildOne).eng = s.eng ∧
    (s.buildOne).pair = s.pair ∧ (s.buildOne).refusals = s.refusals ∧ (s.buildOne).est = s.est ∧
    (s.buildOne).mon = s.mon ∧ (s.buildOne).gw = s.gw ∧ (s.buildOne).port = s.port :=
  by
  unfold State.buildOne
  (repeat' split) <;> simp


@[simp] theorem State.buildAll_keeps :
    (s.buildAll).pending = s.pending ∧ (s.buildAll).running = s.running ∧ (s.buildAll).config = s.config ∧
    (s.buildAll).clock = s.clock ∧ (s.buildAll).boundaryDue = s.boundaryDue ∧ (s.buildAll).eng = s.eng ∧
    (s.buildAll).pair = s.pair ∧ (s.buildAll).refusals = s.refusals ∧ (s.buildAll).est = s.est ∧
    (s.buildAll).mon = s.mon ∧ (s.buildAll).gw = s.gw ∧ (s.buildAll).port = s.port :=
  by simp [State.buildAll]


@[simp] theorem State.selectorSettle_keeps :
    (s.selectorSettle).pending = s.pending ∧ (s.selectorSettle).running = s.running ∧
    (s.selectorSettle).config = s.config ∧ (s.selectorSettle).clock = s.clock ∧
    (s.selectorSettle).boundaryDue = s.boundaryDue ∧ (s.selectorSettle).eng = s.eng ∧
    (s.selectorSettle).pair = s.pair ∧ (s.selectorSettle).refusals = s.refusals ∧
    (s.selectorSettle).est = s.est ∧ (s.selectorSettle).mon = s.mon ∧ (s.selectorSettle).gw = s.gw ∧
    (s.selectorSettle).port = s.port :=
  by
  unfold State.selectorSettle
  split <;> simp


@[simp] theorem State.hear_keeps (t : Told) :
    (s.hear t).pending = s.pending ∧ (s.hear t).running = s.running ∧ (s.hear t).config = s.config ∧
    (s.hear t).clock = s.clock ∧ (s.hear t).boundaryDue = s.boundaryDue ∧ (s.hear t).eng = s.eng ∧
    (s.hear t).pair = s.pair ∧ (s.hear t).refusals = s.refusals ∧ (s.hear t).est = s.est ∧
    (s.hear t).mon = s.mon ∧ (s.hear t).gw = s.gw ∧ (s.hear t).port = s.port :=
  by simp [State.hear]


@[simp] theorem State.commit_keeps :
    (s.commit).pending = s.pending ∧ (s.commit).running = s.running ∧ (s.commit).config = s.config ∧
    (s.commit).clock = s.clock ∧ (s.commit).boundaryDue = s.boundaryDue ∧ (s.commit).eng = s.eng ∧
    (s.commit).pair = s.pair ∧ (s.commit).refusals = s.refusals ∧ (s.commit).est = s.est ∧
    (s.commit).mon = s.mon ∧ (s.commit).gw = s.gw ∧ (s.commit).port = s.port :=
  by
  unfold State.commit
  (repeat' split) <;> simp


@[simp] theorem State.fieldLost_keeps :
    (s.fieldLost).pending = s.pending ∧ (s.fieldLost).running = s.running ∧ (s.fieldLost).config = s.config ∧
    (s.fieldLost).clock = s.clock ∧ (s.fieldLost).boundaryDue = s.boundaryDue ∧ (s.fieldLost).eng = s.eng ∧
    (s.fieldLost).pair = s.pair ∧ (s.fieldLost).refusals = s.refusals ∧ (s.fieldLost).est = s.est ∧
    (s.fieldLost).mon = s.mon ∧ (s.fieldLost).gw = s.gw ∧ (s.fieldLost).port = s.port :=
  by
  unfold State.fieldLost
  (repeat' split) <;> simp


@[simp] theorem State.spend_keeps (f : FrameRec) :
    (s.spend f).pending = s.pending ∧ (s.spend f).running = s.running ∧ (s.spend f).config = s.config ∧
    (s.spend f).clock = s.clock ∧ (s.spend f).boundaryDue = s.boundaryDue ∧ (s.spend f).eng = s.eng ∧
    (s.spend f).pair = s.pair ∧ (s.spend f).refusals = s.refusals ∧ (s.spend f).est = s.est ∧
    (s.spend f).mon = s.mon ∧ (s.spend f).gw = s.gw ∧ (s.spend f).port = s.port :=
  by
  unfold State.spend
  split <;> simp


@[simp] theorem State.moveUp_keeps :
    (s.moveUp).pending = s.pending ∧ (s.moveUp).running = s.running ∧ (s.moveUp).config = s.config ∧
    (s.moveUp).clock = s.clock ∧ (s.moveUp).boundaryDue = s.boundaryDue ∧ (s.moveUp).eng = s.eng ∧
    (s.moveUp).pair = s.pair ∧ (s.moveUp).refusals = s.refusals ∧ (s.moveUp).est = s.est ∧
    (s.moveUp).mon = s.mon ∧ (s.moveUp).gw = s.gw ∧ (s.moveUp).port = s.port :=
  by
  unfold State.moveUp
  split <;> simp


@[simp] theorem State.enterMute_keeps :
    (s.enterMute).pending = s.pending ∧ (s.enterMute).running = s.running ∧ (s.enterMute).config = s.config ∧
    (s.enterMute).clock = s.clock ∧ (s.enterMute).boundaryDue = s.boundaryDue ∧ (s.enterMute).eng = s.eng ∧
    (s.enterMute).pair = s.pair ∧ (s.enterMute).refusals = s.refusals ∧ (s.enterMute).est = s.est ∧
    (s.enterMute).mon = s.mon ∧ (s.enterMute).gw = s.gw ∧ (s.enterMute).port = s.port :=
  by simp [State.enterMute]


@[simp] theorem State.leaveMute_keeps :
    (s.leaveMute).pending = s.pending ∧ (s.leaveMute).running = s.running ∧ (s.leaveMute).config = s.config ∧
    (s.leaveMute).clock = s.clock ∧ (s.leaveMute).boundaryDue = s.boundaryDue ∧ (s.leaveMute).eng = s.eng ∧
    (s.leaveMute).pair = s.pair ∧ (s.leaveMute).refusals = s.refusals ∧ (s.leaveMute).est = s.est ∧
    (s.leaveMute).mon = s.mon ∧ (s.leaveMute).gw = s.gw ∧ (s.leaveMute).port = s.port :=
  by
  unfold State.leaveMute
  (repeat' split) <;> simp


@[simp] theorem State.refill_keeps :
    (s.refill).pending = s.pending ∧ (s.refill).running = s.running ∧ (s.refill).config = s.config ∧
    (s.refill).clock = s.clock ∧ (s.refill).boundaryDue = s.boundaryDue ∧ (s.refill).eng = s.eng ∧
    (s.refill).pair = s.pair ∧ (s.refill).refusals = s.refusals ∧ (s.refill).est = s.est ∧
    (s.refill).mon = s.mon ∧ (s.refill).gw = s.gw ∧ (s.refill).port = s.port :=
  by simp [State.refill]


/-! ### The counts of the selector -/

@[simp] theorem State.withdrawBoth_counts :
    (s.withdrawBoth).sel.allowance = s.sel.allowance ∧ (s.withdrawBoth).sel.refillCount = s.sel.refillCount :=
  ⟨rfl, rfl⟩

@[simp] theorem State.withdrawBuild_counts :
    (s.withdrawBuild).sel.allowance = s.sel.allowance ∧ (s.withdrawBuild).sel.refillCount = s.sel.refillCount :=
  ⟨rfl, rfl⟩

@[simp] theorem State.withdraw_counts (a b : Bool) :
    (s.withdraw a b).sel.allowance = s.sel.allowance ∧ (s.withdraw a b).sel.refillCount = s.sel.refillCount :=
  by
  unfold State.withdraw
  (repeat' split) <;> simp

@[simp] theorem State.withdrawWhere_counts (p : FrameRec → Bool) :
    (s.withdrawWhere p).sel.allowance = s.sel.allowance ∧ (s.withdrawWhere p).sel.refillCount = s.sel.refillCount :=
  by simp [State.withdrawWhere]

@[simp] theorem State.preempt_counts (l : List Urgency) :
    (s.preempt l).sel.allowance = s.sel.allowance ∧ (s.preempt l).sel.refillCount = s.sel.refillCount :=
  by
  unfold State.preempt
  (repeat' split) <;> simp

@[simp] theorem State.drainFirst_counts :
    (s.drainFirst).sel.allowance = s.sel.allowance ∧ (s.drainFirst).sel.refillCount = s.sel.refillCount :=
  by
  unfold State.drainFirst
  split <;> simp

@[simp] theorem State.rebuildTest_counts :
    (s.rebuildTest).sel.allowance = s.sel.allowance ∧ (s.rebuildTest).sel.refillCount = s.sel.refillCount :=
  by
  unfold State.rebuildTest
  split <;> simp

@[simp] theorem State.buildOne_counts :
    (s.buildOne).sel.allowance = s.sel.allowance ∧ (s.buildOne).sel.refillCount = s.sel.refillCount :=
  by
  unfold State.buildOne
  (repeat' split) <;> simp

@[simp] theorem State.buildAll_counts :
    (s.buildAll).sel.allowance = s.sel.allowance ∧ (s.buildAll).sel.refillCount = s.sel.refillCount :=
  by simp [State.buildAll]

@[simp] theorem State.selectorSettle_counts :
    (s.selectorSettle).sel.allowance = s.sel.allowance ∧ (s.selectorSettle).sel.refillCount = s.sel.refillCount :=
  by
  unfold State.selectorSettle
  split <;> simp

@[simp] theorem State.hear_counts (t : Told) :
    (s.hear t).sel.allowance = s.sel.allowance ∧ (s.hear t).sel.refillCount = s.sel.refillCount :=
  by simp [State.hear]

@[simp] theorem State.commit_counts :
    (s.commit).sel.allowance = s.sel.allowance ∧ (s.commit).sel.refillCount = s.sel.refillCount :=
  by
  unfold State.commit
  (repeat' split) <;> simp

@[simp] theorem State.fieldLost_counts :
    (s.fieldLost).sel.allowance = s.sel.allowance ∧ (s.fieldLost).sel.refillCount = s.sel.refillCount :=
  by
  unfold State.fieldLost
  (repeat' split) <;> simp


/-! ### The table but for the placement marks -/

theorem samePlacesAside_refl (t : List Entry) : samePlacesAside t t := rfl

theorem samePlacesAside_trans {t u v : List Entry} (h : samePlacesAside t u) (k : samePlacesAside u v) :
    samePlacesAside t v := Eq.trans h k

theorem movePlacement_sameAside (p q : Placement) (t : List Entry) : samePlacesAside (movePlacement p q t) t := by
  unfold samePlacesAside movePlacement
  rw [List.map_map]
  apply List.map_congr_left
  intro e _
  simp only [Function.comp]
  split <;> rfl

theorem placeBins_sameAside (bs : List BinId) (p : Placement) (t : List Entry) :
    samePlacesAside (placeBins bs p t) t := by
  unfold samePlacesAside placeBins
  rw [List.map_map]
  apply List.map_congr_left
  intro e _
  simp only [Function.comp]
  split <;> rfl

theorem State.withdrawBoth_sameAside : samePlacesAside s.withdrawBoth.table s.table :=
  samePlacesAside_trans (movePlacement_sameAside _ _ _) (movePlacement_sameAside _ _ _)

theorem State.withdrawBuild_sameAside : samePlacesAside s.withdrawBuild.table s.table := movePlacement_sameAside _ _ _

theorem State.withdraw_sameAside (a b : Bool) : samePlacesAside (s.withdraw a b).table s.table := by
  unfold State.withdraw
  split
  · exact s.withdrawBoth_sameAside
  · split
    · exact s.withdrawBuild_sameAside
    · rfl

theorem State.preempt_sameAside (l : List Urgency) : samePlacesAside (s.preempt l).table s.table := by
  unfold State.preempt
  split
  · rfl
  · (repeat' split)
    all_goals first | exact s.withdrawBoth_sameAside | exact s.withdrawBuild_sameAside | rfl

theorem State.drainFirst_sameAside : samePlacesAside s.drainFirst.table s.table := by
  unfold State.drainFirst
  split
  · exact s.withdrawBoth_sameAside
  · rfl

theorem State.rebuildTest_sameAside : samePlacesAside s.rebuildTest.table s.table := by
  unfold State.rebuildTest
  split
  · exact s.withdrawBoth_sameAside
  · rfl

theorem State.buildOne_sameAside : samePlacesAside s.buildOne.table s.table := by
  unfold State.buildOne
  (repeat' split)
  all_goals first | exact placeBins_sameAside _ _ _ | rfl

/-- Whatever the selector builds or withdraws on its own, the entries but for their placement stay (R87, R88). -/
theorem State.selectorSettle_sameAside : samePlacesAside s.selectorSettle.table s.table := by
  unfold State.selectorSettle
  split
  · exact samePlacesAside_trans (State.buildOne_sameAside _) (samePlacesAside_trans (State.buildOne_sameAside _)
      (samePlacesAside_trans (State.rebuildTest_sameAside _) (State.drainFirst_sameAside _)))
  · rfl

/-- What the selector makes of one step's table changes leaves the entries but for their placement (R88). -/
theorem State.hear_sameAside (t : Told) : samePlacesAside (s.hear t).table s.table :=
  samePlacesAside_trans (State.selectorSettle_sameAside _) (samePlacesAside_trans (State.preempt_sameAside _ _)
    (State.withdraw_sameAside _ _ _))

end Sys2Proof.Machine
end

