-- ==== Sys2Proof/Laws/Engine.lean ====
section
/-! SUPPORT. What the engine's and the monitor's operations can do, field by field: which parts of the state each of
them leaves as it is. -/

namespace Sys2Proof.Machine

variable (s : State)

/-! ### The engine (R6, R8, R10, R25) -/

@[simp] theorem State.enterWaking_keeps :
    (s.enterWaking).pending = s.pending ∧ (s.enterWaking).running = s.running ∧
    (s.enterWaking).config = s.config ∧ (s.enterWaking).clock = s.clock ∧
    (s.enterWaking).boundaryDue = s.boundaryDue ∧ (s.enterWaking).pair = s.pair ∧
    (s.enterWaking).refusals = s.refusals ∧ (s.enterWaking).est = s.est ∧ (s.enterWaking).mon = s.mon ∧
    (s.enterWaking).gw = s.gw ∧ (s.enterWaking).port = s.port :=
  by simp [State.enterWaking]

@[simp] theorem State.engineSettle_keeps :
    (s.engineSettle).pending = s.pending ∧ (s.engineSettle).running = s.running ∧
    (s.engineSettle).config = s.config ∧ (s.engineSettle).clock = s.clock ∧
    (s.engineSettle).boundaryDue = s.boundaryDue ∧ (s.engineSettle).pair = s.pair ∧
    (s.engineSettle).refusals = s.refusals ∧ (s.engineSettle).est = s.est ∧ (s.engineSettle).mon = s.mon ∧
    (s.engineSettle).gw = s.gw ∧ (s.engineSettle).port = s.port :=
  by
  unfold State.engineSettle
  (repeat' split) <;> simp

/-- Everything the engine does of itself: nothing, WAKING with an eligible frame past the gap, or DOZE in the bin role
past linger with nothing eligible and no recognised preamble (R6, R8). -/
theorem State.engineSettle_cases :
    s.engineSettle = s ∨
      (s.eng.state = .awake ∧ s.eng.carrier = false ∧ s.stageEligible = true ∧ s.mon.standing.gap ≤ s.eng.idleGap ∧
        s.engineSettle = s.enterWaking) ∨
      (s.eng.state = .awake ∧ s.eng.carrier = false ∧ s.stageEligible = false ∧ s.role = .bin ∧
        s.eng.lingerExpired = true ∧ s.eng.watch.recognised = false ∧
        s.engineSettle = { s with eng := s.eng.enterDoze s.cfg.listenPeriod }) := by
  unfold State.engineSettle
  (repeat' split) <;> simp_all

@[simp] theorem State.beginField_keeps :
    (s.beginField).pending = s.pending ∧ (s.beginField).running = s.running ∧
    (s.beginField).config = s.config ∧ (s.beginField).clock = s.clock ∧
    (s.beginField).boundaryDue = s.boundaryDue ∧ (s.beginField).pair = s.pair ∧
    (s.beginField).refusals = s.refusals ∧ (s.beginField).est = s.est ∧ (s.beginField).mon = s.mon ∧
    (s.beginField).gw = s.gw ∧ (s.beginField).port = s.port :=
  by
  unfold State.beginField
  dsimp only
  split <;> simp

@[simp] theorem State.loseField_keeps :
    (s.loseField).pending = s.pending ∧ (s.loseField).running = s.running ∧ (s.loseField).config = s.config ∧
    (s.loseField).clock = s.clock ∧ (s.loseField).boundaryDue = s.boundaryDue ∧ (s.loseField).pair = s.pair ∧
    (s.loseField).refusals = s.refusals ∧ (s.loseField).est = s.est ∧ (s.loseField).mon = s.mon ∧
    (s.loseField).gw = s.gw ∧ (s.loseField).port = s.port :=
  by simp [State.loseField]

@[simp] theorem State.fieldWon_keeps :
    (s.fieldWon).pending = s.pending ∧ (s.fieldWon).running = s.running ∧ (s.fieldWon).config = s.config ∧
    (s.fieldWon).clock = s.clock ∧ (s.fieldWon).boundaryDue = s.boundaryDue ∧ (s.fieldWon).eng = s.eng ∧
    (s.fieldWon).pair = s.pair ∧ (s.fieldWon).refusals = s.refusals ∧ (s.fieldWon).est = s.est ∧
    (s.fieldWon).gw = s.gw ∧ (s.fieldWon).port = s.port :=
  by
  unfold State.fieldWon
  dsimp only
  (repeat' split) <;> simp


/-- Commitment moves nothing but the condition of STAGE (R127). -/
@[simp] theorem State.commit_table : s.commit.table = s.table := by
  unfold State.commit
  (repeat' split) <;> rfl

@[simp] theorem State.enterWaking_table : s.enterWaking.table = s.table := by simp [State.enterWaking]

@[simp] theorem State.engineSettle_table : s.engineSettle.table = s.table := by
  unfold State.engineSettle
  (repeat' split) <;> simp

@[simp] theorem State.beginField_table : s.beginField.table = s.table := by
  unfold State.beginField
  dsimp only
  split <;> simp

/-! ### The monitor (R142 to R149) -/

@[simp] theorem State.setMonitor_keeps (m : Monitor) :
    (s.setMonitor m).pending = s.pending ∧ (s.setMonitor m).running = s.running ∧
    (s.setMonitor m).config = s.config ∧ (s.setMonitor m).clock = s.clock ∧
    (s.setMonitor m).boundaryDue = s.boundaryDue ∧ (s.setMonitor m).eng = s.eng ∧
    (s.setMonitor m).pair = s.pair ∧ (s.setMonitor m).refusals = s.refusals ∧ (s.setMonitor m).est = s.est ∧
    (s.setMonitor m).gw = s.gw :=
  by
  unfold State.setMonitor
  dsimp only
  (repeat' split) <;> simp

@[simp] theorem State.setMonitor_mon (m : Monitor) : (s.setMonitor m).mon = m := by
  unfold State.setMonitor
  dsimp only
  (repeat' split) <;> simp

@[simp] theorem State.monitorOutcome_keeps (b : Bool) :
    (s.monitorOutcome b).pending = s.pending ∧ (s.monitorOutcome b).running = s.running ∧
    (s.monitorOutcome b).config = s.config ∧ (s.monitorOutcome b).clock = s.clock ∧
    (s.monitorOutcome b).boundaryDue = s.boundaryDue ∧ (s.monitorOutcome b).eng = s.eng ∧
    (s.monitorOutcome b).pair = s.pair ∧ (s.monitorOutcome b).refusals = s.refusals ∧
    (s.monitorOutcome b).est = s.est ∧ (s.monitorOutcome b).gw = s.gw :=
  by simp [State.monitorOutcome]

@[simp] theorem State.monitorGood_keeps (b : Bool) :
    (s.monitorGood b).pending = s.pending ∧ (s.monitorGood b).running = s.running ∧
    (s.monitorGood b).config = s.config ∧ (s.monitorGood b).clock = s.clock ∧
    (s.monitorGood b).boundaryDue = s.boundaryDue ∧ (s.monitorGood b).eng = s.eng ∧
    (s.monitorGood b).pair = s.pair ∧ (s.monitorGood b).refusals = s.refusals ∧
    (s.monitorGood b).est = s.est ∧ (s.monitorGood b).gw = s.gw :=
  by simp [State.monitorGood]

@[simp] theorem State.monitorBad_keeps :
    (s.monitorBad).pending = s.pending ∧ (s.monitorBad).running = s.running ∧
    (s.monitorBad).config = s.config ∧ (s.monitorBad).clock = s.clock ∧
    (s.monitorBad).boundaryDue = s.boundaryDue ∧ (s.monitorBad).eng = s.eng ∧ (s.monitorBad).pair = s.pair ∧
    (s.monitorBad).refusals = s.refusals ∧ (s.monitorBad).est = s.est ∧ (s.monitorBad).gw = s.gw :=
  by simp [State.monitorBad]


/-! ### Echo outcomes (R132 to R135) -/

@[simp] theorem State.fillOutcome_keeps (b : Bool) (r : List (BinId × Seq)) :
    (s.fillOutcome b r).pending = s.pending ∧ (s.fillOutcome b r).running = s.running ∧
    (s.fillOutcome b r).config = s.config ∧ (s.fillOutcome b r).clock = s.clock ∧
    (s.fillOutcome b r).boundaryDue = s.boundaryDue ∧ (s.fillOutcome b r).eng = s.eng ∧
    (s.fillOutcome b r).pair = s.pair ∧ (s.fillOutcome b r).refusals = s.refusals ∧
    (s.fillOutcome b r).est = s.est ∧ (s.fillOutcome b r).sel = s.sel ∧ (s.fillOutcome b r).mon = s.mon ∧
    (s.fillOutcome b r).gw = s.gw :=
  by
  unfold State.fillOutcome
  dsimp only
  split <;> simp

@[simp] theorem State.drainOutcome_keeps (b : Bool) (r : List (BinId × Seq)) :
    (s.drainOutcome b r).pending = s.pending ∧ (s.drainOutcome b r).running = s.running ∧
    (s.drainOutcome b r).config = s.config ∧ (s.drainOutcome b r).clock = s.clock ∧
    (s.drainOutcome b r).boundaryDue = s.boundaryDue ∧ (s.drainOutcome b r).eng = s.eng ∧
    (s.drainOutcome b r).pair = s.pair ∧ (s.drainOutcome b r).refusals = s.refusals ∧
    (s.drainOutcome b r).est = s.est ∧ (s.drainOutcome b r).mon = s.mon ∧
    (s.drainOutcome b r).port = s.port :=
  by
  unfold State.drainOutcome
  dsimp only
  (repeat' split) <;> simp

@[simp] theorem State.solicitOutcome_keeps (b : Bool) (r : Nat) :
    (s.solicitOutcome b r).pending = s.pending ∧ (s.solicitOutcome b r).running = s.running ∧
    (s.solicitOutcome b r).config = s.config ∧ (s.solicitOutcome b r).clock = s.clock ∧
    (s.solicitOutcome b r).boundaryDue = s.boundaryDue ∧ (s.solicitOutcome b r).eng = s.eng ∧
    (s.solicitOutcome b r).pair = s.pair ∧ (s.solicitOutcome b r).refusals = s.refusals ∧
    (s.solicitOutcome b r).est = s.est ∧ (s.solicitOutcome b r).mon = s.mon ∧
    (s.solicitOutcome b r).port = s.port :=
  by
  unfold State.solicitOutcome
  dsimp only
  (repeat' split) <;> simp

@[simp] theorem State.applyOutcome_keeps (b : Bool) (f : FrameRec) :
    (s.applyOutcome b f).pending = s.pending ∧ (s.applyOutcome b f).running = s.running ∧
    (s.applyOutcome b f).config = s.config ∧ (s.applyOutcome b f).clock = s.clock ∧
    (s.applyOutcome b f).boundaryDue = s.boundaryDue ∧ (s.applyOutcome b f).eng = s.eng ∧
    (s.applyOutcome b f).pair = s.pair ∧ (s.applyOutcome b f).refusals = s.refusals ∧
    (s.applyOutcome b f).est = s.est ∧ (s.applyOutcome b f).mon = s.mon :=
  by
  unfold State.applyOutcome
  split <;> simp

@[simp] theorem State.echoOutcome_keeps (b : Bool) :
    (s.echoOutcome b).pending = s.pending ∧ (s.echoOutcome b).running = s.running ∧
    (s.echoOutcome b).config = s.config ∧ (s.echoOutcome b).clock = s.clock ∧
    (s.echoOutcome b).boundaryDue = s.boundaryDue ∧ (s.echoOutcome b).eng = s.eng ∧
    (s.echoOutcome b).pair = s.pair ∧ (s.echoOutcome b).refusals = s.refusals ∧
    (s.echoOutcome b).est = s.est ∧ (s.echoOutcome b).mon = s.mon :=
  by
  unfold State.echoOutcome
  (repeat' split) <;> simp

@[simp] theorem State.takeOutcome_keeps (b f : Bool) :
    (s.takeOutcome b f).pending = s.pending ∧ (s.takeOutcome b f).running = s.running ∧
    (s.takeOutcome b f).config = s.config ∧ (s.takeOutcome b f).clock = s.clock ∧
    (s.takeOutcome b f).boundaryDue = s.boundaryDue ∧ (s.takeOutcome b f).eng = s.eng ∧
    (s.takeOutcome b f).pair = s.pair ∧ (s.takeOutcome b f).refusals = s.refusals ∧
    (s.takeOutcome b f).est = s.est :=
  by
  unfold State.takeOutcome
  split <;> simp


/-! ### The hand-over of a frame (R103, R104) -/

@[simp] theorem State.handOver_keeps (f : RxFrame) :
    (s.handOver f).pending = s.pending ∧ (s.handOver f).running = s.running ∧
    (s.handOver f).config = s.config ∧ (s.handOver f).clock = s.clock ∧
    (s.handOver f).boundaryDue = s.boundaryDue ∧ (s.handOver f).eng = s.eng ∧
    (s.handOver f).table = s.table ∧ (s.handOver f).refusals = s.refusals ∧ (s.handOver f).est = s.est ∧
    (s.handOver f).sel = s.sel ∧ (s.handOver f).mon = s.mon ∧ (s.handOver f).gw = s.gw :=
  by
  unfold State.handOver
  dsimp only
  (repeat' split) <;> simp

end Sys2Proof.Machine
end

