-- ==== Sys2Proof/Laws/Exec.lean ====
section
/-! SUPPORT. The dispatch, arm by arm: what exec does with each command, true by rfl, so that no later proof unfolds
exec itself. -/

namespace Sys2Proof.Machine

variable (s : State)

@[simp] theorem exec_readStatus (args : List Byte) : exec (.readStatus args) s = execReadStatus args s := rfl
@[simp] theorem exec_start (args : List Byte) : exec (.start args) s = execStart args s := rfl
@[simp] theorem exec_restart (args : List Byte) (sentBits : Nat) :
    exec (.restart args sentBits) s = execRestart args sentBits s := rfl
@[simp] theorem exec_rejoin (args : List Byte) : exec (.rejoin args) s = execRejoin args s := rfl
@[simp] theorem exec_postSample (args : List Byte) : exec (.postSample args) s = execPostSample args s := rfl
@[simp] theorem exec_readOwn (args : List Byte) : exec (.readOwn args) s = execReadOwn args s := rfl
@[simp] theorem exec_readEntry (args : List Byte) : exec (.readEntry args) s = execReadEntry args s := rfl
@[simp] theorem exec_readSlot (args : List Byte) : exec (.readSlot args) s = execReadSlot args s := rfl
@[simp] theorem exec_solicit (args : List Byte) : exec (.solicit args) s = execSolicit args s := rfl
@[simp] theorem exec_exportNext (args : List Byte) : exec (.exportNext args) s = execExportNext args s := rfl
@[simp] theorem exec_exportNextCompletion : exec .exportNextCompletion s = execExportNextCompletion s := rfl
@[simp] theorem exec_exportCutShort (clocked : Clocked) :
    exec (.exportCutShort clocked) s = execExportCutShort clocked s := rfl
@[simp] theorem exec_clearNotices (args : List Byte) : exec (.clearNotices args) s = execClearNotices args s := rfl
@[simp] theorem exec_setNoticeMask (args : List Byte) :
    exec (.setNoticeMask args) s = execSetNoticeMask args s := rfl
@[simp] theorem exec_unknownCommand (code : Byte) (args : List Byte) :
    exec (.unknownCommand code args) s = execUnknownCommand code args s := rfl
@[simp] theorem exec_transactionAbandoned (place : Abandon) :
    exec (.transactionAbandoned place) s = execTransactionAbandoned place s := rfl
@[simp] theorem exec_hardReset : exec .hardReset s = execHardReset s := rfl
@[simp] theorem exec_resetRelease : exec .resetRelease s = execResetRelease s := rfl
@[simp] theorem exec_portReady : exec .portReady s = execPortReady s := rfl
@[simp] theorem exec_stationClockTick : exec .stationClockTick s = execStationClockTick s := rfl
@[simp] theorem exec_minuteBoundary : exec .minuteBoundary s = execMinuteBoundary s := rfl
@[simp] theorem exec_allowanceRefill : exec .allowanceRefill s = execAllowanceRefill s := rfl
@[simp] theorem exec_probeTimerExpiry : exec .probeTimerExpiry s = execProbeTimerExpiry s := rfl
@[simp] theorem exec_listenTimerExpiry : exec .listenTimerExpiry s = execListenTimerExpiry s := rfl
@[simp] theorem exec_sampleCarrierSeen : exec .sampleCarrierSeen s = execSampleCarrierSeen s := rfl
@[simp] theorem exec_sampleWindowEnd : exec .sampleWindowEnd s = execSampleWindowEnd s := rfl
@[simp] theorem exec_lingerExpiry : exec .lingerExpiry s = execLingerExpiry s := rfl
@[simp] theorem exec_carrierRise : exec .carrierRise s = execCarrierRise s := rfl
@[simp] theorem exec_preambleRecognised : exec .preambleRecognised s = execPreambleRecognised s := rfl
@[simp] theorem exec_carrierFall : exec .carrierFall s = execCarrierFall s := rfl
@[simp] theorem exec_idleGapReached : exec .idleGapReached s = execIdleGapReached s := rfl
@[simp] theorem exec_wakeLengthEnd (carrier : Bool) :
    exec (.wakeLengthEnd carrier) s = execWakeLengthEnd carrier s := rfl
@[simp] theorem exec_wakingCarrierFall : exec .wakingCarrierFall s = execWakingCarrierFall s := rfl
@[simp] theorem exec_wakingCap : exec .wakingCap s = execWakingCap s := rfl
@[simp] theorem exec_fieldSlot (carrier : Bool) : exec (.fieldSlot carrier) s = execFieldSlot carrier s := rfl
@[simp] theorem exec_contentionLost : exec .contentionLost s = execContentionLost s := rfl
@[simp] theorem exec_fieldEnd : exec .fieldEnd s = execFieldEnd s := rfl
@[simp] theorem exec_closingMarkSent : exec .closingMarkSent s = execClosingMarkSent s := rfl
@[simp] theorem exec_openingMarkFound (rxd : List Bool) :
    exec (.openingMarkFound rxd) s = execOpeningMarkFound rxd s := rfl
@[simp] theorem exec_markWaitExpiry (carrier : Bool) :
    exec (.markWaitExpiry carrier) s = execMarkWaitExpiry carrier s := rfl
@[simp] theorem exec_goodFrame (rxd : List Bool) (monitorFirst : Bool) :
    exec (.goodFrame rxd monitorFirst) s = execGoodFrame rxd monitorFirst s := rfl
@[simp] theorem exec_badFrame (rxd : List Bool) (carrier : Bool) :
    exec (.badFrame rxd carrier) s = execBadFrame rxd carrier s := rfl
@[simp] theorem exec_echoSlotEnd (carrier : Bool) : exec (.echoSlotEnd carrier) s = execEchoSlotEnd carrier s := rfl
@[simp] theorem exec_awaitEchoEnd (echo : Bool) (carrier : Bool) (monitorFirst : Bool) :
    exec (.awaitEchoEnd echo carrier monitorFirst) s = execAwaitEchoEnd echo carrier monitorFirst s := rfl
@[simp] theorem exec_abortTailEnd : exec .abortTailEnd s = execAbortTailEnd s := rfl
@[simp] theorem exec_mergeStep : exec .mergeStep s = execMergeStep s := rfl
@[simp] theorem exec_rxdLevelChange : exec .rxdLevelChange s = execRxdLevelChange s := rfl

end Sys2Proof.Machine
end

