-- ==== Sys2Proof/Laws/PerInstr.lean ====
section
/-! SUPPORT. The family of statements made per command: how each command stands in the serial framing. A statement of
this family is about the command as syntax alone. -/

namespace Sys2Proof.Laws.Framing

open Sys2Proof.Machine

/-- No word of the table spells the command, and a command of the twelve is well formed exactly when its arguments fit
the count byte, and takes no more than the 43 bytes of START (R168, R172, R175). -/
def Statement (i : Instr) : Prop :=
  (∀ nbits w : Nat, decodeTableWord nbits w ≠ some i) ∧
    ∀ r : PortRow, portRow i = some r → (i.wellFormed = true ↔ r.args.length ≤ 255) ∧ r.argBytes ≤ 43

/-- A command of the twelve, whose well-formedness is that of its arguments. -/
theorem of_port {i : Instr} {r : PortRow} (h : portRow i = some r) (k : i.wellFormed = argsFit r.args)
    (n : r.argBytes ≤ 43) : Statement i := by
  refine ⟨fun _ _ w => by simp [decodeTableWord] at w, fun r' h' => ?_⟩
  obtain rfl : r = r' := Option.some.inj (h.symm.trans h')
  exact ⟨by rw [k]; simp [argsFit], n⟩

/-- A row of the table that is none of the twelve. -/
theorem of_event {i : Instr} (h : portRow i = none) : Statement i :=
  ⟨fun _ _ w => by simp [decodeTableWord] at w, fun _ h' => by rw [h] at h'; cases h'⟩

theorem readStatus (args : List Byte) : Statement (.readStatus args) := of_port rfl rfl (Nat.le_of_ble_eq_true rfl)
theorem start (args : List Byte) : Statement (.start args) := of_port rfl rfl (Nat.le_of_ble_eq_true rfl)
theorem restart (args : List Byte) (sentBits : Nat) :
    Statement (.restart args sentBits) := of_port rfl rfl (Nat.le_of_ble_eq_true rfl)
theorem rejoin (args : List Byte) : Statement (.rejoin args) := of_port rfl rfl (Nat.le_of_ble_eq_true rfl)
theorem postSample (args : List Byte) : Statement (.postSample args) := of_port rfl rfl (Nat.le_of_ble_eq_true rfl)
theorem readOwn (args : List Byte) : Statement (.readOwn args) := of_port rfl rfl (Nat.le_of_ble_eq_true rfl)
theorem readEntry (args : List Byte) : Statement (.readEntry args) := of_port rfl rfl (Nat.le_of_ble_eq_true rfl)
theorem readSlot (args : List Byte) : Statement (.readSlot args) := of_port rfl rfl (Nat.le_of_ble_eq_true rfl)
theorem solicit (args : List Byte) : Statement (.solicit args) := of_port rfl rfl (Nat.le_of_ble_eq_true rfl)
theorem exportNext (args : List Byte) : Statement (.exportNext args) := of_port rfl rfl (Nat.le_of_ble_eq_true rfl)
theorem exportNextCompletion : Statement .exportNextCompletion := of_event rfl
theorem exportCutShort (clocked : Clocked) : Statement (.exportCutShort clocked) := of_event rfl
theorem clearNotices (args : List Byte) : Statement (.clearNotices args) := of_port rfl rfl (Nat.le_of_ble_eq_true rfl)
theorem setNoticeMask (args : List Byte) : Statement (.setNoticeMask args) := of_port rfl rfl (Nat.le_of_ble_eq_true rfl)
theorem unknownCommand (code : Byte) (args : List Byte) : Statement (.unknownCommand code args) := of_event rfl
theorem transactionAbandoned (place : Abandon) : Statement (.transactionAbandoned place) := of_event rfl
theorem hardReset : Statement .hardReset := of_event rfl
theorem resetRelease : Statement .resetRelease := of_event rfl
theorem portReady : Statement .portReady := of_event rfl
theorem stationClockTick : Statement .stationClockTick := of_event rfl
theorem minuteBoundary : Statement .minuteBoundary := of_event rfl
theorem allowanceRefill : Statement .allowanceRefill := of_event rfl
theorem probeTimerExpiry : Statement .probeTimerExpiry := of_event rfl
theorem listenTimerExpiry : Statement .listenTimerExpiry := of_event rfl
theorem sampleCarrierSeen : Statement .sampleCarrierSeen := of_event rfl
theorem sampleWindowEnd : Statement .sampleWindowEnd := of_event rfl
theorem lingerExpiry : Statement .lingerExpiry := of_event rfl
theorem carrierRise : Statement .carrierRise := of_event rfl
theorem preambleRecognised : Statement .preambleRecognised := of_event rfl
theorem carrierFall : Statement .carrierFall := of_event rfl
theorem idleGapReached : Statement .idleGapReached := of_event rfl
theorem wakeLengthEnd (carrier : Bool) : Statement (.wakeLengthEnd carrier) := of_event rfl
theorem wakingCarrierFall : Statement .wakingCarrierFall := of_event rfl
theorem wakingCap : Statement .wakingCap := of_event rfl
theorem fieldSlot (carrier : Bool) : Statement (.fieldSlot carrier) := of_event rfl
theorem contentionLost : Statement .contentionLost := of_event rfl
theorem fieldEnd : Statement .fieldEnd := of_event rfl
theorem closingMarkSent : Statement .closingMarkSent := of_event rfl
theorem openingMarkFound (rxd : List Bool) : Statement (.openingMarkFound rxd) := of_event rfl
theorem markWaitExpiry (carrier : Bool) : Statement (.markWaitExpiry carrier) := of_event rfl
theorem goodFrame (rxd : List Bool) (monitorFirst : Bool) : Statement (.goodFrame rxd monitorFirst) := of_event rfl
theorem badFrame (rxd : List Bool) (carrier : Bool) : Statement (.badFrame rxd carrier) := of_event rfl
theorem echoSlotEnd (carrier : Bool) : Statement (.echoSlotEnd carrier) := of_event rfl
theorem awaitEchoEnd (echo carrier monitorFirst : Bool) :
    Statement (.awaitEchoEnd echo carrier monitorFirst) := of_event rfl
theorem abortTailEnd : Statement .abortTailEnd := of_event rfl
theorem mergeStep : Statement .mergeStep := of_event rfl
theorem rxdLevelChange : Statement .rxdLevelChange := of_event rfl

end Sys2Proof.Laws.Framing
end

