-- ==== Sys2Proof/Laws/Serve.lean ====
section
/-! SUPPORT. What a port transaction can do up to its effect point (R168, R172, R179): nothing but a reply where it is
not served or refused, and otherwise the command's own action with its reply. -/

namespace Sys2Proof.Machine

variable (c : PortCommand) (args : List Byte) (act : State → State × List Byte) (s : State)

/-- A transaction that is not served changes nothing but SDO (R179). -/
theorem State.serve_unready (h : s.port.ready = false) : s.serve c args act = s.returns [] := by
  simp [State.serve, h]

/-- A refused command changes nothing but SDO, which carries its result code alone (R172). -/
theorem State.serve_refused {code : ResultCode} (h : s.port.ready = true) (k : c.check args s = some code) :
    s.serve c args act = s.replies (s.head args) [code.byte] := by
  simp [State.serve, h, k]

/-- A command that passes its checks acts (R172). -/
theorem State.serve_accepted (h : s.port.ready = true) (k : c.check args s = none) :
    s.serve c args act = (act s).1.replies (s.head args) (act s).2 := by
  simp [State.serve, h, k]

/-- Everything a transaction can do: not served, refused, or carried out. -/
theorem State.serve_cases :
    (s.port.ready = false ∧ s.serve c args act = s.returns []) ∨
      (s.port.ready = true ∧ ∃ code, c.check args s = some code ∧
        s.serve c args act = s.replies (s.head args) [code.byte]) ∨
      (s.port.ready = true ∧ c.check args s = none ∧
        s.serve c args act = (act s).1.replies (s.head args) (act s).2) := by
  cases h : s.port.ready with
  | false => exact .inl ⟨rfl, s.serve_unready c args act h⟩
  | true =>
    cases k : c.check args s with
    | some code => exact .inr (.inl ⟨rfl, code, rfl, s.serve_refused c args act h k⟩)
    | none => exact .inr (.inr ⟨rfl, rfl, s.serve_accepted c args act h k⟩)

/-- The checks pass exactly when the length, the station life and the role fit the command (R172). -/
theorem PortCommand.check_eq_none :
    c.check args s = none ↔
      args.length = c.argBytes ∧ (s.running = true ∨ c.unconfigured = true) ∧
        (s.running = true → c.role.any (fun r => r != s.role) = false) := by
  unfold PortCommand.check
  cases s.running <;> cases c.unconfigured <;> by_cases h : args.length = c.argBytes <;> simp [h]

/-- A command of one role that passes its checks runs in that role. -/
theorem PortCommand.check_role {r : Role} (hc : c.role = some r) (hu : c.unconfigured = false)
    (h : c.check args s = none) : s.running = true ∧ s.role = r := by
  obtain ⟨-, hrun, hrole⟩ := (PortCommand.check_eq_none c args s).1 h
  have hr : s.running = true := by simpa [hu] using hrun
  refine ⟨hr, ?_⟩
  have := hrole hr
  simp [hc] at this
  exact this.symm

end Sys2Proof.Machine
end

