-- ==== Sys2Proof/Laws/Table.lean ====
section
/-! SUPPORT. What the carry table's operations can do: each keeps the table's canonical form (R82), a look-up by bin id
or position finds the one entry there is, and an insert takes the lowest FREE position, the victim's, or none. -/

namespace Sys2Proof.Machine

/-! ### The canonical form is kept -/

theorem tableWf_map {t : List Entry} {f : Entry → Entry}
    (hf : ∀ e ∈ t, (f e).position = e.position ∧ (f e).report.binId = e.report.binId) (h : tableWf t) :
    tableWf (t.map f) := by
  refine ⟨List.pairwise_map.2 (h.1.imp_of_mem fun ha hb hab => ?_), fun e he => ?_⟩
  · rw [(hf _ ha).1, (hf _ hb).1, (hf _ ha).2, (hf _ hb).2]
    exact hab
  · obtain ⟨x, hx, rfl⟩ := List.mem_map.1 he
    rw [(hf x hx).1]
    exact h.2 x hx

theorem tableWf_filter {t : List Entry} (p : Entry → Bool) (h : tableWf t) : tableWf (t.filter p) :=
  ⟨h.1.filter p, fun e he => h.2 e (List.mem_of_mem_filter he)⟩

theorem tableWf_changeEntry {t : List Entry} {b : BinId} {f : Entry → Entry}
    (hf : ∀ e, (f e).position = e.position ∧ (f e).report.binId = e.report.binId) (h : tableWf t) :
    tableWf (changeEntry b f t) :=
  tableWf_map (fun e _ => by split <;> simp [hf]) h

theorem mem_placeEntry {e x : Entry} {t : List Entry} : x ∈ placeEntry e t ↔ x = e ∨ x ∈ t := by
  induction t with
  | nil => simp [placeEntry]
  | cons y ys ih =>
    unfold placeEntry
    split <;> simp [ih, or_left_comm]

theorem tableWf_placeEntry {e : Entry} {t : List Entry} (hp : e.position < Config.positions)
    (hn : ∀ x ∈ t, x.position ≠ e.position ∧ x.report.binId ≠ e.report.binId) (h : tableWf t) :
    tableWf (placeEntry e t) := by
  refine ⟨?_, fun x hx => ?_⟩
  · obtain ⟨h1, -⟩ := h
    induction t with
    | nil => simp [placeEntry]
    | cons y ys ih =>
      obtain ⟨hy, hys⟩ := List.pairwise_cons.1 h1
      have hne := hn y (by simp)
      unfold placeEntry
      split
      · rename_i hlt
        refine List.pairwise_cons.2 ⟨fun x hx => ?_, h1⟩
        rcases List.mem_cons.1 hx with rfl | hx'
        · exact ⟨hlt, fun k => hne.2 k.symm⟩
        · exact ⟨hlt.trans (hy x hx').1, fun k => (hn x hx).2 k.symm⟩
      · rename_i hge
        refine List.pairwise_cons.2 ⟨fun x hx => ?_, ih (fun x hx => hn x (by simp [hx])) hys⟩
        rcases mem_placeEntry.1 hx with rfl | hx'
        · exact ⟨by omega, hne.2⟩
        · exact hy x hx'
  · rcases mem_placeEntry.1 hx with rfl | hx'
    · exact hp
    · exact h.2 x hx'

theorem tableWf_of_samePlacesAside {t u : List Entry} (h : samePlacesAside t u) (k : tableWf u) : tableWf t := by
  have hu : tableWf (u.map fun e => { e with placed := .unplaced }) := tableWf_map (fun _ _ => ⟨rfl, rfl⟩) k
  rw [← h] at hu
  refine ⟨(List.pairwise_map.1 hu.1).imp fun x => x, fun e he => ?_⟩
  exact hu.2 { e with placed := .unplaced } (List.mem_map.2 ⟨e, he, rfl⟩)

/-! ### Look-ups -/

theorem entry_unique {t : List Entry} (h : tableWf t) {a b : Entry} (ha : a ∈ t) (hb : b ∈ t)
    (hab : a.report.binId = b.report.binId ∨ a.position = b.position) : a = b := by
  by_contra hne
  rcases List.Pairwise.forall_of_forall_of_flip (l := t) (R := fun x y => x = y ∨
      (x.report.binId ≠ y.report.binId ∧ x.position ≠ y.position)) (fun _ _ => Or.inl rfl)
      (h.1.imp fun k => Or.inr ⟨k.2, k.1.ne⟩) (h.1.imp fun k => Or.inr ⟨k.2.symm, k.1.ne'⟩) ha hb with k | k
  · exact hne k
  · exact hab.elim k.1 k.2

/-- The look-up by bin id finds the entry held for the bin. -/
theorem State.entryOf_of_holds {s : State} {b : BinId} {e : Entry} (h : s.holds b e) : s.entryOf b = some e := by
  obtain ⟨hw, he, hb⟩ := h
  unfold State.entryOf
  rcases hf : s.table.find? (fun x => x.report.binId == b) with _ | x
  · exact absurd (List.find?_eq_none.1 hf e he) (by simp [hb])
  · have hx := List.find?_some hf
    rw [hf, entry_unique hw (List.mem_of_find?_eq_some hf) he (Or.inl (by rw [hb]; exact eq_of_beq hx))]

/-- The look-up by bin id finds nothing exactly when the bin is absent. -/
theorem State.entryOf_eq_none {s : State} {b : BinId} : s.entryOf b = none ↔ ∀ e ∈ s.table, e.report.binId ≠ b := by
  simp [State.entryOf, List.find?_eq_none]

/-! ### Insertion (R92 to R95) -/

theorem lowestFree_eq_some {t : List Entry} {p : Nat} : lowestFree t = some p ↔ lowestFreeIs t p := by
  unfold lowestFree lowestFreeIs
  rw [List.find?_range_eq_some]
  simp [Config.positions, and_comm, and_assoc]

/-- The one of an order that comes first is a member, if there is any. -/
theorem firstBy_cases {α : Type} (r : α → α → Bool) (l : List α) :
    (l = [] ∧ firstBy r l = none) ∨ ∃ x ∈ l, firstBy r l = some x := by
  induction l with
  | nil => exact Or.inl ⟨rfl, rfl⟩
  | cons x xs ih =>
    refine Or.inr ?_
    unfold firstBy
    rcases ih with ⟨rfl, h⟩ | ⟨y, hy, h⟩
    · exact ⟨x, by simp, by rw [h]⟩
    · rw [h]
      dsimp only
      split
      · exact ⟨y, by simp [hy], rfl⟩
      · exact ⟨x, by simp, rfl⟩

/-- An insert takes the position found, freeing the entry there, or is refused with the count and the notice. -/
theorem State.insert_cases (s : State) (e : Entry) :
    (∃ p, s.insertPosition e.origin = some p ∧
      s.insert e =
        ({ s with table := placeEntry { e with position := p } (s.table.filter (fun x => x.position != p)) }, true)) ∨
    (s.insertPosition e.origin = none ∧
      s.insert e = (({ s with refusals := bump Config.count16Max s.refusals }).raise .refusal, false)) := by
  unfold State.insert
  split
  · rename_i p h
    exact Or.inl ⟨p, h, rfl⟩
  · rename_i h
    exact Or.inr ⟨h, rfl⟩

end Sys2Proof.Machine
end

