-- ==== Sys2Proof/Tests/Slice0.lean ====
section
/-! SUPPORT. Small tests: ill-formed terms that WellFormed refuses, and worked examples of the manual. Every expected
value is the manual's own, from the section named. -/

namespace Sys2Proof.Tests

open Sys2Proof.Machine

/-! ### The stations of the tests -/

/-- Bin station 17.00388 with the defaults of 10.4 and home filter district 17. -/
def binCfg : HeldConfig :=
  { HeldConfig.absent with
    role := .bin, stationId := 0x110184, kindCode := 1, emptyDist := 1250, fullDist := 230, dueLevel := 750,
    imminentHorizon := 240, dueHorizon := 1440, reportDelta := 50, heartbeat := 360, listenPeriod := 1000,
    wakeLength := 1020, linger := 2000, ageLimit := 720, hopLimit := 6, suppressCount := 2, sendLimit := 3,
    capacity := 12, refillInterval := 5, filterId := 0x110000, filterMask := 0x00FFFF, passingCarry := true,
    homeGuard := true, autoRejoin := true, probeInterval := 60 }

/-- Gateway 17.61443. -/
def gatewayCfg : HeldConfig :=
  { HeldConfig.absent with
    role := .gateway, stationId := 0x11F003, wakeLength := 1020, ageLimit := 720, sendLimit := 3, filterId := 0x110000,
    filterMask := 0x00FFFF, passingCarry := true, homeGuard := true, autoRejoin := true, probeInterval := 60 }

/-- UNCONFIGURED, with the port ready. -/
def up : State := { State.reset with port := { Port.reset with resetn := true, ready := true } }

/-- The bin station RUNNING, awake, with nothing held. -/
def bin : State :=
  { up with
    running := true, config := some binCfg, clock := 1000, sel := { Selector.reset with allowance := 12 },
    eng := { Engine.reset with state := .awake, linger := some 2000, radioEn := true, txd := none } }

/-- The gateway RUNNING, with nothing held. -/
def gateway : State :=
  { up with
    running := true, config := some gatewayCfg, clock := 1000,
    eng := { Engine.reset with state := .awake, radioEn := true, txd := none } }

/-- A report of a glass bin. -/
def report (b : BinId) (seq : Seq) (cls : Urgency) (ttf : Nat) : Report :=
  { binId := b, seq := seq, kind := .glass, cls := cls, overfull := false, emptied := false, fault := false, level := 500,
    rate := 10, ttf := ttf, since := none }

/-- An entry of such a report, received at second 1000 with age 0. -/
def entry (p : Nat) (r : Report) (origin : Origin) (owing : Owing) : Entry :=
  { position := p, report := r, rxAge := 0, rxTime := 1000, hops := 1, origin := origin, owing := owing,
    placed := .unplaced, heard := 0, sent := 0, exported := false }

def own : Entry := entry 0 (report 0x110184 71 2 1200) .own .owed
def near : Entry := entry 1 (report 0x110412 2 1 130) .home .owed
def far : Entry := entry 127 (report 0x1200DC 12 3 65535) .passing .held

/-- The bin station holding its own entry, one it owes and one it only keeps. -/
def binHolding : State :=
  { bin with
    table := [own, near, far]
    est := { bin.est with nextSeq := 72, figures := some ⟨740, 500, false, 1200, 2⟩, lastReport := some ⟨500, 2, 900, false⟩ } }

/-- The gateway holding two reports to be exported. -/
def gatewayHolding : State :=
  { gateway with
    table := [entry 0 (report 0x110412 3 1 130) .home .held, entry 127 (report 0x110484 5 2 900) .home .held]
    gw := { gateway.gw with queue := [0x110412, 0x110484] } }

/-- The state a command answers with. -/
def after (c : Instr) (s : State) : State :=
  match exec c s with
  | .next t => t
  | _ => s

/-- The station with this entry as the one the next merge step applies. -/
def hearing (s : State) (r : Report) (age hops : Nat) (malformed : Bool) : State :=
  { s with pair := { s.pair with
      merging := some { frame := { sender := 0x1105DC, rxTime := 1000, parts := .fill [⟨r, age, hops, malformed⟩] },
                        cursor := 0 } } }

/-- What `hearing` merges. -/
def heardFrame (r : Report) (age hops : Nat) (malformed : Bool) : Merging :=
  { frame := { sender := 0x1105DC, rxTime := 1000, parts := .fill [⟨r, age, hops, malformed⟩] }, cursor := 0 }

theorem hearsEntry_hearing (s : State) (r : Report) (age hops : Nat) (malformed : Bool) :
    (hearing s r age hops malformed).hearsEntry (heardFrame r age hops malformed) ⟨r, age, hops, malformed⟩ :=
  ⟨rfl, _, rfl, rfl⟩

/-- A frame record of the entries given. -/
def fillOf (es : List Entry) (probe : Bool) : FrameRec :=
  { key := 0x4284, payload := .fill (es.map Entry.freeze) probe }

/-- The station with this frame in STAGE in this condition and the engine in this state. -/
def staged (s : State) (f : FrameRec) (cond : StageCond) (state : EngineState) : State :=
  { s with sel := { s.sel with stage := some { frame := f, cond := cond } }, eng := { s.eng with state := state } }

/-- A 43-byte record: role, station id, kind, the two distances, the start sequence and the rest 0 (10.4). -/
def record (role id kind e f : Nat) : List Byte :=
  toBytes 1 role ++ toBytes 3 id ++ toBytes 1 kind ++ toBytes 2 e ++ toBytes 2 f ++ List.replicate 34 0

/-! ### WellFormed refuses each ill-formed term -/

theorem test_wellFormed_too_many_arguments : (Instr.readStatus (List.replicate 256 0)).wellFormed = false := by
  decide +kernel
theorem test_wellFormed_cut_short_at_the_end : (Instr.exportCutShort ⟨0, 32⟩).wellFormed = false := by decide
theorem test_wellFormed_unknown_code_is_known : (Instr.unknownCommand 0x51 []).wellFormed = false := by decide
theorem test_wellFormed_abandoned_before_effect :
    (Instr.transactionAbandoned (.inArgs 0x20 2 [0, 0])).wellFormed = false := by decide
theorem test_wellFormed_hunt_too_long : (Instr.openingMarkFound (List.replicate 251 true)).wellFormed = false := by
  decide +kernel
theorem test_wellFormed_frame_too_long :
    (Instr.goodFrame (List.replicate 880 true) true).wellFormed = false ∧
      (Instr.badFrame (List.replicate 880 true) true).wellFormed = false := by
  decide +kernel
theorem test_wellFormed_admits :
    (Instr.start (record 0 0x110184 1 1250 230)).wellFormed = true ∧ (Instr.exportCutShort ⟨25, 31⟩).wellFormed = true ∧
      (Instr.transactionAbandoned (.inArgs 0x20 255 (List.replicate 254 0))).wellFormed = true :=
  ⟨by decide, by decide, by decide +kernel⟩

/-! ### Worked examples of the manual -/

/-- R47, "Cases at the wrap and at half distance". -/
theorem test_serial :
    serial 0 65535 = .newer ∧ serial 65535 0 = .older ∧ serial 5 65530 = .newer ∧ serial 1 32768 = .older ∧
      serial 32768 1 = .newer ∧ serial 0 32768 = .unordered ∧ serial 32768 0 = .unordered ∧
      serial 32767 0 = .newer ∧ serial 32769 0 = .older ∧ serial 4242 4242 = .equal := by decide

/-- Section 2.7: the FILL keys of 17.01042 and 17.00388, the SOLICIT key and the DRAIN key of 17.61443. -/
theorem test_keys :
    fillKey 3 3803 0x110412 = 0xFB12 ∧ fillKey 1 130 0x110412 = 0x4212 ∧ fillKey 2 65535 0x110412 = 0xBF12 ∧
      fillKey 0 0 0x110184 = 0x0084 ∧ solicitKey 1 0x11F003 = 0x7F03 ∧ drainKey 0x11F003 = 0x0003 := by decide

/-- Section 1.3, "Stuffing a header": the 32 header bits go out as 35. -/
theorem test_stuffing_a_header :
    (stuffBytes .start [0x11, 0x11, 0x04, 0x12]).1.map List.length = [9, 8, 9, 9] ∧
      (stuffBytes .start [0x11, 0x11, 0x04, 0x12]).1.head? =
        some [false, false, false, true, true, false, false, false, true] := by decide

/-- R175: a record refused at field 5, and one refused at field 2. -/
theorem test_start_refused :
    (after (.start (record 0 0x110412 1 1250 1200)) up).port.sdo.drop 45 = [0x04, 0x05] ∧
      (after (.start (record 1 0x110412 1 1250 230)) up).port.sdo.drop 45 = [0x04, 0x02] := by decide

/-- R177: an accepted record makes the station RUNNING in DOZE, with nothing adjusted. -/
theorem test_start_runs :
    (after (.start (record 0 0x110412 1 1250 230)) up).running = true ∧
      (after (.start (record 0 0x110412 1 1250 230)) up).eng.state = .doze ∧
      (after (.start (record 0 0x110412 1 1250 230)) up).port.sdo.drop 45 = [0x00, 0x00] := by decide

/-- Section 10.4, "Refusals": the record with role 1 and station id 17.61443 is accepted. -/
theorem test_start_gateway : (after (.start (record 1 0x11F003 1 1250 1200)) up).port.sdo.drop 45 = [0x00, 0x00] := by
  decide

/-- Section 10.4, "An adjusted start": fields 6, 8, 12 and 14 are adjusted. -/
theorem test_start_adjusted :
    (after (.start (toBytes 1 0 ++ toBytes 3 0x110412 ++ toBytes 1 1 ++ toBytes 2 1250 ++ toBytes 2 230 ++
        toBytes 2 1000 ++ toBytes 2 300 ++ toBytes 2 200 ++ List.replicate 6 0 ++ toBytes 2 700 ++ toBytes 2 0 ++
        toBytes 2 12000 ++ List.replicate 16 0)) up).port.sdo.drop 45 = [0, 4, 6, 8, 12, 14] := by
  decide

/-- R168, R172, R173: READ_ENTRY in UNCONFIGURED returns the sync byte, the status byte, three zeros and STATE. -/
theorem test_state_refusal :
    (after (.readEntry [0x11, 0x04, 0x12]) up).port.sdo = [0x96, 0x00, 0, 0, 0, 0x01] := by decide

/-- R58: a lid sample moves only the lid-held count. -/
theorem test_lid_sample :
    (after (.postSample [0x03, 0x84, 0x04]) bin).est = { bin.est with lidHeld := 1 } := by decide

/-- R62: a range of the full distance is level 1000; the empty distance is level 0. -/
theorem test_levels :
    ((Estimator.reset.admitRange binCfg 0 230 false).1.figures.map (fun f => (f.level, f.overfull))) = some (1000, false) ∧
      ((Estimator.reset.admitRange binCfg 0 1250 false).1.figures.map (fun f => (f.level, f.overfull))) = some (0, false) ∧
      ((Estimator.reset.admitRange binCfg 0 229 false).1.figures.map (fun f => (f.level, f.overfull))) = some (1000, true) := by
  decide

/-- Section 7.4, "Preemption at work": a class 0 newcomer withdraws the frame led by a class 1 report. -/
theorem test_preemption :
    (staged binHolding (fillOf [near] false) .staged .awake).preempt [0] =
      { binHolding with sel := { binHolding.sel with build := none, stage := none } } := by decide

/-- Section 7.2: a bin station builds the class 1 report ahead of the class 2 one, under key 0x4284. -/
theorem test_build_order :
    binHolding.buildAll.sel.stage.map (fun x => (x.frame.key, x.frame.refs)) =
      some (0x4284, [(0x110412, 2), (0x110184, 71)]) := by decide

/-- R109, R113: a report heard at its own sequence raises the heard count; at the suppress count it is HELD. -/
theorem test_suppression :
    (after .mergeStep (hearing binHolding near.report 1 1 false)).table.map (fun e => (e.heard, e.owing)) =
      [(0, .owed), (1, .owed), (0, .held)] ∧
    (after .mergeStep (hearing { binHolding with table := [own, { near with heard := 1 }, far] } near.report 1 1 false)).table.map
        (fun e => (e.heard, e.owing)) =
      [(0, .owed), (2, .held), (0, .held)] := by decide

/-- R157, R158: the head of the queue is handed out, and drained when its last byte has gone. -/
theorem test_export :
    (after (.exportNext []) gatewayHolding).gw.inHand = some (0x110412, 3) ∧
      (after .exportNextCompletion (after (.exportNext []) gatewayHolding)).gw.queue = [0x110484] ∧
      (after .exportNextCompletion (after (.exportNext []) gatewayHolding)).gw.drainList = [⟨0x110412, 3, 0⟩] := by decide

/-- R168, R169, R171: SEL rising after the effect point with no byte clocked out leaves the sync byte and the status
byte, with two busy bytes out 0xFF for each; behind the one result byte the part returns 0x00. -/
theorem test_result_bytes_lost :
    (after (.transactionAbandoned (.afterEffect ⟨0, 0⟩)) (after (.rejoin []) bin)).port.sdo = [0x96, 0x81] ∧
      (after (.transactionAbandoned (.afterEffect ⟨2, 0⟩)) (after (.rejoin []) bin)).port.sdo = [0x96, 0x81, 0xFF, 0xFF] ∧
      (after (.transactionAbandoned (.afterEffect ⟨1, 3⟩)) (after (.rejoin []) bin)).port.sdo = [0x96, 0x81, 0xFF, 0x01, 0, 0] := by
  decide

/-- R21, R177: with the first bit of the body byte 0x11 out, the other seven and its stuffed bit follow, then eight
ones. -/
theorem test_abort_tail :
    abortTail (OnAir.sending [0x11, 0xFF]).units 9 =
      [false, false, true, true, false, false, false, true] ++ List.replicate 8 true := by decide

/-- R14: the bits behind a complete closing mark are not read. -/
theorem test_bits_behind_the_mark :
    takeBits Taking.start ([true, false] ++ markBits) = .closed [true, false] ∧
      takeBits Taking.start ([true, false] ++ markBits ++ [true]) = .closed [true, false] := by decide

/-- R142, R145: an unechoed outcome at 248 brings the send-failure count to 256 and makes the station MUTE. -/
theorem test_mute :
    (({ Monitor.reset with sendFailure := 248, standing := .quiet } : Monitor).outcome false true 60) =
      { sendFailure := 256, receptionFault := 0, standing := .mute, recovery := 0, armed := true, probeTimer := 60 } := by
  decide

/-- Section 2.8: the key 0x4212 keys slot 0 and listens in slot 1. -/
theorem test_slots :
    (FieldPart.contender 0x4212 true).keys 0 = true ∧ (FieldPart.contender 0x4212 true).keys 1 = false ∧
      (FieldPart.contender 0x4212 true).keys 16 = true ∧ (FieldPart.contender 0x0003 false).keys 16 = false := by decide

end Sys2Proof.Tests
end

