-- ==== Sys2Proof/Tests/Witnesses.lean ====
section
/-! SUPPORT. For every statement with hypotheses, a state and operands that meet them together, clause by clause, at the
ends of the ranges the clauses speak of. -/

namespace Sys2Proof.Tests

open Sys2Proof.Machine

/-- An accepted record of each role. -/
def binRecord : List Byte := record 0 0x110184 1 1250 230
def gatewayRecord : List Byte := record 1 0x11F003 0 0 0

/-- The station with this merging frame. -/
def merging (s : State) (parts : RxParts) : State :=
  { s with pair := { s.pair with merging := some { frame := { sender := 0x11F003, rxTime := 1000, parts := parts }, cursor := 0 } } }

/-! ### The step and the module port -/

theorem test_witness_StepRunsTheFrontCommand : State.reset.pending = [] := rfl

theorem test_witness_UnservedAndAbandoned :
    (∃ s : State, s.gw.inHand = none ∧ s.port.resultAt = some 5 ∧ 5 ≤ s.port.sdo.length) ∧
      (∃ s : State, s.gw.inHand = none ∧ s.port.resultAt = some 0 ∧ s.port.sdo.length = 0) ∧
      (∃ s : State, s.gw.inHand ≠ none ∧ s.port.resultAt = some 2 ∧ 2 ≤ s.port.sdo.length ∧ s.port.sdo.length = 2 + 32) ∧
      State.reset.port.ready = false ∧ (portRow (.exportNext [])).isSome = true ∧ (0x00 : Byte) ∉ commandCodes ∧
      (0xFF : Byte) ∉ commandCodes ∧ Abandon.inCode.wellFormed = true ∧ (Abandon.inCount 0x20).wellFormed = true ∧
      (Abandon.inArgs 0x20 1 []).wellFormed = true ∧ (Abandon.inArgs 0x20 3 [1, 2]).wellFormed = true :=
  ⟨⟨after (.readEntry [0x11, 0x04, 0x12]) up, by decide⟩,
    ⟨{ up with port := { up.port with resultAt := some 0 } }, by decide⟩,
    ⟨after (.exportNext []) gatewayHolding, by decide⟩, by decide⟩

theorem test_witness_PortChecksInOrder :
    (up.port.ready = true ∧ (0x99 : Byte) ∉ commandCodes) ∧
      (portRow (.start []) = some ⟨[], 43, true, none⟩ ∧ ([] : List Byte).length ≠ 43) ∧
      (portRow (.rejoin []) = some ⟨[], 0, false, none⟩ ∧ up.running = false) ∧
      (portRow (.exportNext []) = some ⟨[], 0, false, some .gateway⟩ ∧ bin.port.ready = true ∧ bin.running = true ∧
        some Role.gateway ≠ some bin.role) ∧
      (portRow (.exportNext []) = some ⟨[], 0, false, some .gateway⟩ ∧ gateway.port.ready = true ∧
        gateway.running = true ∧ some Role.gateway = some gateway.role) := by decide

theorem test_witness_StatusByteFields :
    (up.running = false ∧ up.clearedOk) ∧
      ({ up with config := some gatewayCfg } : State).running = false ∧
      ({ up with config := some gatewayCfg } : State).clearedOk ∧
      ∃ t, exec .hardReset bin = .next t :=
  ⟨by decide, by decide, by decide, _, rfl⟩

theorem test_witness_ReadStatusReturnsTheSnapshot : up.port.ready = true ∧
    gatewayHolding.port.ready = true := by decide

theorem test_witness_ReadOwnReturnsTheEstimator :
    bin.port.ready = true ∧ bin.running = true ∧ bin.role = .bin ∧ bin.est.figures = none ∧
      binHolding.port.ready = true ∧ binHolding.running = true ∧ binHolding.role = .bin ∧
      binHolding.est.figures ≠ none ∧
      binHolding.est.lastReport ≠ none := by decide

theorem test_witness_ReadEntryAndReadSlot :
    (up.port.ready = true ∧ up.running = false) ∧
      binHolding.port.ready = true ∧ binHolding.running = true ∧ tableWf binHolding.table ∧
      (own ∈ binHolding.table ∧ own.report.binId = (0x11 : Byte) ++ (0x01 : Byte) ++ (0x84 : Byte)) ∧
      (∀ e ∈ binHolding.table, e.report.binId ≠ (0x11 : Byte) ++ (0x04 : Byte) ++ (0x13 : Byte)) ∧
      (far ∈ binHolding.table ∧ far.position = (0x7F : Byte).toNat) ∧
      (∀ e ∈ binHolding.table, e.position ≠ (0x80 : Byte).toNat) ∧
      (∀ e ∈ binHolding.table, e.position ≠ (0xFF : Byte).toNat) := by decide

theorem test_witness_RejoinArmsRecovery :
    (up.port.ready = true ∧ up.running = false) ∧ (bin.port.ready = true ∧ bin.mon.standing ≠ .mute) ∧
      ∃ s : State, s.port.ready = true ∧ s.running = true ∧ s.mon.standing = .mute :=
  ⟨by decide, by decide, { bin with mon := { bin.mon with standing := .mute, sendFailure := 256 } }, by decide⟩

theorem test_witness_NoticeFlagsAndMaskCommands : bin.port.ready = true ∧ bin.running = true := by decide

/-! ### Station life -/

theorem test_witness_StartRefuses :
    (bin.port.ready = true ∧ binRecord.length = 43 ∧ bin.running = true) ∧ up.port.ready = true ∧ up.running = false ∧
      startFailure (record 2 0x110184 1 1250 230) = some 1 ∧ startFailure (record 0 0x11F000 1 1250 230) = some 2 ∧
      startFailure (record 1 0x11EFFF 1 1250 230) = some 2 ∧ startFailure (record 0 0x110184 4 1250 230) = some 3 ∧
      startFailure (record 0 0x110184 3 199 50) = some 4 ∧ startFailure (record 0 0x110184 3 4001 50) = some 4 ∧
      startFailure (record 0 0x110184 3 200 49) = some 5 ∧
      startFailure (record 0 0x110184 3 200 101) = some 5 := by decide

theorem test_witness_StartRuns :
    up.port.ready = true ∧ up.running = false ∧
      (binRecord.length = 43 ∧ startFailure binRecord = none ∧ fieldAt binRecord 0 1 = 0) ∧
      (gatewayRecord.length = 43 ∧ startFailure gatewayRecord = none ∧ fieldAt gatewayRecord 0 1 = 1) ∧
      up.eng.tail = [] ∧ ({ up with eng := { up.eng with tail := [true] } } : State).eng.tail ≠ [] := by decide

theorem test_witness_StartAppliesTheRecord :
    up.port.ready = true ∧ up.running = false ∧ binRecord.length = 43 ∧ startFailure binRecord = none ∧
      fieldAt binRecord 21 2 = 0 ∧
      ∃ r : List Byte, r.length = 43 ∧ startFailure r = none ∧ fieldAt r 21 2 = 375 ∧ fieldAt r 9 2 = 991 :=
  ⟨by decide, by decide, by decide, by decide, by decide,
    (binRecord.take 9 ++ [0x03, 0xDF] ++ (binRecord.drop 11).take 10 ++ [0x01, 0x77] ++ binRecord.drop 23), by decide⟩

/-- UNCONFIGURED with the own bin's report and a drained one retained. -/
def retaining : State :=
  { up with table := [{ own with origin := .home, owing := .held }, { far with owing := .drained }] }

theorem test_witness_StartPreparesTheTable :
    retaining.port.ready = true ∧ retaining.running = false ∧ tableWf retaining.table ∧ binRecord.length = 43 ∧
      startFailure binRecord = none ∧ (∃ e ∈ retaining.table, e.report.binId = 0x110184) ∧
      gatewayRecord.length = 43 ∧ startFailure gatewayRecord = none ∧
      (up.port.ready = true ∧ tableWf up.table ∧ ∀ e ∈ up.table, e.report.binId ≠ 0x110184) := by decide

theorem test_witness_RestartClears :
    (up.port.ready = true ∧ up.running = false) ∧ binHolding.port.ready = true ∧
    binHolding.running = true := by decide

/-- The bin station sending the body 0x11, 0xFF. -/
def sending : State :=
  { bin with eng := { bin.eng with state := .sending, key := true, onAir := some (.sending [0x11, 0xFF]) } }

theorem test_witness_RestartOnTheChannel :
    (bin.port.ready = true ∧ bin.running = true ∧ bin.eng.state ≠ .off ∧ bin.eng.state ≠ .sending) ∧
      (sending.port.ready = true ∧ sending.running = true ∧ sending.eng.state = .sending ∧
        sending.eng.onAir = some (.sending [0x11, 0xFF])) ∧
      (∃ unit rest, (OnAir.sending [0x11, 0xFF]).units = [] ++ unit :: rest ∧ unit.length = 8) ∧
      (∃ unit rest, (OnAir.sending [0x11, 0xFF]).units = [markBits] ++ unit :: rest ∧ [markBits].flatten.length < 9 ∧
        17 ≤ [markBits].flatten.length + unit.length) ∧
      ∃ s : State, s.eng.tail ≠ [] ∧ s.running = false ∧
      ({ s with running := true, config := some binCfg } : State).role = .bin ∧
        ({ s with running := true, config := some gatewayCfg } : State).role = .gateway :=
  ⟨by decide, by decide, ⟨_, _, rfl, by decide⟩, ⟨_, _, rfl, by decide, by decide⟩,
    { up with eng := { up.eng with tail := List.replicate 8 true } }, by decide⟩

theorem test_witness_ResetAndClock :
    State.reset.port.resetn = false ∧ up.port.resetn = true ∧
      (∃ s : State, s.port.resetn = true ∧ s.clock = 4294967294 ∧ s.clock < 4294967295) ∧
      ∃ s : State, s.clock = 4294967295 :=
  ⟨rfl, rfl, ⟨{ up with clock := 4294967294 }, by decide⟩, { up with clock := 4294967295 }, rfl⟩

/-- The near entry at the age limit, placed in a STAGED frame. -/
def aging : State :=
  staged { binHolding with table := [own, { near with placed := .stage, rxAge := 720 }, far], boundaryDue := true }
    (fillOf [near] false) .staged .awake

theorem test_witness_MinuteBoundaryAndRefill :
    (tableWf aging.table ∧ aging.running = true ∧ aging.boundaryDue = true ∧ aging.sel.stageCond = some .staged ∧
      ∃ e ∈ aging.table, e.origin ≠ .own ∧ aging.cfg.ageLimit = currentAge e.rxAge e.rxTime aging.clock ∧
        e.placed = .stage ∧ (e.report.binId, e.report.seq) ∈ (fillOf [near] false).refs) ∧
    (∃ s : State, s.boundaryDue = true ∧ s.running = false) ∧ (∃ s : State, s.boundaryDue = true ∧ s.running = true) ∧
      (bin.running = true ∧ bin.role = .bin ∧ bin.sel.refillCount < bin.cfg.refillInterval) ∧
      ∃ s : State, s.running = true ∧ s.role = .bin ∧ s.cfg.refillInterval = s.sel.refillCount :=
  ⟨by decide, ⟨{ up with boundaryDue := true }, by decide⟩, ⟨{ binHolding with boundaryDue := true }, by decide⟩, by decide,
    { bin with sel := { bin.sel with refillCount := 5 } }, by decide⟩

/-- The bin station MUTE with a probe due and its own entry overflowing. -/
def probing : State :=
  { bin with
    table := [{ own with report := { own.report with cls := 0, level := 1000, ttf := 0 } }],
    mon := { bin.mon with standing := .mute, sendFailure := 256 } }

theorem test_witness_ProbeTimerStagesTheProbe :
    probing.running = true ∧ probing.role = .bin ∧ probing.mon.standing = .mute ∧ probing.mon.probeTimer = 0 ∧
      probing.sel.build = none ∧ probing.sel.stage = none ∧
      ∃ e, probing.holds probing.cfg.stationId e ∧ e.owing = .owed ∧ e.placed = .unplaced ∧ e.report.cls = 0 :=
  ⟨by decide, by decide, by decide, by decide, by decide, by decide,
    { own with report := { own.report with cls := 0, level := 1000, ttf := 0 } },
    ⟨by decide, by decide, by decide⟩, by decide, by decide, by decide⟩

/-- The bin station MUTE with a probe due and no entry. -/
def probeDue : State := { bin with mon := { bin.mon with standing := .mute, sendFailure := 256 } }

/-- A full bin's sample is the last condition of the due probe: the frame newly staged is the OWN entry's. -/
theorem test_witness_ProbeAtASample :
    probeDue.probeBuilt ∧ probeDue.muteOk ∧ probeDue.tableOk ∧ probeDue.clearedOk ∧ probeDue.slotsOk ∧
      ∃ t f, exec (.postSample [0x00, 0xE6, 0]) probeDue = .next t ∧ t.running = true ∧ t.role = .bin ∧
        t.mon.standing = .mute ∧ t.sel.stage = some { frame := f, cond := .staged } ∧ probeDue.sel.stage = none :=
  ⟨fun _ _ _ _ _ _ _ _ he => absurd he List.not_mem_nil, fun _ _ _ => ⟨rfl, fun _ h => nomatch h⟩, by decide,
    by decide, by decide, _, _, rfl, by decide, by decide, by decide, rfl, rfl⟩

/-! ### The fill estimator -/

/-- The figures of the clauses: each window length, a level at each end and between, each class. -/
theorem test_witness_FiguresOfAnAdmittedSample :
    binCfg.fullDist < binCfg.emptyDist ∧
      ([[], [700], [700, 800], [700, 800, 900]].map (fun w =>
        (({ Estimator.reset with window := w } : Estimator).admitRange binCfg 0 740 false).1.figures.map (fun f => f.range))) =
        [some 740, some 740, some 740, some 800] ∧
      ((Estimator.reset.admitRange binCfg 0 231 false).1.figures.map (fun f => (f.level, f.ttf, f.cls.val))) =
        some (999, 65535, 2) ∧
      ((Estimator.reset.admitRange binCfg 0 230 false).1.figures.map (fun f => (f.level, f.ttf, f.cls.val))) = some (1000, 0, 0) ∧
      ((Estimator.reset.admitRange binCfg 0 1250 false).1.figures.map (fun f => (f.level, f.ttf, f.cls.val))) =
        some (0, 65535, 3) ∧
      ((({ Estimator.reset with rate := 2400, seeded := true, anchor := some (400, 0) } : Estimator).admitRange
        binCfg 30 650 false).1.figures.map (fun f => (f.level, f.ttf, f.cls.val))) = some (588, 164, 1) := by decide

theorem test_witness_RateStepMeasures :
    Estimator.reset.anchor = none ∧
      ∃ e : Estimator, e.anchor = some (100, 40) ∧ (40 ≤ 99 ∧ 99 - 40 < 60) ∧ (40 ≤ 100 ∧ 60 ≤ 100 - 40) ∧
      e.rate ≤ 65535 :=
  ⟨rfl, { Estimator.reset with anchor := some (100, 40) }, by decide⟩

theorem test_witness_SamplesAreTaken :
    Estimator.reset.window.length ≤ 3 ∧ binHolding.est.window.length ≤ 3 ∧
      (binHolding.est.admitRange binCfg 1000 1005 false).2 = true ∧
      (binHolding.est.admitRange binCfg 1000 740 false).2 = false ∧
      (binHolding.est.admitRange binCfg 1000 1005 true).2 = false := by decide

theorem test_witness_PostSampleReports :
    bin.port.ready = true ∧ bin.running = true ∧ bin.role = .bin ∧
      (bin.est.takeSample bin.cfg bin.clock 900 .plain).1.triggered bin.cfg bin.clock false = true ∧
      (tableWf bin.table ∧ (∀ x ∈ bin.table, x.report.binId ≠ bin.cfg.stationId) ∧ lowestFreeIs bin.table 0) ∧
      binHolding.holds binHolding.cfg.stationId own ∧
      (∃ s : State, s.sel.stageCond = some .staged ∧ s.holds s.cfg.stationId { own with placed := .stage } ∧
        own.report.seq ≠ s.est.nextSeq) ∧
      (binHolding.est.takeSample binHolding.cfg binHolding.clock 900 .plain).1.triggered binHolding.cfg binHolding.clock false =
        true ∧
      (binHolding.est.takeSample binHolding.cfg binHolding.clock 900 .lid).1.triggered binHolding.cfg binHolding.clock false =
        false :=
  ⟨by decide, by decide, by decide, by decide,
    ⟨by decide, by decide, by decide, by simp [bin, up, State.reset], by simp⟩,
    ⟨by decide, by decide, by decide⟩,
    ⟨staged { binHolding with table := [{ own with placed := .stage }, near, far] } (fillOf [own] false) .staged .awake,
      by decide, ⟨by decide, by decide, by decide⟩, by decide⟩, by decide, by decide⟩

/-! ### The gateway unit -/

theorem test_witness_SolicitMakesAPendingSolicit :
    gateway.port.ready = true ∧ gateway.running = true ∧ gateway.role = .gateway ∧ gateway.gw.solicit = none ∧
      gateway.sel.build = none ∧ gateway.sel.stage = none ∧ gateway.gw.drainList = [] ∧
      gateway.mon.standing = .active ∧
      (after (.solicit [0x11, 0, 0, 0, 0xFF, 0xFF, 1]) gateway).gw.solicit ≠ none := by decide

theorem test_witness_ExportNextHandsOutTheHead :
    (gateway.port.ready = true ∧ gateway.running = true ∧ gateway.role = .gateway ∧ gateway.gw.queue = []) ∧
      (gatewayHolding.port.ready = true ∧ gatewayHolding.running = true ∧ gatewayHolding.role = .gateway) ∧
      gatewayHolding.gw.queue = [0x110412, 0x110484] ∧
      gatewayHolding.holds 0x110412 (entry 0 (report 0x110412 3 1 130) .home .held) ∧
      (after (.exportNext []) gatewayHolding).gw.inHand = some (0x110412, 3) ∧
      (after (.exportNext []) gatewayHolding).port.resultAt = some 2 ∧
      2 + 31 < (after (.exportNext []) gatewayHolding).port.sdo.length :=
  ⟨by decide, by decide, by decide, ⟨by decide, by decide, by decide⟩, by decide, by decide, by decide⟩

/-- The gateway with its first report handed out and this drain list. -/
def delivering (l : List DrainItem) : State :=
  { gatewayHolding with gw := { gatewayHolding.gw with inHand := some (0x110412, 3), drainList := l } }

/-- Seven items of other bins. -/
def sevenItems : List DrainItem := (List.range 7).map (fun n => ⟨BitVec.ofNat 24 (0x110001 + n), 1, 0⟩)

theorem test_witness_ExportCompletes :
    ((delivering []).gw.inHand = some (0x110412, 3) ∧ tableWf (delivering []).table ∧
        (after (.exportNext []) gatewayHolding).port.resultAt = some 2) ∧
      ((delivering []).holds 0x110412 (entry 0 (report 0x110412 3 1 130) .home .held)) ∧
      (∃ s : State, s.gw.inHand = some (0x110412, 4) ∧ tableWf s.table ∧
        ∀ e ∈ s.table, e.report.binId = 0x110412 → e.report.seq ≠ 4) ∧
      ((delivering []).running = true ∧ (delivering []).role = .gateway ∧ (delivering []).mon.standing ≠ .mute ∧
        (after .exportNextCompletion (delivering [])).gw.drainList ≠ (delivering []).gw.drainList ∧
        (∀ f ∈ (delivering []).sel.frames, f.isFill = false) ∧ (delivering []).sel.stage = none ∧
        (delivering []).sel.build = none) ∧
      ((∀ i ∈ sevenItems, i.binId ≠ 0x110412) ∧ sevenItems.length = 7) ∧
      (∀ i ∈ (⟨0x120001, 1, 0⟩ : DrainItem) :: sevenItems, i.binId ≠ 0x110412) ∧
      ((delivering (sevenItems ++ [⟨0x110412, 2, 2⟩])).gw.drainList = sevenItems ++ ⟨0x110412, 2, 2⟩ :: [] ∧
        ((sevenItems ++ [(⟨0x110412, 2, 2⟩ : DrainItem)]).map (fun x => x.binId)).Nodup) :=
  ⟨by decide, ⟨by decide, by decide, by decide⟩,
    ⟨{ gatewayHolding with gw := { gatewayHolding.gw with inHand := some (0x110412, 4) } }, by decide⟩,
    by decide, by decide, by decide, by decide⟩

/-! ### The channel engine and the field -/

theorem test_witness_EligibilityTable :
    (staged bin (fillOf [near] false) .staged .awake).sel.stage = some { frame := fillOf [near] false, cond := .staged } ∧
      (fillOf [near] false).payload = .fill [near.freeze] false ∧
      (staged bin (fillOf [near] false) .staged .awake).stageEligible = true ∧
      (staged gateway ⟨3, .drain [(0x110412, 3)]⟩ .staged .awake).stageEligible = true ∧
      (staged gateway ⟨0x7F03, .solicit ⟨0x110000, 0xFFFF, 1⟩ 0⟩ .staged .awake).stageEligible = true := by decide

/-- The bin station in this engine state, with nothing staged. -/
def engineIn (state : EngineState) : State := { bin with eng := { bin.eng with state := state } }

theorem test_witness_DozeSampleAndLinger :
    (∃ s : State, s.eng.state = .doze ∧ s.eng.listen = some 1000) ∧
      ((engineIn .sample).eng.state = .sample ∧ (engineIn .sample).role = .bin ∧
      (engineIn .sample).stageEligible = false) ∧
      (staged bin (fillOf [near] false) .staged .sample).stageEligible = true ∧
      (bin.eng.linger = some 2000 ∧ bin.eng.state = .awake ∧ bin.eng.carrier = false ∧ bin.role = .bin ∧
        bin.stageEligible = false ∧ bin.eng.watch.recognised = false) ∧
      ((engineIn .echoing).eng.linger = some 2000 ∧ (engineIn .echoing).eng.state ≠ .awake) ∧
      ((staged bin (fillOf [near] false) .staged .awake).stageEligible = true ∧ bin.eng.idleGap < 8) :=
  ⟨⟨{ bin with eng := { bin.eng with state := .doze, listen := some 1000 } }, by decide⟩, by decide, by decide, by decide,
    by decide, by decide⟩

/-- The same station with a carrier it has watched, recognised as a preamble or not. -/
def watching (s : State) (recognised : Bool) : State :=
  { s with eng := { s.eng with carrier := true, watch := { running := true, plain := 0, recognised := recognised } } }

/-- The bin station AWAKE with its linger run out. -/
def lingered : State := { bin with eng := { bin.eng with linger := none, lingerExpired := true } }

theorem test_witness_CarrierWatchAndFall :
    (bin.eng.state = .awake ∧ bin.eng.carrier = false) ∧
      ((watching bin false).eng.state = .awake ∧ (watching bin false).eng.watch.running = true ∧
        (watching bin false).eng.carrier = true ∧ (watching bin false).eng.watch.recognised = false ∧
        (watching bin false).eng.lingerExpired = false ∧ (watching bin false).stageEligible = false) ∧
      ((watching lingered false).eng.state = .awake ∧ (watching lingered false).eng.carrier = true ∧
        (watching lingered false).eng.lingerExpired = true ∧ (watching lingered false).stageEligible = false ∧
        (watching lingered false).role = .bin) ∧
      (watching (staged lingered (fillOf [near] false) .staged .awake) false).stageEligible = true ∧
      ((watching bin true).eng.watch.recognised = true ∧ (watching bin true).sel.stage = none) ∧
      ((watching (staged bin (fillOf [near] false) .staged .awake) true).stageEligible = true) ∧
      (watching (staged { bin with mon := { bin.mon with standing := .quiet, sendFailure := 128 } }
        (fillOf [{ near with report := { near.report with cls := 1 } }] false) .staged .awake) true).stageEligible = false := by
  decide

theorem test_witness_IdleGapAndWakeLength :
    (bin.eng.state = .awake ∧ bin.eng.carrier = false ∧ bin.stageEligible = false ∧ bin.eng.lingerExpired = false) ∧
      (staged bin (fillOf [near] false) .staged .awake).stageEligible = true ∧
      (∃ s : State, s.eng.state = .waking ∧ s.eng.key = true ∧
        s.sel.stage = some { frame := fillOf [near] false, cond := .committed }) ∧
      ∃ s : State, s.eng.state = .waking ∧ s.eng.key = false ∧
        s.sel.stage = some { frame := fillOf [near] false, cond := .committed } :=
  ⟨by decide, by decide,
    ⟨{ staged bin (fillOf [near] false) .committed .waking with
        eng := { bin.eng with state := .waking, key := true } }, by decide⟩,
    staged bin (fillOf [near] false) .committed .waking, by decide⟩

/-- The bin station in WAKING after its preamble with its own and a near report committed. -/
def capped : State := staged binHolding (fillOf [near, own] false) .committed .waking

theorem test_witness_WakingCapReportsLost :
    capped.eng.state = .waking ∧ capped.eng.key = false ∧
      capped.sel.stage = some { frame := fillOf [near, own] false, cond := .committed } ∧ capped.role = .bin ∧
      capped.running = true ∧ capped.mon.standing = .active ∧ 1 ≤ capped.sel.allowance ∧
      (∀ c ∈ [near.freeze, own.freeze], ∃ e ∈ capped.table,
        e.report.binId = c.report.binId ∧ e.report.seq = c.report.seq ∧ e.owing = .owed) ∧
      ∀ e ∈ capped.table, e.owing = .owed → e.placed = .unplaced → near.freeze.report.cls ≤ e.report.cls := by decide

/-- A gateway in WAKING with this frame committed, this drain list and this pending solicit. -/
def gatewayCapped (f : FrameRec) (l : List DrainItem) (p : Option PendingSolicit) : State :=
  { staged gateway f .committed .waking with gw := { gateway.gw with drainList := l, solicit := p } }

def drainRec : FrameRec := ⟨3, .drain [(0x110412, 3)]⟩
def solicitRec : FrameRec := ⟨0x7F03, .solicit ⟨0x110000, 0xFFFF, 1⟩ 0⟩

/-- The other cases of the withdrawal check: an entry gone, one more urgent than the lead, a DRAIN frame with its item
listed, not listed, and one item more listed, and a SOLICIT frame of the pending solicit and of another. -/
theorem test_witness_checkedAtLoss :
    (∃ s : State, s.sel.stage = some { frame := fillOf [near, own] false, cond := .committed } ∧ s.role = .bin ∧
      ∀ e ∈ s.table, e.report.binId = 0x110412 → e.report.seq = 2 → e.owing ≠ .owed) ∧
      (∃ s : State, s.sel.stage = some { frame := fillOf [own] false, cond := .committed } ∧
        ∃ e ∈ s.table, e.owing = .owed ∧ e.placed = .unplaced ∧ e.report.cls < own.report.cls) ∧
      ((gatewayCapped drainRec [⟨0x110412, 3, 0⟩] none).sel.stage = some { frame := drainRec, cond := .committed } ∧
        drainRec.payload = .drain [(0x110412, 3)] ∧ gateway.running = true ∧ gateway.role = .gateway ∧
        gateway.mon.standing ≠ .mute) ∧
      (∀ x ∈ (gatewayCapped drainRec [⟨0x110412, 4, 0⟩] none).gw.drainList, (x.binId, x.seq) ≠ ((0x110412, 3) : BinId × Seq)) ∧
      ¬ (gatewayCapped drainRec [⟨0x110412, 3, 0⟩, ⟨0x110484, 5, 0⟩] none).sel.announces ⟨0x110484, 5, 0⟩ ∧
      ((gatewayCapped solicitRec [] (some ⟨0x110000, 0xFFFF, 1, 0, 0⟩)).sel.stage =
          some { frame := solicitRec, cond := .committed } ∧ solicitRec.payload = .solicit ⟨0x110000, 0xFFFF, 1⟩ 0) ∧
      ∀ p, (gatewayCapped solicitRec [] (some ⟨0x110000, 0xFFFF, 1, 0, 1⟩)).gw.solicit = some p → p.serial ≠ 0 :=
  ⟨⟨{ capped with table := [own, { near with owing := .held }, far] }, by decide⟩,
    ⟨staged binHolding (fillOf [own] false) .committed .waking, rfl, near, by decide⟩, by decide, by decide,
    fun ⟨f, hf, items, h, hi⟩ => by
      simp [gatewayCapped, staged, Selector.frames, gateway, up, State.reset, Selector.reset] at hf
      subst hf
      simp [drainRec] at h
      subst h
      simp at hi, by decide,
    fun p h => by cases h; decide⟩

/-- The bin station in WAKING after its preamble in this standing and allowance, with a frame of these entries. -/
def cappedIn (standing : Standing) (allowance : Nat) (es : List Entry) (probe : Bool) : State :=
  let s := staged binHolding (fillOf es probe) .committed .waking
  { s with mon := { s.mon with standing := standing }, sel := { s.sel with allowance := allowance } }

/-- The FILL cases in every standing: an exempt lead in QUIET and at allowance 0 and a probe in MUTE stay eligible; a
near lead in QUIET does not, with the own entry admitted or with nothing admitted. -/
theorem test_witness_checkedAtLoss_standings :
    ((cappedIn .quiet 0 [own] false).eligible (fillOf [own] false) = true ∧ (cappedIn .active 0 [own] false).eligible (fillOf [own] false) = true ∧
        (cappedIn .mute 0 [own] true).eligible (fillOf [own] true) = true) ∧
      ((cappedIn .quiet 12 [near] false).eligible (fillOf [near] false) = false ∧
        (∃ e ∈ (cappedIn .quiet 12 [near] false).table, (cappedIn .quiet 12 [near] false).mayFill e)) ∧
      ((cappedIn .active 0 [near] false).eligible (fillOf [near] false) = false ∧
        ∀ e ∈ [near, far], ¬ ({ cappedIn .active 0 [near] false with table := [near, far] } : State).mayFill e) ∧
      ∀ standing allowance, (cappedIn standing allowance [near] false).sel.stage =
          some { frame := fillOf [near] false, cond := .committed } ∧ (cappedIn standing allowance [near] false).running = true ∧
        (cappedIn standing allowance [near] false).role = .bin :=
  ⟨by decide, ⟨by decide, own, by decide, rfl, rfl, by decide, .inl rfl⟩, ⟨by decide, fun e he h => by
    have hp : ∀ e ∈ [near, far], e.owing = .owed → e.origin ≠ .own ∧ e.report.cls ≠ 0 := by decide
    have := hp e he h.1
    rcases h.2.2.2 with h' | h' | h'
    · exact this.1 h'
    · exact this.2 h'
    · exact absurd h'.2 (by decide)⟩, fun _ _ => ⟨rfl, rfl, rfl⟩⟩

/-- The bin station in a field with this many slots begun, contending with its committed frame. -/
def contending (slot : Nat) : State :=
  { staged binHolding (fillOf [near] false) .committed .field with
    eng := { bin.eng with state := .field, slot := slot, part := .contender 0x4284 true } }

theorem test_witness_FieldSlotsAndLoss :
    ((contending 0).eng.state = .field ∧ (contending 0).eng.slot ≤ 16 ∧ (contending 16).eng.slot = 16) ∧
      ((contending 1).eng.part.keys 1 = false ∧ (contending 0).eng.part.keys 0 = true) ∧
      ((contending 1).eng.part = .contender 0x4284 true ∧ 1 ≤ (contending 1).eng.slot ∧
      (contending 1).eng.key = false) ∧
      ((contending 17).eng.slot = 17 ∧ (contending 17).sel.stageCond = some .committed) ∧
      ((contending 1).sel.stage = some { frame := fillOf [near] false, cond := .committed } ∧
        (contending 1).running = true ∧ (contending 1).role = .bin ∧ (contending 1).mon.standing = .active ∧
        1 ≤ (contending 1).sel.allowance) ∧
      (∃ s : State, s.eng.state = .field ∧ s.eng.slot = 16 ∧ s.eng.part = .listener) ∧
      ∃ s : State, s.eng.state = .field ∧ s.eng.slot = 16 ∧ s.eng.part = .lost :=
  ⟨by decide, by decide, by decide, by decide, by decide,
    ⟨{ bin with eng := { bin.eng with state := .field, slot := 16 } }, by decide⟩,
    { bin with eng := { bin.eng with state := .field, slot := 16, part := .lost } }, by decide⟩

theorem test_witness_FieldEndAndClosingMark :
    ((contending 17).eng.state = .field ∧ (contending 17).eng.slot = 17 ∧
    (contending 17).eng.part = .contender 0x4284 true ∧
        (contending 17).sel.stage = some { frame := fillOf [near] false, cond := .committed }) ∧
      (∃ s : State, s.eng.state = .field ∧ s.eng.slot = 17 ∧ s.eng.part = .listener) ∧ sending.eng.state = .sending :=
  ⟨by decide, ⟨{ bin with eng := { bin.eng with state := .field, slot := 17 } }, by decide⟩, by decide⟩

/-- The bin station in RECEIVING with its linger run out. -/
def receivingPastLinger : State := { lingered with eng := { lingered.eng with state := .receiving } }

theorem test_witness_MarkHunt :
    ((engineIn .receiving).eng.state = .receiving ∧ (engineIn .receiving).eng.onAir = none ∧
        (engineIn .receiving).eng.lingerExpired = false ∧ (engineIn .receiving).stageEligible = false) ∧
      ((staged lingered (fillOf [near] false) .staged .receiving).stageEligible = true ∧
        (staged lingered (fillOf [near] false) .staged .receiving).eng.lingerExpired = true) ∧
      ((receivingPastLinger.eng.state = .receiving ∧ receivingPastLinger.eng.onAir = none ∧
        receivingPastLinger.eng.lingerExpired = true) ∧ receivingPastLinger.stageEligible = false ∧
        receivingPastLinger.role = .bin) ∧
      (∃ before, markBits = before ++ markBits) ∧ (∀ before, [true, false] ≠ before ++ markBits) :=
  ⟨by decide, by decide, by decide, ⟨[], rfl⟩, fun before h => by
    have := congrArg List.length h
    simp [markBits] at this⟩

/-! ### Frames taken and their outcomes -/

/-- A DRAIN frame of one item. -/
def drainFrame (sender : BinId) : RxFrame := { sender := sender, rxTime := 1000, parts := .drain [⟨0x110412, 2, false⟩] }

/-- The bits of a frame as a receiver takes them. -/
def bitsTaken (f : RxFrame) : List Bool := ((channelUnits (f.bodyBytes ++ crcBytes f.bodyBytes)).drop 1).flatten

/-- The bin station taking a body after a field whose kind slot was silent. -/
def takingBody : State :=
  { binHolding with eng := { bin.eng with state := .receiving, onAir := some .taking, kindObs := some false } }

/-- The bin station MUTE with recovery one good frame away, taking a body while its probe stands STAGED. -/
def recovering : State :=
  { takingBody with
    mon := { bin.mon with standing := .mute, sendFailure := 256, armed := true, recovery := 127 },
    sel := { bin.sel with stage := some { frame := fillOf [own] true, cond := .staged } } }

theorem test_witness_GoodFrameIsHandedOver :
    (recovering.eng.state = .receiving ∧ recovering.eng.onAir = takingBody.eng.onAir ∧
      recovering.eng.kindObs = takingBody.eng.kindObs ∧ recovering.clock = takingBody.clock ∧
      (recovering.mon.good false).standing ≠ recovering.mon.standing ∧
      recovering.sel.stage = some { frame := fillOf [own] true, cond := .staged } ∧
      (fillOf [own] true).payload = .fill [own.freeze] true ∧ own.freeze.origin = .own) ∧
    takingBody.eng.state = .receiving ∧ takingBody.eng.onAir ≠ none ∧
      judge (bitsTaken (drainFrame 0x11F003)) takingBody.eng.kindObs takingBody.clock = .good (drainFrame 0x11F003) ∧
      (drainFrame 0x11F003).sender ≠ takingBody.cfg.stationId ∧
      judge (bitsTaken (drainFrame 0x110184)) takingBody.eng.kindObs takingBody.clock = .good (drainFrame 0x110184) ∧
      (drainFrame 0x110184).sender = takingBody.cfg.stationId := by decide +kernel

theorem test_witness_BadFrameAndEchoSlotEnd :
    (takingBody.eng.state = .receiving ∧ takingBody.eng.onAir ≠ none ∧
        judge (List.replicate 7 true) takingBody.eng.kindObs takingBody.clock = .bad) ∧
      judge [true, false] takingBody.eng.kindObs takingBody.clock = .unfinished ∧
      (engineIn .echoing).eng.state = .echoing ∧
      (∃ m : Monitor, m.bad.standing ≠ m.standing ∧ m.receptionFault = 127) ∧
      judge (bitsTaken (drainFrame 0x11F003)) takingBody.eng.kindObs takingBody.clock = .good (drainFrame 0x11F003) :=
  ⟨by decide, by decide, by decide, ⟨{ Monitor.reset with receptionFault := 127 }, by decide⟩, by decide +kernel⟩

/-- The bin station awaiting the echo of its near report, with its own report BUILT and this send-failure count. -/
def awaiting (sendFailure : Nat) : State :=
  { binHolding with
    table := [{ own with placed := .build }, { near with placed := .stage }, far], eng := { bin.eng with state := .awaitEcho },
    mon := { bin.mon with sendFailure := sendFailure, standing := if 127 < sendFailure then .quiet else .active },
    sel := { bin.sel with stage := some { frame := fillOf [near] false, cond := .sending }, build := some (fillOf [own] false) } }

theorem test_witness_EchoOutcomeIsApplied :
    ((awaiting 0).eng.state = .awaitEcho ∧ tableWf (awaiting 0).table ∧ (awaiting 0).sel.build = some (fillOf [own] false) ∧
        (fillOf [own] false).isSolicit = false ∧ (fillOf [near] false).isDrain = false ∧
        (awaiting 0).eligible (fillOf [own] false) = true ∧
        (after (.awaitEchoEnd true false true) (awaiting 0)).mon.standing ≠ .mute ∧
        (after (.awaitEchoEnd true false true) (awaiting 0)).eligible (fillOf [own] false) = true ∧
        ∃ e ∈ (awaiting 0).table, e.placed = .build ∧ (e.report.binId, e.report.seq) ∉ (fillOf [near] false).refs) ∧
      ((awaiting 248).mon.standing ≠ .mute ∧
        (after (.awaitEchoEnd false false true) (awaiting 248)).mon.standing = .mute ∧ (awaiting 248).cfg.probeInterval ≠ 0) ∧
      (∃ s : State, s.eng.state = .awaitEcho ∧
        s.sel.stage = some { frame := drainRec, cond := .sending } ∧ s.running = true ∧ s.role = .gateway ∧
        s.mon.standing ≠ .mute ∧ (after (.awaitEchoEnd true false true) s).mon.standing ≠ .mute ∧
        (after (.awaitEchoEnd true false true) s).gw.drainList ≠ s.gw.drainList ∧ ∀ g ∈ s.sel.frames, g.isFill = false) ∧
    ((staged binHolding (fillOf [near, own] false) .sending .awaitEcho).eng.state = .awaitEcho ∧
        (staged binHolding (fillOf [near, own] false) .sending .awaitEcho).sel.stage =
          some { frame := fillOf [near, own] false, cond := .sending } ∧ tableWf binHolding.table) ∧
      (fillOf [near, own] false).payload = .fill [near.freeze, own.freeze] false ∧
      (∃ s : State, s.eng.state = .awaitEcho ∧
      s.sel.stage = some { frame := ⟨3, .drain [(0x110412, 3)]⟩, cond := .sending } ∧
        s.gw.drainList = [⟨0x110412, 3, 2⟩] ∧ s.gw.drainDrop = 65535 ∧ tableWf s.table) ∧
      ∃ s : State, s.eng.state = .awaitEcho ∧
        s.sel.stage = some { frame := ⟨0x7F03, .solicit ⟨0x110000, 0xFFFF, 1⟩ 0⟩, cond := .sending } ∧
        s.gw.solicit = some ⟨0x110000, 0xFFFF, 1, 2, 0⟩ ∧ tableWf s.table :=
  ⟨by decide, by decide,
    ⟨{ staged gateway drainRec .sending .awaitEcho with
        gw := { gateway.gw with drainList := [⟨0x110412, 3, 0⟩, ⟨0x110484, 5, 0⟩] } }, by decide⟩, by decide, by decide,
    ⟨{ staged gateway ⟨3, .drain [(0x110412, 3)]⟩ .sending .awaitEcho with
        gw := { gateway.gw with drainList := [⟨0x110412, 3, 2⟩], drainDrop := 65535 } }, by decide⟩,
    { staged gateway ⟨0x7F03, .solicit ⟨0x110000, 0xFFFF, 1⟩ 0⟩ .sending .awaitEcho with
        gw := { gateway.gw with solicit := some ⟨0x110000, 0xFFFF, 1, 2, 0⟩ } }, by decide⟩

/-! ### The standing monitor -/

theorem test_witness_MonitorArithmetic :
    (∃ m : Monitor, m.standing ≠ .mute ∧ m.sendFailure + 8 = 255) ∧
      (∃ m : Monitor, m.standing ≠ .mute ∧ m.sendFailure + 8 = 256 ∧ 127 < m.receptionFault) ∧
      (∃ m : Monitor, m.standing = .mute ∧ m.armed = false) ∧
      (∃ m : Monitor, m.standing = .mute ∧ m.armed = true ∧ m.recovery + 1 = 127) ∧
      ∃ m : Monitor, m.standing = .mute ∧ m.armed = true ∧ m.recovery + 1 = 128 :=
  ⟨⟨{ Monitor.reset with sendFailure := 247, standing := .quiet }, by decide⟩,
    ⟨{ Monitor.reset with sendFailure := 248, receptionFault := 128, standing := .quiet }, by decide⟩,
    ⟨{ Monitor.reset with sendFailure := 256, standing := .mute }, by decide⟩,
    ⟨{ Monitor.reset with sendFailure := 256, standing := .mute, armed := true, recovery := 126 }, by decide⟩,
    { Monitor.reset with sendFailure := 256, standing := .mute, armed := true, recovery := 127 }, by decide⟩

/-! ### Merging -/

/-- The station hears this report of the near bin, at this sequence. -/
def hearsNear (s : State) (seq : Seq) : State := hearing s (report 0x110412 seq 1 130) 1 1 false

/-- What the statements about a report of a held bin ask of the station, for this sequence. -/
def HearsHeldBin (s : State) (seq : Seq) : Prop :=
  (hearsNear s seq).hearsEntry (heardFrame (report 0x110412 seq 1 130) 1 1 false) ⟨report 0x110412 seq 1 130, 1, 1, false⟩ ∧
    (hearsNear s seq).running = true ∧ ∃ e, (hearsNear s seq).holds 0x110412 e ∧ e.report.seq = 2

/-- The bin station with the near entry HELD. -/
def nearHeld : State := { binHolding with table := [own, { near with owing := .held }, far] }

theorem test_witness_HearingAgainSuppressesOrRepairs :
    ((∀ seq : Seq, (hearing bin (report 0x110184 seq 2 1200) 1 1 false).hearsEntry
        (heardFrame (report 0x110184 seq 2 1200) 1 1 false) ⟨report 0x110184 seq 2 1200, 1, 1, false⟩) ∧
      bin.running = true ∧ bin.role = .bin ∧ bin.cfg.stationId = 0x110184 ∧
      (∀ e ∈ bin.table, e.report.binId ≠ bin.cfg.stationId) ∧ ((0xFFFF : Seq) - (bin.est.nextSeq - 1)).toNat = 0 ∧
      ((0x7FFF : Seq) - (bin.est.nextSeq - 1)).toNat = 32768 ∧ ((0xFFFE : Seq) - (bin.est.nextSeq - 1)).toNat = 65535) ∧
    (HearsHeldBin binHolding 2 ∧ ((2 : Seq) - 2).toNat = 0 ∧ near.owing = .owed) ∧
      (HearsHeldBin nearHeld 1 ∧ 32768 < ((1 : Seq) - 2).toNat ∧ near.sent < binCfg.sendLimit ∧
      near.hops < binCfg.hopLimit) ∧
      (HearsHeldBin nearHeld 32771 ∧ ((32771 : Seq) - 2).toNat = 32769) ∧
      (HearsHeldBin nearHeld 32770 ∧ ((32770 : Seq) - 2).toNat = 32768) ∧
      (hearing binHolding (report 0x110184 71 2 1200) 1 1 false).holds 0x110184 own ∧
      ((71 : Seq) - (binHolding.est.nextSeq - 1)).toNat = 0 :=
  ⟨⟨fun _ => hearsEntry_hearing .., by decide⟩, ⟨⟨hearsEntry_hearing .., by decide, near, ⟨by decide, by decide, by decide⟩, by decide⟩, by decide, by decide⟩,
    ⟨⟨hearsEntry_hearing .., by decide, { near with owing := .held }, ⟨by decide, by decide, by decide⟩, by decide⟩, by decide,
      by decide, by decide⟩,
    ⟨⟨hearsEntry_hearing .., by decide, { near with owing := .held }, ⟨by decide, by decide, by decide⟩, by decide⟩, by decide⟩,
    ⟨⟨hearsEntry_hearing .., by decide, { near with owing := .held }, ⟨by decide, by decide, by decide⟩, by decide⟩, by decide⟩,
    ⟨by decide, by decide, by decide⟩, by decide⟩

theorem test_witness_NewerReportSupersedes :
    HearsHeldBin binHolding 3 ∧ 1 ≤ ((3 : Seq) - 2).toNat ∧
      HearsHeldBin binHolding 32769 ∧ ((32769 : Seq) - 2).toNat = 32767 ∧
      (0x110412 : BinId) ≠ binHolding.cfg.stationId ∧
      (∃ m r, (hearsNear gatewayHolding 4).hearsEntry m r ∧ (hearsNear gatewayHolding 4).role = .gateway ∧
        (hearsNear gatewayHolding 4).holds 0x110412 (entry 0 (report 0x110412 3 1 130) .home .held)) ∧
      ∃ s : State, s.sel.stageCond = some .staged ∧ (hearsNear s 3).holds 0x110412 { near with placed := .stage } ∧
        s.running = true ∧ s.cfg.stationId ≠ 0x110412 :=
  ⟨⟨hearsEntry_hearing .., by decide, near, ⟨by decide, by decide, by decide⟩, by decide⟩, by decide,
    ⟨hearsEntry_hearing .., by decide, near, ⟨by decide, by decide, by decide⟩, by decide⟩, by decide, by decide,
    ⟨_, _, hearsEntry_hearing .., by decide, ⟨by decide, by decide, by decide⟩⟩,
    staged { binHolding with table := [own, { near with placed := .stage }, far] } (fillOf [near] false) .staged .awake,
      by decide, ⟨by decide, by decide, by decide⟩, by decide, by decide⟩

theorem test_witness_SequenceJumpIssues :
    (∀ seq : Seq, ∃ m r, (hearing binHolding (report 0x110184 seq 2 1200) 1 1 false).hearsEntry m r ∧
    r.malformed = false ∧
        r.report.binId = binHolding.cfg.stationId ∧ r.report.seq = seq) ∧
      binHolding.running = true ∧ binHolding.role = .bin ∧
      ((72 : Seq) - (binHolding.est.nextSeq - 1)).toNat = 1 ∧
      ((32838 : Seq) - (binHolding.est.nextSeq - 1)).toNat = 32767 ∧
      binHolding.est.figures = some ⟨740, 500, false, 1200, 2⟩ ∧ binHolding.holds binHolding.cfg.stationId own ∧
      (bin.est.figures = none ∧ ((0x0001 : Seq) - (bin.est.nextSeq - 1)).toNat = 2) :=
  ⟨fun _ => ⟨_, _, hearsEntry_hearing .., rfl, rfl, rfl⟩, by decide, by decide, by decide, by decide, by decide,
    ⟨by decide, by decide, by decide⟩, by decide⟩

/-- A full table of passing reports, all of this state. -/
def fullTable (owing : Owing) (placed : Placement) : List Entry :=
  (List.range 128).map (fun n =>
    { entry n (report (BitVec.ofNat 24 (0x120001 + n)) 1 3 65535) .passing owing with placed := placed })

/-- The bin station with that table. -/
def binFull (placed : Placement) : State := { bin with table := fullTable .held placed }

theorem test_witness_AbsentBinIsInserted :
    (∀ s : State, ∃ m r, (hearsNear s 3).hearsEntry m r ∧ r.malformed = false ∧ r.report.binId = 0x110412 ∧
    r.age = 1) ∧
      (bin.running = true ∧ (0x110412 : BinId) ≠ bin.cfg.stationId ∧ tableWf bin.table ∧
        (∀ e ∈ bin.table, e.report.binId ≠ 0x110412) ∧ bin.cfg.matchesHome 0x110412 ∧ lowestFreeIs bin.table 0) ∧
      ¬ bin.cfg.matchesHome 0x120412 ∧
      (currentAge 719 1000 1000 < bin.cfg.ageLimit ∧ bin.cfg.ageLimit ≤ currentAge 720 1000 1000) ∧
      (tableWf (fullTable .held .unplaced) ∧ (∀ e ∈ fullTable .held .unplaced, e.report.binId ≠ 0x110412) ∧
        (∀ p < 128, ∃ e ∈ fullTable .held .unplaced, e.position = p)) ∧
      (∃ v ∈ (binFull .unplaced).table, (binFull .unplaced).mayEvict .home v ∧
        ∀ w ∈ (binFull .unplaced).table, (binFull .unplaced).mayEvict .home w → w ≠ v → evictsFirst 1000 v w) ∧
      ∀ v ∈ (binFull .stage).table, ¬ (binFull .stage).mayEvict .home v := by
  refine ⟨fun s => ⟨_, _, hearsEntry_hearing .., rfl, rfl, rfl⟩, ⟨by decide, by decide, by decide, by decide, ?_, ?_⟩, ?_,
    by decide, ?_, ?_, ?_⟩
  · simp only [HeldConfig.matchesHome]; decide
  · exact ⟨by decide, by decide, by simp⟩
  · simp only [HeldConfig.matchesHome]; decide
  · decide +kernel
  · simp only [State.mayEvict, evictsFirst]; decide +kernel
  · simp only [State.mayEvict]; decide +kernel

/-- An own report with no OWN entry and a full table: the victim of R93 and R94, for a sample, a jump and a target. -/
theorem test_witness_storesOwn :
    (tableWf (binFull .unplaced).table ∧ (∀ e ∈ (binFull .unplaced).table, e.report.binId ≠ 0x110184) ∧
        (binFull .unplaced).cfg.stationId = 0x110184 ∧ (∀ p < 128, ∃ e ∈ (binFull .unplaced).table, e.position = p)) ∧
      (∃ v ∈ (binFull .unplaced).table, (binFull .unplaced).mayEvict .own v ∧
        ∀ w ∈ (binFull .unplaced).table, (binFull .unplaced).mayEvict .own w → w ≠ v → evictsFirst 1000 v w) ∧
      ((binFull .unplaced).est.takeSample binCfg 1000 900 .plain).1.triggered binCfg 1000 false = true ∧
      (∃ s : State, s.table = (binFull .unplaced).table ∧ s.role = .bin ∧ s.running = true ∧
        s.est.figures = some ⟨740, 500, false, 1200, 2⟩ ∧ ((0x0001 : Seq) - (s.est.nextSeq - 1)).toNat = 2 ∧
        s.est.mustReport s.cfg s.clock false) := by
  refine ⟨by decide +kernel, ?_, by decide +kernel,
    { binFull .unplaced with est := { bin.est with figures := some ⟨740, 500, false, 1200, 2⟩ } },
    rfl, rfl, rfl, rfl, by decide, _, rfl, .inl rfl⟩
  simp only [State.mayEvict, evictsFirst]; decide +kernel

/-- A frame led by a report of class 3 stands STAGED while a report of class 1 is owed, or in BUILD beside a frame on
its way: with the near report repaired, superseded, solicited again, or newly stored; and a full bin's own report. -/
theorem test_witness_preemptedBy :
    ((fillOf [far] false).payload = .fill [far.freeze] false ∧ near.report.cls < far.freeze.report.cls ∧
        (0 : Urgency) < own.freeze.report.cls) ∧
      (∀ s : State, ∀ es cond, (staged s (fillOf es false) cond .awake).sel.stage = some { frame := fillOf es false, cond := cond }) ∧
      (∃ s : State, ∃ x, s.sel.stage = some x ∧ x.cond = .committed ∧ s.sel.build = some (fillOf [far] false) ∧
        HearsHeldBin s 3) ∧
      HearsHeldBin (staged nearHeld (fillOf [far] false) .staged .awake) 1 ∧
      HearsHeldBin (staged binHolding (fillOf [far] false) .staged .awake) 3 ∧
      (binHolding.storedAs ⟨report 0x110412 3 1 130, 1, 1, false⟩ 1000 1 .home).owing = .owed ∧
      ((⟨0x110412, 0, 3⟩ : Target).addresses 0x110412 ∧ near.hops < nearHeld.cfg.hopLimit) ∧
      (bin.est.admitRange binCfg 1000 230 false).1.figures.map (fun f => f.cls.val) = some 0 := by
  refine ⟨by decide, fun _ _ _ => rfl, ⟨{ binHolding with sel := { binHolding.sel with
      stage := some ⟨fillOf [near] false, .committed⟩, build := some (fillOf [far] false) } }, _, rfl, rfl, rfl,
      hearsEntry_hearing .., by decide, near, ⟨by decide, by decide, by decide⟩, by decide⟩,
    ⟨hearsEntry_hearing .., by decide, { near with owing := .held }, ⟨by decide, by decide, by decide⟩, by decide⟩,
    ⟨hearsEntry_hearing .., by decide, near, ⟨by decide, by decide, by decide⟩, by decide⟩, by decide, ⟨?_, by decide⟩,
    by decide⟩
  simp only [Target.addresses]; decide

/-- The near entry one hearing below the suppress count, in a STAGED frame. -/
def nearlySuppressed : State :=
  staged { binHolding with table := [own, { near with placed := .stage, heard := 1 }, far] } (fillOf [near] false) .staged .awake

/-- A placed entry is made HELD, or drained, while its frame is STAGED. -/
theorem test_witness_withdrawsFrameOf :
    (HearsHeldBin nearlySuppressed 2 ∧ nearlySuppressed.holds 0x110412 { near with placed := .stage, heard := 1 } ∧
        nearlySuppressed.cfg.suppressCount ≤ min 7 (1 + 1) ∧ nearlySuppressed.sel.stageCond = some .staged) ∧
      (∃ m, (merging nearlySuppressed (.drain [⟨0x110412, 2, false⟩])).hearsItem m ⟨0x110412, 2, false⟩) :=
  ⟨⟨⟨hearsEntry_hearing .., by decide, { near with placed := .stage, heard := 1 }, ⟨by decide, by decide, by decide⟩,
    by decide⟩, ⟨by decide, by decide, by decide⟩, by decide, by decide⟩, _, rfl, _, rfl, rfl⟩

theorem test_witness_SolicitationIsAnswered :
    (∀ g : Target, ∃ m, (merging binHolding (.solicit g)).pair.merging = some m ∧ m.frame.parts = .solicit g) ∧
      binHolding.running = true ∧ binHolding.role = .bin ∧ binHolding.tableOk ∧
      binHolding.holds binHolding.cfg.stationId own ∧
      (⟨0x110000, 0x00FFFF, 3⟩ : Target).addresses 0x110184 ∧
      ¬ (⟨0x120000, 0x00FFFF, 3⟩ : Target).addresses 0x110184 ∧
      ((⟨0x120000, 0x00FFFF, 3⟩ : Target).addresses far.report.binId ∧ far.report.cls ≤ 3 ∧ far.owing ≠ .owed ∧
        far.hops < binCfg.hopLimit) ∧
      (binHolding.est.sampleSince = false ∧ binHolding.est.triggered binCfg 1000 false = false) ∧
      (∃ s : State, s.est.figures ≠ none ∧ s.est.sampleSince = true ∧ s.tableOk) ∧
      (bin.tableOk ∧ bin.role = .bin ∧ bin.est.figures = none ∧
        (∀ e ∈ bin.table, e.report.binId ≠ bin.cfg.stationId) ∧ lowestFreeIs bin.table 0) ∧
      ∃ s : State, s.table = bin.table ∧ s.cfg = bin.cfg ∧ s.est.mustReport s.cfg s.clock false := by
  refine ⟨fun g => ⟨_, rfl, rfl⟩, by decide, by decide, by decide, ⟨by decide, by decide, by decide⟩, ?_, ?_, ?_, by decide,
    ⟨{ binHolding with est := { binHolding.est with sampleSince := true } }, by decide⟩,
    ⟨by decide, by decide, by decide, by decide, by decide, by simp [bin, up, State.reset], by simp⟩,
    { bin with est := { bin.est with figures := some ⟨740, 500, false, 1200, 2⟩ } }, rfl, rfl, _, rfl, .inl rfl⟩ <;>
  · simp only [Target.addresses]; decide

theorem test_witness_DrainItemDrains :
    (∀ i : RxItem, ∃ m, (merging binHolding (.drain [i])).hearsItem m i) ∧ tableWf binHolding.table ∧
      (binHolding.holds 0x110412 near ∧ near.owing ≠ .drained ∧ ((2 : Seq) - near.report.seq).toNat < 32768 ∧
        ((32769 : Seq) - near.report.seq).toNat = 32767) ∧
      (∀ e ∈ binHolding.table, e.report.binId = 0x110412 → 32768 ≤ ((32770 : Seq) - e.report.seq).toNat) ∧
      ∀ e ∈ binHolding.table, e.report.binId ≠ 0x110413 :=
  ⟨fun _ => ⟨_, rfl, _, rfl, rfl⟩, by decide, ⟨⟨by decide, by decide, by decide⟩, by decide, by decide, by decide⟩, by decide,
    by decide⟩

theorem test_witness_MergeStepMovesTheCursor :
    bin.pair.merging = none ∧
      (∃ m, (merging bin (.drain [⟨0, 0, true⟩, ⟨0x110412, 2, false⟩])).pair.merging = some m ∧
        m.cursor + 1 < m.frame.parts.count ∧
        (merging bin (.drain [⟨0, 0, true⟩, ⟨0x110412, 2, false⟩])).hearsItem m ⟨0, 0, true⟩) ∧
      (∃ m r, (hearing bin (report 0 1 1 1) 1 1 true).hearsEntry m r ∧ r.malformed = true ∧
        m.frame.parts.count ≤ m.cursor + 1) ∧
      ∃ m, (merging gateway (.solicit ⟨0, 0, 0⟩)).pair.merging = some m ∧ gateway.role = .gateway :=
  ⟨rfl, ⟨_, rfl, by decide, rfl, _, rfl, rfl⟩, ⟨_, _, hearsEntry_hearing .., rfl, by decide⟩, _, rfl, by decide⟩

/-! ### The send selector -/

theorem test_witness_BuildTakesTheFirstFive :
    binHolding.role = .bin ∧ binHolding.mon.standing ≠ .mute ∧ binHolding.sel.build = none ∧
    binHolding.sel.stage = none ∧
      tableWf binHolding.table ∧ (∃ e ∈ binHolding.table, binHolding.mayFill e) ∧
      (tableWf (fullTable .owed .unplaced) ∧
        ∃ e ∈ fullTable .owed .unplaced, ({ bin with table := fullTable .owed .unplaced } : State).mayFill e) ∧
      ((staged binHolding (fillOf [far] false) .sending .sending).sel.stage ≠ none ∧
        (staged binHolding (fillOf [far] false) .sending .sending).sel.build = none ∧
        ∃ e ∈ binHolding.table, (staged binHolding (fillOf [far] false) .sending .sending).mayFill e) := by
  refine ⟨by decide, by decide, by decide, by decide, by decide, ?_, ⟨by decide +kernel, ?_⟩, by decide, by decide, ?_⟩ <;>
  · simp only [State.mayFill]; decide +kernel

theorem test_witness_PreemptionWithdraws :
    (staged binHolding (fillOf [near] false) .staged .awake).sel.stage = some ⟨fillOf [near] false, .staged⟩ ∧
      (∃ lead rest probe, (fillOf [near] false).payload = .fill (lead :: rest) probe ∧
      ∃ c ∈ [(0 : Urgency)], c < lead.report.cls) ∧
      (¬ ∃ c ∈ [(1 : Urgency)], c < near.freeze.report.cls) ∧
      ∃ s : State, s.sel.stage = some ⟨fillOf [near] false, .committed⟩ ∧ s.sel.build = some (fillOf [own] false) ∧
        ∃ c ∈ [(1 : Urgency)], c < own.freeze.report.cls :=
  ⟨rfl, ⟨_, _, _, rfl, 0, by decide, by decide⟩, by decide,
    { binHolding with sel := { binHolding.sel with
        stage := some ⟨fillOf [near] false, .committed⟩, build := some (fillOf [own] false) } }, by decide⟩

/-! ### The frame on air -/

theorem test_witness_StuffingIsUndone : ([] : List Bool).length ≤ 86 * 8 ∧
    (List.replicate 688 true).length ≤ 86 * 8 := by
  decide +kernel

theorem test_witness_SentFrameIsReadBack :
    (drainFrame 0x11F003).sendable ∧ (⟨0, 0, .solicit ⟨0xFFFFFF, 0, 3⟩⟩ : RxFrame).sendable ∧
      (⟨0x110184, 0, .fill (List.replicate 5
        ⟨{ report 0xFFFFFF 65535 3 65535 with level := 1000, rate := 65535, since := some 65535 }, 4095, 15, true⟩)⟩ :
        RxFrame).sendable := by
  refine ⟨?_, trivial, ?_⟩ <;>
  · simp only [RxFrame.sendable, drainFrame]; decide

/-! ### The whole machine -/

/-- The bin station with a sample posted, and the gateway with a minute boundary to come. -/
def sampling : State := { binHolding with pending := [.postSample [0x02, 0xE4, 0]] }
def sweeping : State := { gatewayHolding with pending := [.minuteBoundary], boundaryDue := true }

theorem test_witness_TableInvariant :
    sampling.tableOk ∧ sampling.clearedOk ∧
      ∃ t, step sampling = .next t :=
  ⟨by decide, by decide, _, rfl⟩

theorem sampling_valuesOk : sampling.valuesOk := by decide

theorem test_witness_ValuesAndMonitorInvariant :
    sampling.valuesOk ∧ sampling.mon.ok ∧
      ∃ t, step sampling = .next t :=
  ⟨sampling_valuesOk, by decide, _, rfl⟩

theorem test_witness_LinesAndClearedInvariant :
    sampling.eng.linesOk ∧ sampling.clearedOk ∧
      ∃ t, step sampling = .next t :=
  ⟨by decide, by decide, _, rfl⟩

theorem test_witness_ConfigInvariant :
    sampling.configOk ∧ sampling.clearedOk ∧
      ∃ t, step sampling = .next t :=
  ⟨by decide, by decide, _, rfl⟩

theorem test_witness_SlotsInvariant :
    sampling.slotsOk ∧ sampling.clearedOk ∧
      sampling.eng.linesOk ∧ ∃ t, step sampling = .next t :=
  ⟨by decide, by decide, by decide, _, rfl⟩

/-- A bin station with both its OWED reports in a STAGED frame is settled. -/
theorem test_witness_SlotsInvariant_settled :
    { sampling.buildAll with pending := sampling.pending }.settled ∧ sampling.buildAll.clearedOk ∧
      sampling.buildAll.sel.build = none ∧ ∃ t, step sampling.buildAll = .next t :=
  ⟨fun _ => ⟨fun _ _ e he => by
      have h : ∀ e ∈ sampling.buildAll.table, ¬ (e.owing = .owed ∧ e.placed = .unplaced) := by decide
      exact fun hm => h e he ⟨hm.1, hm.2.1⟩, fun h => absurd h (by decide)⟩, by decide, by decide, _, rfl⟩

/-- A bin station AWAKE with a long quiet behind it, and one past linger with nothing eligible but a recognised preamble. -/
theorem test_witness_SlotsInvariant_engine :
    (sampling.engineSettled ∧ sampling.clearedOk ∧ ∃ t, step sampling = .next t) ∧
      reachesEngineBySelector (.postSample [0x02, 0xE4, 0]) ∧
      (∃ t, exec (.postSample [0x02, 0xE4, 0]) { bin with eng := { bin.eng with idleGap := 8 } } = .next t ∧
        t.eng.state = .waking) ∧
      { lingered with eng := { lingered.eng with watch := { running := false, plain := 20, recognised := true } } }.engineSettled :=
  ⟨⟨fun _ _ => ⟨by decide, by decide⟩, by decide, _, rfl⟩, .inr (.inl ⟨_, rfl⟩), ⟨_, rfl, by decide⟩,
    fun _ _ => ⟨by decide, by decide⟩⟩

theorem test_witness_PlacementInvariant :
    sampling.placedOk ∧ sampling.tableOk ∧
      sampling.clearedOk ∧ sampling.gatewayOk ∧
      sampling.slotsOk ∧ ∃ t, step sampling = .next t :=
  ⟨by decide, by decide, by decide, by decide, by decide, _, rfl⟩

theorem test_witness_OwedInvariant :
    sampling.owedOk ∧ sampling.tableOk ∧
      sampling.clearedOk ∧ sampling.configOk ∧
      ∃ t, step sampling = .next t :=
  ⟨by decide, by decide, by decide, by decide, _, rfl⟩

theorem test_witness_GatewayInvariant :
    sweeping.gatewayOk ∧ sweeping.tableOk ∧
      sweeping.clearedOk ∧
      ∃ t, step sweeping = .next t :=
  ⟨by decide, by decide, by decide, _, rfl⟩

end Sys2Proof.Tests
end

section
/-! PROOFS. Serial order (R47): which distance gives which relation, how the distance from `b` to `a` follows from the
one from `a` to `b`, and so which relation each one's reverse is. -/

namespace Sys2Proof.Machine

variable (a b : Seq)

/-! ### The relation by the distance -/

theorem serial_eq_equal_iff : serial a b = .equal ↔ (a - b).toNat = 0 := by
  simp only [serial]
  split_ifs <;> simp only [true_iff, false_iff] <;> omega

theorem serial_eq_newer_iff : serial a b = .newer ↔ 1 ≤ (a - b).toNat ∧ (a - b).toNat ≤ 32767 := by
  simp only [serial]
  split_ifs <;> simp only [true_iff, false_iff] <;> omega

theorem serial_eq_unordered_iff : serial a b = .unordered ↔ (a - b).toNat = 32768 := by
  simp only [serial]
  split_ifs <;> simp only [true_iff, false_iff] <;> omega

theorem serial_eq_older_iff : serial a b = .older ↔ 32769 ≤ (a - b).toNat ∧ (a - b).toNat ≤ 65535 := by
  have hlt : (a - b).toNat < 65536 := (a - b).isLt
  simp only [serial]
  split_ifs <;> simp only [true_iff, false_iff] <;> omega

/-! ### The distance and its reverse -/

theorem toNat_seq_sub : (a - b).toNat = (a.toNat + 65536 - b.toNat) % 65536 := by
  have hb : b.toNat < 65536 := b.isLt
  rw [BitVec.toNat_sub]
  omega

/-- The two distances add up to 65536, or both are 0. -/
theorem toNat_seq_sub_comm : (b - a).toNat = (65536 - (a - b).toNat) % 65536 := by
  rw [← neg_sub a b, BitVec.toNat_neg]

/-! ### The reverse of each relation -/

theorem serial_equal_comm : serial a b = .equal ↔ serial b a = .equal := by
  have hlt : (a - b).toNat < 65536 := (a - b).isLt
  rw [serial_eq_equal_iff, serial_eq_equal_iff, toNat_seq_sub_comm a b]
  omega

theorem serial_newer_iff_older : serial a b = .newer ↔ serial b a = .older := by
  have hlt : (a - b).toNat < 65536 := (a - b).isLt
  rw [serial_eq_newer_iff, serial_eq_older_iff, toNat_seq_sub_comm a b]
  omega

theorem serial_unordered_comm : serial a b = .unordered ↔ serial b a = .unordered := by
  have hlt : (a - b).toNat < 65536 := (a - b).isLt
  rw [serial_eq_unordered_iff, serial_eq_unordered_iff, toNat_seq_sub_comm a b]
  omega

end Sys2Proof.Machine
end

section
open Sys2Proof Sys2Proof.Machine

/-- Settles O46: d is the distance `serial` compares by, and its reverse is 65536 − d, or 0 for 0. -/
theorem serialOrderRelations : Obligations.SerialOrderRelations := fun a b =>
  ⟨(a - b).toNat, toNat_seq_sub a b,
    serial_eq_equal_iff a b, serial_eq_newer_iff a b, serial_eq_unordered_iff a b, serial_eq_older_iff a b,
    serial_equal_comm a b, serial_newer_iff_older a b, serial_unordered_comm a b⟩

end

section
/-! PROOFS. An admitted sample (chapter 4): the window it joins, the filtered range of R61 by the window's length, the
level and OVERFULL of R62 by where the range lies, the time to full of R67, the class of R68 by the first condition that
holds, and the reported class of R69. -/

namespace Sys2Proof.Machine

/-! ### The window and its filtered range -/

/-- A window of at most three ranges holds one, two or three after a range has joined it. -/
theorem joinWindow_cases {w : List Nat} (range : Nat) (hw : w.length ≤ 3) :
    (∃ x, joinWindow w range = [x]) ∨ (∃ x y, joinWindow w range = [x, y]) ∨
      ∃ x y z, joinWindow w range = [x, y, z] :=
  match w, hw with
  | [], _ => .inl ⟨range, rfl⟩
  | [x], _ => .inr (.inl ⟨x, range, rfl⟩)
  | [x, y], _ => .inr (.inr ⟨x, y, range, rfl⟩)
  | [_, x, y], _ => .inr (.inr ⟨x, y, range, rfl⟩)
  | _ :: _ :: _ :: _ :: _, hw => absurd hw (by simp only [List.length_cons]; omega)

theorem filteredRange_one (x : Nat) : filteredRange [x] = x := rfl

theorem filteredRange_two (x y : Nat) : filteredRange [x, y] = max x y := rfl

theorem filteredRange_three (x y z : Nat) : filteredRange [x, y, z] = max (min x y) (min (max x y) z) := rfl

/-- The filtered range of three is one of them. -/
theorem filteredRange_three_mem (x y z : Nat) : filteredRange [x, y, z] ∈ [x, y, z] := by
  simp only [filteredRange_three, List.mem_cons, List.not_mem_nil, or_false]
  omega

/-- Two of three values that satisfy a predicate both stand in the list filtered by it. -/
theorem two_le_length_filter_three {p : Nat → Bool} {x y z : Nat}
    (h : (p x ∧ p y) ∨ (p x ∧ p z) ∨ (p y ∧ p z)) : 2 ≤ ([x, y, z].filter p).length := by
  simp only [← List.countP_eq_length_filter, List.countP_cons, List.countP_nil]
  obtain ⟨h₁, h₂⟩ | ⟨h₁, h₂⟩ | ⟨h₁, h₂⟩ := h <;> rw [if_pos h₁, if_pos h₂] <;> omega

/-- At least two of three ranges are at most their filtered range. -/
theorem two_le_length_filter_le_filteredRange (x y z : Nat) :
    2 ≤ ([x, y, z].filter (fun v => v ≤ filteredRange [x, y, z])).length := by
  have hmedian := filteredRange_three x y z
  refine two_le_length_filter_three ?_
  simp only [decide_eq_true_eq]
  omega

/-- At least two of three ranges are at least their filtered range. -/
theorem two_le_length_filter_filteredRange_le (x y z : Nat) :
    2 ≤ ([x, y, z].filter (fun v => filteredRange [x, y, z] ≤ v)).length := by
  have hmedian := filteredRange_three x y z
  refine two_le_length_filter_three ?_
  simp only [decide_eq_true_eq]
  omega

/-! ### The level of a filtered range -/

section
variable {empty full d : Nat}

theorem levelOf_of_empty_le (h : empty ≤ d) : levelOf empty full d = (0, false) := if_pos h

theorem levelOf_of_lt_full (hfe : full < empty) (h : d < full) : levelOf empty full d = (1000, true) := by
  rw [levelOf, if_neg (by omega), if_pos h]

theorem levelOf_of_eq_full (hfe : full < empty) (h : d = full) : levelOf empty full d = (1000, false) := by
  rw [levelOf, if_neg (by omega), if_neg (by omega), if_pos h]

theorem levelOf_between (hf : full < d) (he : d < empty) :
    levelOf empty full d = ((2000 * (empty - d) + (empty - full)) / (2 * (empty - full)), false) := by
  rw [levelOf, if_neg (by omega), if_neg (by omega), if_neg (by omega)]

end

/-- The quotient by twice `k` in the two bounds that make it the value rounded to the nearest. -/
theorem div_two_mul_bounds (n : Nat) {k : Nat} (hk : 0 < k) :
    2 * (n / (2 * k)) * k ≤ n ∧ n < 2 * (n / (2 * k) + 1) * k := by
  have hle : 2 * k * (n / (2 * k)) ≤ n := Nat.mul_div_le n (2 * k)
  have hlt : n < 2 * k * (n / (2 * k) + 1) := Nat.lt_mul_div_succ n (by omega)
  rw [Nat.mul_right_comm] at hle hlt
  exact ⟨hle, hlt⟩

/-! ### The time to full -/

theorem timeToFull_full (rate : Nat) : timeToFull 1000 rate = 0 := rfl

theorem timeToFull_of_rate_zero {level rate : Nat} (h : level < 1000) (hr : rate = 0) :
    timeToFull level rate = 65535 := by
  rw [timeToFull, if_neg (by omega), if_pos hr, Config.notFilling]

theorem timeToFull_of_rate_pos {level rate : Nat} (h : level < 1000) (hr : 0 < rate) :
    timeToFull level rate = min 65534 (960 * (1000 - level) / rate) := by
  rw [timeToFull, if_neg (by omega), if_neg (by omega)]

/-! ### The class -/

section
variable {c : HeldConfig} {level ttf : Nat}

theorem computedClass_full : computedClass c 1000 ttf = 0 := rfl

theorem computedClass_imminent (h : level < 1000) (hi : ttf ≤ c.imminentHorizon) : computedClass c level ttf = 1 := by
  rw [computedClass, if_neg (by omega), if_pos hi]

theorem computedClass_due (h : level < 1000) (hi : c.imminentHorizon < ttf)
    (hd : c.dueLevel ≤ level ∨ ttf ≤ c.dueHorizon) :
    computedClass c level ttf = 2 := by
  rw [computedClass, if_neg (by omega), if_neg (by omega), if_pos hd]

theorem computedClass_later (h : level < 1000) (hi : c.imminentHorizon < ttf) (hl : level < c.dueLevel)
    (hd : c.dueHorizon < ttf) : computedClass c level ttf = 3 := by
  rw [computedClass, if_neg (by omega), if_neg (by omega), if_neg (by omega)]

end

/-- The reported class as a number: the computed one, at most 2 in the fault state (R69). -/
theorem Estimator.reportedClass_val (e : Estimator) (f : Figures) :
    (e.reportedClass f).val = if e.faultState = true then min f.cls.val 2 else f.cls.val := by
  rw [Estimator.reportedClass, apply_ite Fin.val, Fin.coe_min, Fin.val_two]

/-! ### The figures of an admitted sample -/

/-- The figures of a window at a rate: R61, R62, R67 and R68 in turn. -/
def figuresOf (c : HeldConfig) (window : List Nat) (rate : Nat) : Figures :=
  let d := filteredRange window
  let level := levelOf c.emptyDist c.fullDist d
  let ttf := timeToFull level.1 rate
  { range := d, level := level.1, overfull := level.2, ttf := ttf, cls := computedClass c level.1 ttf }

section
variable (c : HeldConfig) (t range : Nat) (compaction : Bool) (e : Estimator)

theorem Estimator.admitRange_window : (e.admitRange c t range compaction).1.window = joinWindow e.window range := rfl

/-- The current figures are those of the window after the sample has joined it, at the rate after step 5 of R60. -/
theorem Estimator.admitRange_figures :
    (e.admitRange c t range compaction).1.figures =
      some (figuresOf c (joinWindow e.window range) (e.admitRange c t range compaction).1.rate) := rfl

end

section
variable (c : HeldConfig) (w : List Nat) (rate : Nat)

@[simp] theorem figuresOf_range : (figuresOf c w rate).range = filteredRange w := rfl

@[simp] theorem figuresOf_level :
    (figuresOf c w rate).level = (levelOf c.emptyDist c.fullDist (filteredRange w)).1 := rfl

@[simp] theorem figuresOf_overfull :
    (figuresOf c w rate).overfull = (levelOf c.emptyDist c.fullDist (filteredRange w)).2 := rfl

theorem figuresOf_ttf : (figuresOf c w rate).ttf = timeToFull (figuresOf c w rate).level rate := rfl

theorem figuresOf_cls :
    (figuresOf c w rate).cls = computedClass c (figuresOf c w rate).level (figuresOf c w rate).ttf := rfl

variable {c w rate}

/-- R67 and R68 in the figures of a full bin. -/
theorem figuresOf_ttf_cls_of_full (h : (figuresOf c w rate).level = 1000) :
    (figuresOf c w rate).ttf = 0 ∧ (figuresOf c w rate).cls = 0 := by
  rw [figuresOf_cls, figuresOf_ttf, h]
  exact ⟨timeToFull_full rate, computedClass_full⟩

end

end Sys2Proof.Machine
end

section
open Sys2Proof Sys2Proof.Machine

/-- Settles O20: the figures are `figuresOf` the window the sample has joined, so each clause is the matching case of
the filtered range, the level, the time to full or the class. -/
theorem figuresOfAnAdmittedSample : Obligations.FiguresOfAnAdmittedSample := by
  refine ⟨fun c t range compaction e hw hfe => ?_, fun c t range compaction e _ => ?_, fun c e f t q emptied => ?_⟩
  · refine ⟨_, _, e.admitRange_figures .., figuresOf_range .., ?_, fun h => ?_, fun h => ?_, fun h => ?_,
      fun hf he => ?_⟩
    · rw [e.admitRange_window]
      obtain ⟨x, h⟩ | ⟨x, y, h⟩ | ⟨x, y, z, h⟩ := joinWindow_cases range hw <;> rw [h]
      · exact filteredRange_one x
      · exact filteredRange_two x y
      · exact ⟨filteredRange_three_mem x y z, two_le_length_filter_le_filteredRange x y z,
          two_le_length_filter_filteredRange_le x y z⟩
    · simp only [figuresOf_level, figuresOf_overfull, levelOf_of_empty_le h, and_self]
    · simp only [figuresOf_level, figuresOf_overfull, levelOf_of_lt_full hfe h, and_self]
    · simp only [figuresOf_level, figuresOf_overfull, levelOf_of_eq_full hfe h, and_self]
    · rw [figuresOf_level, figuresOf_overfull, levelOf_between hf he]
      exact ⟨rfl, rfl, div_two_mul_bounds _ (Nat.sub_pos_of_lt hfe)⟩
  · exact ⟨_, _, _, rfl, e.admitRange_figures .., figuresOf_ttf_cls_of_full, timeToFull_of_rate_zero,
      timeToFull_of_rate_pos, computedClass_imminent, computedClass_due, computedClass_later⟩
  · exact ⟨e.reportedClass_val f, rfl⟩

end

section
/-! PROOFS. Records of bytes: the value that bytes written by `toBytes` read back as, the bits of a byte, and the fields
of a record laid out one behind another, each by its index. -/

namespace Sys2Proof.Machine

/-! ### Bytes written and read back -/

theorem toBytes_length (n v : Nat) : (toBytes n v).length = n := by
  induction n with
  | zero => rfl
  | succ n ih => rw [toBytes, List.length_cons, ih]

theorem ofBytes_append_singleton (bs : List Byte) (b : Byte) : ofBytes (bs ++ [b]) = ofBytes bs * 256 + b.toNat := by
  simp only [ofBytes, List.foldl_append, List.foldl_cons, List.foldl_nil]

/-- Bytes written from their least significant end. -/
theorem toBytes_succ_eq_append (n v : Nat) : toBytes (n + 1) v = toBytes n (v / 256) ++ [BitVec.ofNat 8 v] := by
  induction n with
  | zero => simp only [toBytes, pow_zero, Nat.div_one, List.nil_append]
  | succ n ih => rw [toBytes, ih, toBytes, Nat.div_div_eq_div_mul, ← pow_succ', List.cons_append]

/-- A value written in `n` bytes reads back but for the bits above them. -/
theorem ofBytes_toBytes (n v : Nat) : ofBytes (toBytes n v) = v % 2 ^ (8 * n) := by
  induction n generalizing v with
  | zero => rw [Nat.mul_zero, pow_zero, Nat.mod_one]; rfl
  | succ n ih =>
    have hbyte : (BitVec.ofNat 8 v).toNat = v % 256 := BitVec.toNat_ofNat v 8
    rw [toBytes_succ_eq_append, ofBytes_append_singleton, ih, hbyte, show 8 * (n + 1) = 8 + 8 * n by omega,
      pow_add, show 2 ^ 8 = 256 from rfl, Nat.mod_mul]
    omega

/-- A byte is its value written in one byte. -/
theorem toBytes_one_toNat (b : Byte) : toBytes 1 b.toNat = [b] := by
  simp only [toBytes, pow_zero, Nat.div_one, BitVec.ofNat_toNat, BitVec.setWidth_eq]

theorem toBytes_one_mark (m : Bool) : toBytes 1 m.toNat = [markByte m] := by cases m <;> rfl

/-- A bit of a byte is a mark when the mark is the parity of the byte's value shifted to it. -/
theorem getLsbD_eq_of_parity {fl : Byte} {i : Nat} {m : Bool} (h : fl.toNat / 2 ^ i % 2 = m.toNat) :
    fl.getLsbD i = m := by
  rw [BitVec.getLsbD, Nat.testBit_eq_decide_div_mod_eq, h]
  cases m <;> rfl

/-! ### Fields laid out one behind another -/

/-- The bytes of fields laid out one behind another, each given by its length and its value. -/
def layoutBytes (fields : List (Nat × Nat)) : List Byte := fields.flatMap (fun f => toBytes f.1 f.2)

theorem layoutBytes_length (fields : List (Nat × Nat)) :
    (layoutBytes fields).length = (fields.map Prod.fst).sum := by
  simp only [layoutBytes, List.length_flatMap, toBytes_length]

section
variable {fields : List (Nat × Nat)} {i off len v : Nat}

/-- What stands from the beginning of a field on: the field, then the fields behind it. -/
theorem layoutBytes_drop (hf : fields[i]? = some (len, v)) (hoff : ((fields.map Prod.fst).take i).sum = off) :
    (layoutBytes fields).drop off = toBytes len v ++ layoutBytes (fields.drop (i + 1)) := by
  obtain ⟨hi, hget⟩ := List.getElem?_eq_some_iff.1 hf
  have hsplit : layoutBytes fields =
      layoutBytes (fields.take i) ++ (toBytes len v ++ layoutBytes (fields.drop (i + 1))) := by
    conv_lhs => rw [← List.take_append_drop i fields, List.drop_eq_getElem_cons hi, hget]
    simp only [layoutBytes, List.flatMap_append, List.flatMap_cons]
  have hlen : (layoutBytes (fields.take i)).length = off := by rw [layoutBytes_length, List.map_take, hoff]
  rw [hsplit, List.drop_left' hlen]

theorem fieldAt_layoutBytes (hf : fields[i]? = some (len, v)) (hoff : ((fields.map Prod.fst).take i).sum = off) :
    fieldAt (layoutBytes fields) off len = v % 2 ^ (8 * len) := by
  rw [fieldAt, layoutBytes_drop hf hoff, List.take_left' (toBytes_length len v), ofBytes_toBytes]

theorem getElem?_layoutBytes {b : Byte} (hf : fields[i]? = some (1, b.toNat))
    (hoff : ((fields.map Prod.fst).take i).sum = off) : (layoutBytes fields)[off]? = some b := by
  rw [← List.head?_drop, layoutBytes_drop hf hoff, toBytes_one_toNat, List.cons_append, List.head?_cons]

end

/-! ### A bin id in three bytes -/

theorem toNat_append_byte {n : Nat} (x : BitVec n) (b : Byte) : (x ++ b).toNat = x.toNat * 256 + b.toNat := by
  rw [BitVec.toNat_append, ← Nat.shiftLeft_add_eq_or_of_lt b.isLt, Nat.shiftLeft_eq]

/-- The bin id that three argument bytes name is the bytes side by side. -/
theorem binId_ofBytes (d n1 n0 : Byte) : BitVec.ofNat 24 (ofBytes [d, n1, n0]) = d ++ n1 ++ n0 := by
  have hval : ofBytes [d, n1, n0] = (d ++ n1 ++ n0).toNat := by
    rw [toNat_append_byte, toNat_append_byte]
    simp only [ofBytes, List.foldl_cons, List.foldl_nil, Nat.zero_mul, Nat.zero_add]
  rw [hval]
  exact BitVec.ofNat_toNat ..

theorem ofBytes_singleton (p : Byte) : ofBytes [p] = p.toNat := Nat.zero_add _

end Sys2Proof.Machine
end

section
/-! PROOFS. The entry record (R96): the codes and the flags byte read back, and each field in its place. -/

namespace Sys2Proof.Machine

/-! ### Codes -/

theorem BinKind.getElem?_code (k : BinKind) :
    [BinKind.litter, .glass, .underground, .compacting][k.code]? = some k := by cases k <;> rfl

theorem BinKind.code_lt (k : BinKind) : k.code < 4 := by cases k <;> decide

theorem Origin.getElem?_code (o : Origin) : [Origin.own, .home, .passing][o.code]? = some o := by cases o <;> rfl

theorem Origin.code_lt (o : Origin) : o.code < 2 ^ 8 := by cases o <;> decide

/-- An occupied position's state has a code from 1 on; 0 is FREE. -/
theorem Owing.getElem?_code (o : Owing) :
    [none, some Owing.owed, some .held, some .drained][o.code]? = some (some o) := by cases o <;> rfl

theorem Owing.code_lt (o : Owing) : o.code < 2 ^ 8 := by cases o <;> decide

theorem Placement.getElem?_code (p : Placement) : [Placement.unplaced, .build, .stage][p.code]? = some p := by
  cases p <;> rfl

theorem Placement.code_lt (p : Placement) : p.code < 2 ^ 8 := by cases p <;> decide

/-! ### The flags byte -/

namespace Report
variable (r : Report)

/-- The kind and the class are the two high pairs of bits, and the marks the four low bits. -/
theorem flagsByte_parts :
    r.flagsByte.toNat / 64 = r.kind.code ∧ r.flagsByte.toNat / 16 % 4 = r.cls.val ∧
      r.flagsByte.toNat / 2 ^ 3 % 2 = r.overfull.toNat ∧ r.flagsByte.toNat / 2 ^ 2 % 2 = r.emptied.toNat ∧
      r.flagsByte.toNat / 2 ^ 1 % 2 = r.fault.toNat ∧ r.flagsByte.toNat / 2 ^ 0 % 2 = r.since.isSome.toNat := by
  have hkind := r.kind.code_lt
  have hcls := r.cls.isLt
  have hover := r.overfull.toNat_le
  have hempt := r.emptied.toNat_le
  have hfault := r.fault.toNat_le
  have hsince := r.since.isSome.toNat_le
  rw [flagsByte, BitVec.toNat_ofNat, Nat.mod_eq_of_lt (by omega)]
  omega

end Report

/-! ### The fields in their places -/

theorem currentAge_lt (rxAge rxTime now : Nat) : currentAge rxAge rxTime now < 2 ^ 16 :=
  (Nat.min_le_left ..).trans_lt (by decide)

namespace Entry
variable (e : Entry) (now : Nat)

/-- The fields of the entry record, in the order of R96's table. -/
def recordFields : List (Nat × Nat) :=
  [(1, e.position), (3, e.report.binId.toNat), (2, e.report.seq.toNat), (1, e.report.flagsByte.toNat),
    (2, e.report.level), (2, e.report.rate), (2, e.report.ttf), (2, e.report.since.getD 0), (2, e.rxAge),
    (4, e.rxTime), (2, currentAge e.rxAge e.rxTime now), (1, e.hops), (1, e.origin.code), (1, e.owing.code),
    (1, e.placed.code), (1, e.heard), (1, e.sent), (1, e.exported.toNat)]

/-- The lengths of the fields, which are those of every entry. -/
def recordLengths : List Nat := [1, 3, 2, 1, 2, 2, 2, 2, 2, 4, 2, 1, 1, 1, 1, 1, 1, 1]

theorem recordFields_lengths : (e.recordFields now).map Prod.fst = recordLengths := rfl

theorem ageAt_eq_currentAge : e.ageAt now = currentAge e.rxAge e.rxTime now := rfl

theorem record_eq_layoutBytes : e.record now = layoutBytes (e.recordFields now) := by
  unfold record
  simp only [recordFields, layoutBytes, List.flatMap_cons, List.flatMap_nil, List.append_assoc,
    List.append_nil, toBytes_one_toNat, toBytes_one_mark, ageAt_eq_currentAge]

theorem record_length : (e.record now).length = 30 := by
  rw [record_eq_layoutBytes, layoutBytes_length, recordFields_lengths]
  decide

theorem record_flags : (e.record now)[6]? = some e.report.flagsByte := by
  have hoff : (recordLengths.take 3).sum = 6 := by decide
  rw [record_eq_layoutBytes, getElem?_layoutBytes rfl (e.recordFields_lengths now ▸ hoff)]

/-- A field of the record by its index in R96's table. -/
theorem fieldAt_record (i : Nat) {off len v : Nat} (hf : (e.recordFields now)[i]? = some (len, v))
    (hoff : (recordLengths.take i).sum = off := by decide) :
    fieldAt (e.record now) off len = v % 2 ^ (8 * len) := by
  rw [record_eq_layoutBytes, fieldAt_layoutBytes hf (e.recordFields_lengths now ▸ hoff)]

/-- A field of the record that holds its value whole. -/
theorem fieldAt_record_of_lt (i : Nat) {off len v : Nat} (hf : (e.recordFields now)[i]? = some (len, v))
    (hv : v < 2 ^ (8 * len)) (hoff : (recordLengths.take i).sum = off := by decide) :
    fieldAt (e.record now) off len = v := by
  rw [e.fieldAt_record now i hf hoff, Nat.mod_eq_of_lt hv]

/-- The identity of the report in the record. -/
theorem record_identity :
    fieldAt (e.record now) 0 1 = e.position % 2 ^ 8 ∧ fieldAt (e.record now) 1 3 = e.report.binId.toNat ∧
      fieldAt (e.record now) 4 2 = e.report.seq.toNat :=
  ⟨e.fieldAt_record now 0 rfl, e.fieldAt_record_of_lt now 1 rfl e.report.binId.isLt,
    e.fieldAt_record_of_lt now 2 rfl e.report.seq.isLt⟩

/-- The figures of the report in the record. -/
theorem record_figures :
    fieldAt (e.record now) 7 2 = e.report.level % 2 ^ 16 ∧ fieldAt (e.record now) 9 2 = e.report.rate % 2 ^ 16 ∧
      fieldAt (e.record now) 11 2 = e.report.ttf % 2 ^ 16 ∧
      fieldAt (e.record now) 13 2 = e.report.since.getD 0 % 2 ^ 16 :=
  ⟨e.fieldAt_record now 4 rfl, e.fieldAt_record now 5 rfl, e.fieldAt_record now 6 rfl,
    e.fieldAt_record now 7 rfl⟩

/-- The receipt of the report and its current age (R81) in the record. -/
theorem record_receipt :
    fieldAt (e.record now) 15 2 = e.rxAge % 2 ^ 16 ∧ fieldAt (e.record now) 17 4 = e.rxTime % 2 ^ 32 ∧
      fieldAt (e.record now) 21 2 = currentAge e.rxAge e.rxTime now ∧ fieldAt (e.record now) 23 1 = e.hops % 2 ^ 8 :=
  ⟨e.fieldAt_record now 8 rfl, e.fieldAt_record now 9 rfl,
    e.fieldAt_record_of_lt now 10 rfl (currentAge_lt e.rxAge e.rxTime now), e.fieldAt_record now 11 rfl⟩

/-- The codes of the origin, the state and the placement in the record. -/
theorem record_codes :
    fieldAt (e.record now) 24 1 = e.origin.code ∧ fieldAt (e.record now) 25 1 = e.owing.code ∧
      fieldAt (e.record now) 26 1 = e.placed.code :=
  ⟨e.fieldAt_record_of_lt now 12 rfl e.origin.code_lt, e.fieldAt_record_of_lt now 13 rfl e.owing.code_lt,
    e.fieldAt_record_of_lt now 14 rfl e.placed.code_lt⟩

/-- The counters and the EXPORTED mark in the record. -/
theorem record_counters :
    fieldAt (e.record now) 27 1 = e.heard % 2 ^ 8 ∧ fieldAt (e.record now) 28 1 = e.sent % 2 ^ 8 ∧
      fieldAt (e.record now) 29 1 = e.exported.toNat :=
  ⟨e.fieldAt_record now 15 rfl, e.fieldAt_record now 16 rfl,
    e.fieldAt_record_of_lt now 17 rfl (e.exported.toNat_le.trans_lt (by decide))⟩

end Entry

end Sys2Proof.Machine
end

section
/-! PROOFS. READ_ENTRY and READ_SLOT (R96, R97): the reply of a served transaction, the look-up by position, and the
result each command gives. -/

namespace Sys2Proof.Machine

/-! ### The reply of a served transaction -/

section
variable {c : PortCommand} {args : List Byte} {s : State}

theorem State.replies_head (args result : List Byte) (s t : State) :
    t.replies (s.head args) result = s.replied args result t := by
  simp only [State.replies, State.replied, State.head, List.length_cons, List.length_replicate, List.cons_append,
    List.nil_append, Nat.add_comm 2]

/-- A command that UNCONFIGURED does not accept gives STATE there. -/
theorem State.serve_unconfigured (act : State → State × List Byte) (hready : s.port.ready = true)
    (hrun : s.running = false) (hlen : args.length = c.argBytes) (hc : c.unconfigured = false) :
    s.serve c args act = s.replied args [0x01] s := by
  have hcheck : c.check args s = some .state := by
    rw [PortCommand.check, if_neg (not_not.2 hlen), if_pos ⟨hrun, hc⟩]
  rw [s.serve_refused c args act hready hcheck, State.replies_head, ResultCode.byte]

/-- A command of both roles, given while RUNNING, that only reads replies with what it read. -/
theorem State.serve_read (result : State → List Byte) (hready : s.port.ready = true)
    (hrun : s.running = true) (hlen : args.length = c.argBytes) (hrole : c.role = none) :
    s.serve c args (fun s => (s, result s)) = s.replied args (result s) s := by
  have hcheck : c.check args s = none :=
    (c.check_eq_none args s).2 ⟨hlen, .inl hrun, fun _ => by rw [hrole, Option.any_none]⟩
  rw [s.serve_accepted c args _ hready hcheck, State.replies_head]

end

/-! ### The look-up by position -/

/-- The look-up by position finds the entry that stands there. -/
theorem State.entryAt_of_mem {s : State} {e : Entry} (hw : tableWf s.table) (he : e ∈ s.table) :
    s.entryAt e.position = some e := by
  cases hfind : s.entryAt e.position with
  | none => exact absurd (List.find?_eq_none.1 hfind e he) (not_not.2 (beq_self_eq_true _))
  | some x =>
    have hpos : (x.position == e.position) = true :=
      List.find?_some (p := fun y : Entry => y.position == e.position) hfind
    rw [entry_unique hw (List.mem_of_find?_eq_some hfind) he (.inr (eq_of_beq hpos))]

/-- The look-up by position finds nothing exactly when no entry stands there. -/
theorem State.entryAt_eq_none {s : State} {p : Nat} : s.entryAt p = none ↔ ∀ e ∈ s.table, e.position ≠ p := by
  simp only [State.entryAt, List.find?_eq_none, beq_iff_eq, ne_eq]

/-! ### What the two commands give -/

section
variable {s : State}

theorem exec_readEntry_unconfigured (hready : s.port.ready = true) (hrun : s.running = false) (a b c : Byte) :
    exec (.readEntry [a, b, c]) s = .next (s.replied [a, b, c] [0x01] s) := by
  rw [exec_readEntry, execReadEntry, State.serve_unconfigured _ hready hrun rfl rfl]

theorem exec_readSlot_unconfigured (hready : s.port.ready = true) (hrun : s.running = false) (p : Byte) :
    exec (.readSlot [p]) s = .next (s.replied [p] [0x01] s) := by
  rw [exec_readSlot, execReadSlot, State.serve_unconfigured _ hready hrun rfl rfl]

theorem exec_readEntry_running (hready : s.port.ready = true) (hrun : s.running = true) (d n1 n0 : Byte) :
    exec (.readEntry [d, n1, n0]) s =
      .next (s.replied [d, n1, n0] (s.entryResult (s.entryOf (d ++ n1 ++ n0))) s) := by
  rw [exec_readEntry, execReadEntry, binId_ofBytes,
    State.serve_read (fun s => s.entryResult (s.entryOf (d ++ n1 ++ n0))) hready hrun rfl rfl]

theorem exec_readSlot_running (hready : s.port.ready = true) (hrun : s.running = true) (p : Byte) :
    exec (.readSlot [p]) s = .next (s.replied [p] (s.entryResult (s.entryAt p.toNat)) s) := by
  rw [exec_readSlot, execReadSlot, ofBytes_singleton,
    State.serve_read (fun s => s.entryResult (s.entryAt p.toNat)) hready hrun rfl rfl]

theorem State.entryResult_some (e : Entry) (s : State) : s.entryResult (some e) = 0x00 :: e.record s.clock := rfl

theorem State.entryResult_none (s : State) : s.entryResult none = [0x05] := rfl

end

end Sys2Proof.Machine
end

section
open Sys2Proof Sys2Proof.Machine

/-- Settles O8: the record is its fields laid out one behind another, and each command returns the result of its
look-up, which finds the one entry there is, or none. -/
theorem readEntryAndReadSlot : Obligations.ReadEntryAndReadSlot := by
  refine ⟨fun e now => ⟨_, rfl, e.record_length now, ?_⟩, fun s hready => ⟨fun hrun a b c => ?_, ?_, ?_⟩⟩
  · obtain ⟨hposition, hbin, hseq⟩ := e.record_identity now
    obtain ⟨hlevel, hrate, httf, hsince⟩ := e.record_figures now
    obtain ⟨hrxAge, hrxTime, hage, hhops⟩ := e.record_receipt now
    obtain ⟨horigin, howing, hplaced⟩ := e.record_codes now
    obtain ⟨hkind, hcls, hover, hempt, hfault, hsome⟩ := e.report.flagsByte_parts
    refine ⟨hposition, hbin, hseq, ⟨_, e.record_flags now, ?_, hcls, getLsbD_eq_of_parity hover,
      getLsbD_eq_of_parity hempt, getLsbD_eq_of_parity hfault, getLsbD_eq_of_parity hsome⟩, hlevel, hrate, httf,
      hsince, hrxAge, hrxTime, hage, hhops, ?_, ?_, ?_, e.record_counters now⟩
    · rw [hkind, BinKind.getElem?_code]
    · rw [horigin, Origin.getElem?_code]
    · rw [howing, Owing.getElem?_code]
    · rw [hplaced, Placement.getElem?_code]
  · exact ⟨exec_readEntry_unconfigured hready hrun a b c, exec_readSlot_unconfigured hready hrun a⟩
  · intro hrun hw d n1 n0
    rw [exec_readEntry_running hready hrun]
    refine ⟨fun e he hbin => ?_, fun habsent => ?_⟩
    · rw [State.entryOf_of_holds ⟨hw, he, hbin⟩, State.entryResult_some]
    · rw [State.entryOf_eq_none.2 habsent, State.entryResult_none]
  · intro hrun hw p
    rw [exec_readSlot_running hready hrun]
    refine ⟨fun e he hpos => ?_, fun habsent => ?_⟩
    · rw [← hpos, State.entryAt_of_mem hw he, State.entryResult_some]
    · rw [State.entryAt_eq_none.2 habsent, State.entryResult_none]

end

section
/-! PROOFS. REJOIN (R147): the reply of an accepted command of both roles, and what the command does in each standing. -/

namespace Sys2Proof.Machine

/-- A command of both roles, given while RUNNING, replies with what it did. -/
theorem State.serve_running {c : PortCommand} {args : List Byte} {s : State} (act : State → State × List Byte)
    (hready : s.port.ready = true) (hrun : s.running = true) (hlen : args.length = c.argBytes) (hrole : c.role = none) :
    s.serve c args act = s.replied args (act s).2 (act s).1 := by
  have hcheck : c.check args s = none :=
    (c.check_eq_none args s).2 ⟨hlen, .inl hrun, fun _ => by rw [hrole, Option.any_none]⟩
  rw [s.serve_accepted c args act hready hcheck, State.replies_head]

section
variable {s : State}

theorem State.rejoinAct_of_mute (h : s.mon.standing = .mute) :
    s.rejoinAct = ({ s with mon := { s.mon with armed := true } }, [0x00]) := if_pos h

theorem State.rejoinAct_of_not_mute (h : s.mon.standing ≠ .mute) : s.rejoinAct = (s, [0x01]) := if_neg h

theorem exec_rejoin_unconfigured (hready : s.port.ready = true) (hrun : s.running = false) :
    exec (.rejoin []) s = .next (s.replied [] [0x01] s) := by
  rw [exec_rejoin, execRejoin, State.serve_unconfigured _ hready hrun rfl rfl]

theorem exec_rejoin_running (hready : s.port.ready = true) (hrun : s.running = true) :
    exec (.rejoin []) s = .next (s.replied [] s.rejoinAct.2 s.rejoinAct.1) := by
  rw [exec_rejoin, execRejoin, State.serve_running _ hready hrun rfl rfl]

end

end Sys2Proof.Machine
end

section
open Sys2Proof Sys2Proof.Machine

/-- Settles O9, by the station life and then the standing: UNCONFIGURED is refused by the checks of R172, and a
RUNNING station by the command itself unless it is MUTE. -/
theorem rejoinArmsRecovery : Obligations.RejoinArmsRecovery := by
  refine fun s hready => ⟨fun hidle => ?_, fun hrun hmute => ?_⟩
  · cases hrun : s.running with
    | false => exact exec_rejoin_unconfigured hready hrun
    | true =>
      have hstanding : s.mon.standing ≠ .mute := hidle.resolve_left (by rw [hrun]; decide)
      rw [exec_rejoin_running hready hrun, State.rejoinAct_of_not_mute hstanding]
  · rw [exec_rejoin_running hready hrun, State.rejoinAct_of_mute hmute]

end

section
/-! PROOFS. CLEAR_NOTICES and SET_NOTICE_MASK (R182, R183): the flag set their one argument byte gives, and what each
does while RUNNING. -/

namespace Sys2Proof.Machine

theorem flagArg_singleton (set : Byte) : flagArg [set] = set := by
  rw [flagArg, ofBytes_singleton, BitVec.ofNat_toNat, BitVec.setWidth_eq]

/-- Clearing a set leaves exactly the flags outside it. -/
theorem getLsbD_cleared (flags set : FlagSet) {i : Nat} (hi : i < 8) :
    (flags &&& ~~~set).getLsbD i = (flags.getLsbD i && !set.getLsbD i) := by
  rw [BitVec.getLsbD_and, BitVec.getLsbD_not, decide_eq_true hi, Bool.true_and]

section
variable {s : State} (hready : s.port.ready = true) (hrun : s.running = true)
include hready hrun

theorem exec_clearNotices_running (set : Byte) :
    exec (.clearNotices [set]) s =
      .next (s.replied [set] [0x00, s.port.flags]
        { s with port := { s.port with flags := s.port.flags &&& ~~~set } }) := by
  rw [exec_clearNotices, execClearNotices, flagArg_singleton, State.serve_running _ hready hrun rfl rfl]
  rfl

theorem exec_setNoticeMask_running (mask : Byte) :
    exec (.setNoticeMask [mask]) s =
      .next (s.replied [mask] [0x00] { s with port := { s.port with mask := mask } }) := by
  rw [exec_setNoticeMask, execSetNoticeMask, flagArg_singleton, State.serve_running _ hready hrun rfl rfl]
  rfl

end

end Sys2Proof.Machine
end

section
open Sys2Proof Sys2Proof.Machine

/-- Settles O10: each command replies with what it did, and the flags that stand after CLEAR_NOTICES are those outside
the set named. -/
theorem noticeFlagsAndMaskCommands : Obligations.NoticeFlagsAndMaskCommands :=
  ⟨fun s set hready hrun =>
      ⟨_, exec_clearNotices_running hready hrun set, fun _ hi => getLsbD_cleared s.port.flags set hi⟩,
    fun _ mask hready hrun => exec_setNoticeMask_running hready hrun mask⟩

end

section
/-! PROOFS. The four checks of a command (R172): each of the twelve is served by the checks of its row of the table,
each failing check refuses it alone, and past them it gives a result code of its own rule. -/

namespace Sys2Proof.Machine

/-! ### A command by its row of the table -/

/-- The checks of a row of R172's table, as the port makes them. -/
def PortRow.command (r : PortRow) : PortCommand :=
  { argBytes := r.argBytes, unconfigured := r.inUnconfigured, role := r.onlyRole }

/-- What each of the twelve commands does once its checks have passed; `exec_of_portRow` ties it to exec. -/
def portAct : Instr → State → State × List Byte
  | .readStatus _ => fun s => (s, ResultCode.ok.byte :: s.statusRecord)
  | .start args => State.startAct args
  | .restart _ sentBits => State.restartAct sentBits
  | .rejoin _ => State.rejoinAct
  | .postSample args => State.sampleAct (fieldAt args 0 2) (BitVec.ofNat 8 (fieldAt args 2 1))
  | .readOwn _ => fun s => (s, ResultCode.ok.byte :: s.est.ownRecord)
  | .readEntry args => fun s => (s, s.entryResult (s.entryOf (BitVec.ofNat 24 (ofBytes args))))
  | .readSlot args => fun s => (s, s.entryResult (s.entryAt (ofBytes args)))
  | .solicit args =>
    State.solicitAct (BitVec.ofNat 24 (fieldAt args 0 3)) (BitVec.ofNat 24 (fieldAt args 3 3)) (fieldAt args 6 1)
  | .exportNext _ => State.exportAct
  | .clearNotices args => State.clearAct (flagArg args)
  | .setNoticeMask args => State.maskAct (flagArg args)
  | _ => fun s => (s, [])

/-- A command of the twelve is one transaction, served with the checks of its row. -/
theorem exec_of_portRow {c : Instr} {r : PortRow} (h : portRow c = some r) (s : State) :
    exec c s = .next (s.serve r.command r.args (portAct c)) := by
  cases c
  case readStatus | start | restart | rejoin | postSample | readOwn | readEntry | readSlot | solicit | exportNext |
      clearNotices | setNoticeMask =>
    cases h
    rfl
  all_goals cases h

/-! ### The results of a command's own rule -/

section
variable (s : State)

theorem State.startAct_result (args : List Byte) :
    ∃ code ∈ [0x00, 0x01, 0x04], ∃ rest, (s.startAct args).2 = code :: rest := by
  unfold State.startAct
  split
  · exact ⟨0x01, by decide, _, rfl⟩
  · dsimp only
    split
    · exact ⟨0x04, by decide, _, rfl⟩
    · exact ⟨0x00, by decide, _, rfl⟩

theorem State.rejoinAct_result : ∃ code ∈ [0x00, 0x01], ∃ rest, s.rejoinAct.2 = code :: rest := by
  by_cases h : s.mon.standing = .mute
  · exact ⟨0x00, by decide, _, by rw [State.rejoinAct_of_mute h]⟩
  · exact ⟨0x01, by decide, _, by rw [State.rejoinAct_of_not_mute h]⟩

theorem State.entryResult_result (e : Option Entry) :
    ∃ code ∈ [0x00, 0x05], ∃ rest, s.entryResult e = code :: rest := by
  cases e with
  | some e => exact ⟨0x00, by decide, _, State.entryResult_some e s⟩
  | none => exact ⟨0x05, by decide, _, State.entryResult_none s⟩

theorem State.exportAct_result : ∃ code ∈ [0x00, 0x05], ∃ rest, s.exportAct.2 = code :: rest := by
  unfold State.exportAct
  split
  · exact ⟨0x00, by decide, _, rfl⟩
  · exact ⟨0x05, by decide, _, rfl⟩

theorem State.solicitAct_result (bin mask : BinId) (maxClass : Nat) :
    ∃ code ∈ [0x00, 0x06], ∃ rest, (s.solicitAct bin mask maxClass).2 = code :: rest := by
  refine ⟨_, ?_, [], rfl⟩
  split <;> decide

/-- A command past its checks gives a result code of its own rule first. -/
theorem portAct_result {c : Instr} {r : PortRow} (h : portRow c = some r) :
    ∃ code ∈ ownResults c, ∃ rest, (portAct c s).2 = code :: rest := by
  cases c
  case start args => exact s.startAct_result args
  case rejoin => exact s.rejoinAct_result
  case readEntry => exact s.entryResult_result _
  case readSlot => exact s.entryResult_result _
  case solicit => exact s.solicitAct_result _ _ _
  case exportNext => exact s.exportAct_result
  case readStatus | restart | postSample | readOwn | clearNotices | setNoticeMask =>
    exact ⟨0x00, List.mem_singleton_self _, _, rfl⟩
  all_goals cases h

end

/-! ### The checks in their order -/

section
variable {c : PortCommand} {args : List Byte} {s : State}

theorem PortCommand.check_of_length_ne (hlen : args.length ≠ c.argBytes) : c.check args s = some .length :=
  if_pos hlen

theorem PortCommand.check_of_unconfigured (hlen : args.length = c.argBytes)
    (hlife : s.running = false ∧ c.unconfigured = false) : c.check args s = some .state := by
  rw [PortCommand.check, if_neg (not_not.2 hlen), if_pos hlife]

theorem PortCommand.check_of_role_ne (hlen : args.length = c.argBytes)
    (hlife : ¬ (s.running = false ∧ c.unconfigured = false))
    (hrole : s.running = true ∧ c.role.any (fun r => r != s.role) = true) : c.check args s = some .role := by
  rw [PortCommand.check, if_neg (not_not.2 hlen), if_neg hlife, if_pos hrole]

theorem PortCommand.check_of_passes (hlen : args.length = c.argBytes)
    (hlife : ¬ (s.running = false ∧ c.unconfigured = false))
    (hrole : ¬ (s.running = true ∧ c.role.any (fun r => r != s.role) = true)) : c.check args s = none := by
  rw [PortCommand.check, if_neg (not_not.2 hlen), if_neg hlife, if_neg hrole]

/-- A role check refuses a command exactly when its one role is another than the station's. -/
theorem any_role_ne_iff (only : Option Role) (role : Role) :
    only.any (fun r => r != role) = true ↔ only ≠ none ∧ only ≠ some role := by
  cases only with
  | none => exact iff_of_false Bool.false_ne_true fun h => h.1 rfl
  | some r =>
    simp only [Option.any_some, bne_iff_ne, ne_eq, reduceCtorEq, not_false_eq_true, true_and, Option.some.injEq]

end

section
variable {c : Instr} {r : PortRow} {s : State} (hready : s.port.ready = true) (hrow : portRow c = some r)
include hready hrow

/-- A check that fails gives its result alone and has no other effect. -/
theorem exec_refused {code : ResultCode} (hcheck : r.command.check r.args s = some code) :
    exec c s = .next (s.replied r.args [code.byte] s) := by
  rw [exec_of_portRow hrow, s.serve_refused _ _ _ hready hcheck, State.replies_head]

theorem exec_accepted (hcheck : r.command.check r.args s = none) :
    exec c s = .next (s.replied r.args (portAct c s).2 (portAct c s).1) := by
  rw [exec_of_portRow hrow, s.serve_accepted _ _ _ hready hcheck, State.replies_head]

end

/-- A code outside the twelve gives UNKNOWN alone. -/
theorem exec_unknownCommand_of_ready {code : Byte} {s : State} (hready : s.port.ready = true)
    (hcode : code ∉ commandCodes) (args : List Byte) :
    exec (.unknownCommand code args) s = .next (s.replied args [0x07] s) := by
  rw [exec_unknownCommand, execUnknownCommand, if_neg (by rwa [List.contains_iff_mem]), if_pos hready,
    State.replies_head, ResultCode.byte]

end Sys2Proof.Machine
end

section
open Sys2Proof Sys2Proof.Machine

/-- Settles O3, check by check: the first of length, station life and role that fails refuses the command, and one that
passes them acts by its own rule. -/
theorem portChecksInOrder : Obligations.PortChecksInOrder := by
  refine fun s hready => ⟨fun code args hcode => exec_unknownCommand_of_ready hready hcode args, fun c r hrow => ?_⟩
  have hroleIff := any_role_ne_iff r.onlyRole s.role
  split_ifs with hlen hlife hrole
  · exact exec_refused hready hrow (PortCommand.check_of_length_ne hlen)
  · exact exec_refused hready hrow (PortCommand.check_of_unconfigured (not_not.1 hlen) hlife)
  · exact exec_refused hready hrow
      (PortCommand.check_of_role_ne (not_not.1 hlen) hlife ⟨hrole.1, hroleIff.2 hrole.2⟩)
  · have hpass : r.command.check r.args s = none :=
      PortCommand.check_of_passes (not_not.1 hlen) hlife fun ⟨hrun, hne⟩ => hrole ⟨hrun, hroleIff.1 hne⟩
    obtain ⟨code, hcode, rest, hresult⟩ := portAct_result s hrow
    exact ⟨code, hcode, rest, _, by rw [exec_accepted hready hrow hpass, hresult]⟩

end

section
/-! PROOFS. Fields of a record read by their offsets: bounds, a field in two parts, and a field of one byte. -/

namespace Sys2Proof.Machine

/-! ### The value of bytes -/

theorem ofBytes_append (as bs : List Byte) : ofBytes (as ++ bs) = ofBytes as * 256 ^ bs.length + ofBytes bs := by
  induction bs using List.reverseRecOn with
  | nil => simp only [List.append_nil, List.length_nil, pow_zero, Nat.mul_one, ofBytes, List.foldl_nil, Nat.add_zero]
  | append_singleton bs b ih =>
    rw [← List.append_assoc, ofBytes_append_singleton, ih, ofBytes_append_singleton, List.length_append,
      List.length_singleton, pow_succ]
    ring

theorem ofBytes_lt (bs : List Byte) : ofBytes bs < 256 ^ bs.length := by
  induction bs using List.reverseRecOn with
  | nil => exact Nat.one_pos
  | append_singleton bs b ih =>
    have hb : b.toNat < 256 := b.isLt
    rw [ofBytes_append_singleton, List.length_append, List.length_singleton, pow_succ]
    omega

/-! ### The value of a field -/

section
variable (bs : List Byte) (off : Nat)

theorem fieldAt_lt (len : Nat) : fieldAt bs off len < 256 ^ len :=
  (ofBytes_lt _).trans_le (Nat.pow_le_pow_right (by decide) (List.length_take_le ..))

/-- A field read in two parts. -/
theorem fieldAt_add (m n : Nat) (h : off + m + n ≤ bs.length) :
    fieldAt bs off (m + n) = fieldAt bs off m * 256 ^ n + fieldAt bs (off + m) n := by
  have hlen : (((bs.drop off).drop m).take n).length = n := by
    rw [List.length_take, List.length_drop, List.length_drop]
    omega
  rw [fieldAt, List.take_add, ofBytes_append, hlen, List.drop_drop, fieldAt, fieldAt]

/-- A field of one byte is the byte that stands there. -/
theorem getElem?_eq_fieldAt (h : off < bs.length) : bs[off]? = some (BitVec.ofNat 8 (fieldAt bs off 1)) := by
  have hfield : fieldAt bs off 1 = bs[off].toNat := by
    rw [fieldAt, List.drop_eq_getElem_cons h, List.take_succ_cons, List.take_zero, ofBytes_singleton]
  rw [hfield, BitVec.ofNat_toNat, BitVec.setWidth_eq, List.getElem?_eq_getElem h]

/-- A field of `len` bytes fills an identity of 8 times as many bits whole. -/
theorem toNat_ofNat_fieldAt (len : Nat) : (BitVec.ofNat (8 * len) (fieldAt bs off len)).toNat = fieldAt bs off len := by
  rw [BitVec.toNat_ofNat, pow_mul, show 2 ^ 8 = 256 from rfl, Nat.mod_eq_of_lt (fieldAt_lt bs off len)]

end

theorem toBytes_one (n : Nat) : toBytes 1 n = [BitVec.ofNat 8 n] := by
  rw [toBytes, pow_zero, Nat.div_one, toBytes]

end Sys2Proof.Machine
end

section
/-! PROOFS. The checks of START's record (R175): the identity of the record by its district and number, and the first
refused field that fails as the rule reads it. -/

namespace Sys2Proof.Machine

section
variable {args : List Byte} (hlen : args.length = 43)
include hlen

/-- The station id of the record is its district byte above its number. -/
theorem fieldAt_stationId : fieldAt args 1 3 = fieldAt args 1 1 * 65536 + fieldAt args 2 2 :=
  fieldAt_add args 1 1 2 (by omega)

theorem district_stationId : district (readRecord args).stationId = fieldAt args 1 1 := by
  have hnum : fieldAt args 2 2 < 65536 := fieldAt_lt args 2 2
  have hid : (readRecord args).stationId.toNat = fieldAt args 1 3 := toNat_ofNat_fieldAt args 1 3
  rw [district, hid, fieldAt_stationId hlen]
  omega

theorem number_stationId : number (readRecord args).stationId = fieldAt args 2 2 := by
  have hnum : fieldAt args 2 2 < 65536 := fieldAt_lt args 2 2
  have hid : (readRecord args).stationId.toNat = fieldAt args 1 3 := toNat_ofNat_fieldAt args 1 3
  rw [number, hid, fieldAt_stationId hlen]
  omega

/-- The record's checks fail at the field that R175 names. -/
theorem startFailure_eq_refusedField :
    startFailure args = (readRecord args).refusedField.map (BitVec.ofNat 8) := by
  have hempty : fieldAt args 5 2 < 200 ∨ 4000 < fieldAt args 5 2 ↔
      ¬ (200 ≤ fieldAt args 5 2 ∧ fieldAt args 5 2 ≤ 4000) := by omega
  have hfull : fieldAt args 7 2 < 50 ∨ fieldAt args 5 2 < fieldAt args 7 2 + 100 ↔
      ¬ (50 ≤ fieldAt args 7 2 ∧ fieldAt args 7 2 + 100 ≤ fieldAt args 5 2) := by omega
  have hrecord : (readRecord args).role = fieldAt args 0 1 ∧ (readRecord args).bytes = args := ⟨rfl, rfl⟩
  simp only [startFailure, RawRecord.refusedField, validBinId, validGatewayId, district_stationId hlen,
    number_stationId hlen, hrecord, decide_eq_false_iff_not, hempty, hfull, gt_iff_lt]
  obtain hbin | hgateway | hneither : fieldAt args 0 1 = 0 ∨ fieldAt args 0 1 = 1 ∨ 1 < fieldAt args 0 1 := by omega
  · simp [hbin, and_assoc, apply_ite (Option.map _)]
  · simp [hgateway, and_assoc, apply_ite (Option.map _)]
  · rw [if_pos hneither, if_pos hneither]
    rfl

end

/-! ### What START does -/

section
variable {s : State} {args : List Byte}

theorem State.startAct_running (hrun : s.running = true) : s.startAct args = (s, [0x01]) := if_pos hrun

theorem State.startAct_refused (hrun : s.running = false) {n : Nat} (h : (readRecord args).refusedField = some n) :
    s.startAct args = (s, [0x04, BitVec.ofNat 8 n]) := by
  simp only [State.startAct, hrun, Bool.false_eq_true, if_false, h, toBytes_one, ResultCode.byte]

theorem State.startAct_accepted (hrun : s.running = false) (h : (readRecord args).refusedField = none) :
    s.startAct args =
      (s.startRunning (readRecord args).apply.1 (readRecord args).noticeMask,
        0x00 :: BitVec.ofNat 8 (readRecord args).apply.2.length :: (readRecord args).apply.2.map (BitVec.ofNat 8)) := by
  simp only [State.startAct, hrun, Bool.false_eq_true, if_false, h, toBytes_one, ResultCode.byte, List.cons_append,
    List.nil_append]

/-- START is accepted in UNCONFIGURED and RUNNING and in both roles, so with 43 bytes no check of R172 refuses it. -/
theorem exec_start_of_length (hready : s.port.ready = true) (hlen : args.length = 43) :
    exec (.start args) s = .next (s.replied args (s.startAct args).2 (s.startAct args).1) := by
  have hcheck : PortCommand.start.check args s = none :=
    (PortCommand.start.check_eq_none args s).2 ⟨hlen, .inr rfl, fun _ => rfl⟩
  rw [exec_start, execStart, s.serve_accepted _ _ _ hready hcheck, State.replies_head]

end

end Sys2Proof.Machine
end

section
open Sys2Proof Sys2Proof.Machine

/-- Settles O11: past the checks of R172, START refuses in RUNNING, and in UNCONFIGURED names the first field that
fails. -/
theorem startRefuses : Obligations.StartRefuses := by
  refine fun s args hready hlen => ⟨fun hrun => ?_, fun n hrun hfail => ?_⟩
  · rw [exec_start_of_length hready hlen, State.startAct_running hrun]
  · rw [startFailure_eq_refusedField hlen] at hfail
    obtain ⟨k, hk, rfl⟩ := Option.map_eq_some_iff.1 hfail
    rw [exec_start_of_length hready hlen, State.startAct_refused hrun hk]

end

section
/-! PROOFS. What an accepted record gives (R176): the value and the mark of a clamped field and of the listen period,
the rows of 10.4 as START applies them, and the list of the adjusted fields. -/

namespace Sys2Proof.Machine

/-! ### One field -/

section
variable (dflt lo hi v : Nat)

/-- A clamped field is its default for 0, and else the nearest value of its range. -/
theorem clampField_fst (hrange : lo ≤ hi) :
    (clampField dflt lo hi v).1 = if v = 0 then dflt else max lo (min hi v) := by
  unfold clampField
  split_ifs with hzero hlow hhigh
  · rfl
  · exact (max_eq_left (by omega)).symm
  · rw [min_eq_left hhigh.le, max_eq_right hrange]
  · rw [min_eq_right (by omega), max_eq_right (by omega)]

/-- A clamped field is adjusted exactly when it was given and the value applied is another. -/
theorem clampField_snd :
    (clampField dflt lo hi v).2 = (v != 0 && v != (clampField dflt lo hi v).1) := by
  unfold clampField
  split_ifs with hzero hlow hhigh
  · simp [hzero]
  · simp [hzero, hlow.ne]
  · simp [hzero, hhigh.ne']
  · simp

theorem listenField_zero : listenField 0 = (1000, false) := rfl

/-- The listen period changes half way between two of the four. -/
theorem listenField_cases (hv : v ≠ 0) :
    v < 375 ∧ (listenField v).1 = 250 ∨ (375 ≤ v ∧ v < 750) ∧ (listenField v).1 = 500 ∨
      (750 ≤ v ∧ v < 1500) ∧ (listenField v).1 = 1000 ∨ 1500 ≤ v ∧ (listenField v).1 = 2000 := by
  rw [listenField, if_neg hv]
  dsimp only
  split_ifs <;> omega

/-- The listen period is one of the four, none of them is nearer, and of two equally near ones it is the larger. -/
theorem listenField_nearest (hv : v ≠ 0) :
    (listenField v).1 ∈ [250, 500, 1000, 2000] ∧
      ∀ p ∈ [250, 500, 1000, 2000], apart (listenField v).1 v ≤ apart p v ∧
        (apart (listenField v).1 v = apart p v → p ≤ (listenField v).1) := by
  have hcases := listenField_cases v hv
  simp only [List.mem_cons, List.not_mem_nil, or_false, apart]
  exact ⟨by omega, fun p hp => ⟨by omega, fun htie => by omega⟩⟩

theorem listenField_snd : (listenField v).2 = (v != 0 && v != (listenField v).1) := by
  by_cases hzero : v = 0
  · rw [hzero, listenField_zero]; rfl
  · have hsnd : (listenField v).2 = decide ((listenField v).1 ≠ v) := by rw [listenField, if_neg hzero]
    rw [hsnd, bne_iff_ne.2 hzero, Bool.true_and, Bool.eq_iff_iff, decide_eq_true_iff, bne_iff_ne, ne_comm]

/-- A field of another role is taken as it stands. -/
theorem onlyIf_true (field : Nat → Nat × Bool) : onlyIf true field v = field v := rfl

/-- A field's mark is its own in the role it is for, and no otherwise. -/
theorem onlyIf_snd (applies : Bool) (field : Nat → Nat × Bool)
    (hfield : (field v).2 = (v != 0 && v != (field v).1)) :
    (onlyIf applies field v).2 = (applies && v != 0 && v != (onlyIf applies field v).1) := by
  cases applies with
  | true => rw [onlyIf_true, hfield, Bool.true_and]
  | false => rfl

end

/-! ### The rows of 10.4 as START applies them -/

/-- What START makes of a row's field of the record: the value applied and whether it is adjusted. -/
def ConfigRow.applied (record : List Byte) (bin : Bool) (r : ConfigRow) : Nat × Bool :=
  onlyIf (!r.binOnly || bin) (clampField r.dflt r.lo r.hi) (fieldAt record r.offset r.bytes)

/-- The fifteen rows in field order. -/
def fieldRows (c : HeldConfig) : List ConfigRow := (clampedRows c).take 5 ++ listenRow c :: (clampedRows c).drop 5

theorem fieldRows_numbers (c : HeldConfig) :
    (fieldRows c).map ConfigRow.number = [6, 7, 8, 9, 10, 12, 13, 14, 15, 16, 17, 18, 19, 20, 24] := rfl

theorem fieldRows_perm (c : HeldConfig) : (fieldRows c).Perm (listenRow c :: clampedRows c) :=
  List.perm_middle

theorem clampedRows_lo_le_hi (c : HeldConfig) :
    ∀ r ∈ clampedRows c, r.binOnly = false ∨ c.imminentHorizon ≤ 4320 → r.lo ≤ r.hi := by
  simp [clampedRows]

/-- The adjusted fields in field order are the adjusted rows' numbers, which rise. -/
theorem adjustedNumbers_eq_filter (record : List Byte) (c : HeldConfig) :
    adjustedNumbers record c = ((fieldRows c).filter (fun r => r.adjusted record c)).map ConfigRow.number := by
  have hrising : ((fieldRows c).map ConfigRow.number).Pairwise (· < ·) := by rw [fieldRows_numbers]; decide
  have hbound : ∀ n ∈ (fieldRows c).map ConfigRow.number, n < 26 := by rw [fieldRows_numbers]; decide
  refine List.Pairwise.eq_of_mem_iff (r := (· < ·)) (List.pairwise_lt_range.filter _)
    (hrising.sublist (List.filter_sublist.map _)) fun n => ?_
  simp only [adjustedNumbers, List.mem_filter, List.mem_range, List.any_eq_true, Bool.and_eq_true, beq_iff_eq,
    List.mem_map, ← (fieldRows_perm c).mem_iff]
  constructor
  · rintro ⟨-, r, hr, rfl, hadjusted⟩
    exact ⟨r, ⟨hr, hadjusted⟩, rfl⟩
  · rintro ⟨r, ⟨hr, hadjusted⟩, rfl⟩
    exact ⟨hbound _ (List.mem_map_of_mem hr), r, hr, rfl, hadjusted⟩

theorem adjustedNumbers_length (record : List Byte) (c : HeldConfig) : (adjustedNumbers record c).length ≤ 15 := by
  rw [adjustedNumbers_eq_filter, List.length_map]
  exact List.length_filter_le ..

/-! ### The configuration of an accepted record -/

section
variable (args : List Byte)

/-- The configuration that START holds for a record. -/
def appliedConfig : HeldConfig := (readRecord args).apply.1

/-- The record is of the bin role. -/
def recordIsBin : Bool := decide (fieldAt args 0 1 = 0)

theorem appliedConfig_role : (appliedConfig args).role = if recordIsBin args then .bin else .gateway := rfl

theorem appliedConfig_role_beq : ((appliedConfig args).role == .bin) = recordIsBin args := by
  rw [appliedConfig_role]
  cases recordIsBin args <;> rfl

theorem appliedConfig_role_eq : (appliedConfig args).role = .bin ↔ recordIsBin args = true := by
  rw [← appliedConfig_role_beq, beq_iff_eq]

theorem appliedConfig_held :
    ∀ r ∈ clampedRows (appliedConfig args), r.held = (r.applied args (recordIsBin args)).1 := by
  simp only [clampedRows, List.forall_mem_cons]
  exact ⟨rfl, rfl, rfl, rfl, rfl, rfl, rfl, rfl, rfl, rfl, rfl, rfl, rfl, rfl, List.forall_mem_nil _⟩

theorem appliedConfig_listenPeriod :
    (appliedConfig args).listenPeriod = (onlyIf (recordIsBin args) listenField (fieldAt args 21 2)).1 := rfl

/-- A clamped row is adjusted as it is marked. -/
theorem clampedRow_adjusted {r : ConfigRow} (hr : r ∈ clampedRows (appliedConfig args)) :
    r.adjusted args (appliedConfig args) = (r.applied args (recordIsBin args)).2 := by
  rw [ConfigRow.adjusted, appliedConfig_role_beq, appliedConfig_held args r hr, ConfigRow.applied,
    onlyIf_snd _ _ _ (clampField_snd ..)]

theorem listenRow_adjusted :
    (listenRow (appliedConfig args)).adjusted args (appliedConfig args) =
      (onlyIf (recordIsBin args) listenField (fieldAt args 21 2)).2 := by
  rw [ConfigRow.adjusted, appliedConfig_role_beq, onlyIf_snd _ _ _ (listenField_snd _)]
  rfl

/-- The numbers of the fields in field order, each with the mark START gives it. -/
def fieldMarks : List (Nat × Bool) :=
  ((clampedRows (appliedConfig args)).take 5).map (fun r => (r.number, (r.applied args (recordIsBin args)).2)) ++
    (12, (onlyIf (recordIsBin args) listenField (fieldAt args 21 2)).2) ::
      ((clampedRows (appliedConfig args)).drop 5).map (fun r => (r.number, (r.applied args (recordIsBin args)).2))

theorem apply_snd_eq_marked :
    (readRecord args).apply.2 = ((fieldMarks args).filter (fun p => p.2)).map (fun p => p.1) := rfl

/-- A field is marked when it is adjusted. -/
theorem fieldMarks_eq_adjusted :
    fieldMarks args =
      (fieldRows (appliedConfig args)).map (fun r => (r.number, r.adjusted args (appliedConfig args))) := by
  have hmarks : ∀ rows : List ConfigRow, rows ⊆ clampedRows (appliedConfig args) →
      rows.map (fun r => (r.number, (r.applied args (recordIsBin args)).2)) =
        rows.map (fun r => (r.number, r.adjusted args (appliedConfig args))) := fun rows hrows =>
    List.map_congr_left fun r hr => by rw [clampedRow_adjusted args (hrows hr)]
  rw [fieldMarks, hmarks _ (List.take_subset ..), hmarks _ (List.drop_subset ..), ← listenRow_adjusted, fieldRows,
    List.map_append, List.map_cons, listenRow]

/-- START returns exactly the adjusted fields. -/
theorem apply_snd_eq_adjustedNumbers : (readRecord args).apply.2 = adjustedNumbers args (appliedConfig args) := by
  rw [apply_snd_eq_marked, fieldMarks_eq_adjusted, adjustedNumbers_eq_filter, List.filter_map, List.map_map]
  rfl

/-- In the bin role H1 as applied, where H2's range begins, ends below H2's end. -/
theorem appliedConfig_imminentHorizon_le (hbin : (appliedConfig args).role = .bin) :
    (appliedConfig args).imminentHorizon ≤ 1440 := by
  have hh1 : (appliedConfig args).imminentHorizon =
      (onlyIf (recordIsBin args) (clampField 240 30 1440) (fieldAt args 11 2)).1 := rfl
  rw [hh1, (appliedConfig_role_eq args).1 hbin, onlyIf_true, clampField_fst _ _ _ _ (by decide)]
  split_ifs <;> omega

/-- A clamped field of the started role is its default where the record gives 0, and else the value moved into its
range. -/
theorem appliedConfig_clamped {r : ConfigRow} (hr : r ∈ clampedRows (appliedConfig args))
    (hrole : r.binOnly = false ∨ (appliedConfig args).role = .bin) :
    r.held = if fieldAt args r.offset r.bytes = 0 then r.dflt
      else max r.lo (min r.hi (fieldAt args r.offset r.bytes)) := by
  have happlies : (!r.binOnly || recordIsBin args) = true := by
    rwa [appliedConfig_role_eq, ← Bool.not_eq_true', ← Bool.or_eq_true] at hrole
  have hrange : r.lo ≤ r.hi := by
    refine clampedRows_lo_le_hi _ r hr (hrole.imp_right fun hbin => ?_)
    exact (appliedConfig_imminentHorizon_le args hbin).trans (by decide)
  rw [appliedConfig_held args r hr, ConfigRow.applied, happlies, onlyIf_true, clampField_fst _ _ _ _ hrange]

theorem appliedConfig_listen_of_bin (hbin : (appliedConfig args).role = .bin) :
    (appliedConfig args).listenPeriod = (listenField (fieldAt args 21 2)).1 := by
  rw [appliedConfig_listenPeriod, (appliedConfig_role_eq args).1 hbin, onlyIf_true]

/-- The start sequence and the home filter are held as the record gives them. -/
theorem appliedConfig_given :
    (appliedConfig args).startSeq.toNat = fieldAt args 19 2 ∧
      (appliedConfig args).filterId.toNat = fieldAt args 34 3 ∧
        (appliedConfig args).filterMask.toNat = fieldAt args 37 3 :=
  ⟨toNat_ofNat_fieldAt args 19 2, toNat_ofNat_fieldAt args 34 3, toNat_ofNat_fieldAt args 37 3⟩

/-- The switches are the low bits of their byte; three of them are held inverted. -/
theorem appliedConfig_switches (hlen : args.length = 43) :
    ∃ sw : Byte, args[40]? = some sw ∧ (appliedConfig args).invert = sw.getLsbD 3 ∧
      (appliedConfig args).passingCarry = !sw.getLsbD 2 ∧ (appliedConfig args).homeGuard = !sw.getLsbD 1 ∧
      (appliedConfig args).autoRejoin = !sw.getLsbD 0 :=
  ⟨_, getElem?_eq_fieldAt args 40 (by omega), rfl, rfl, rfl, rfl⟩

end

/-! ### The state of an accepted START -/

/-- Leaving OFF and raising a notice keep the configuration and the mask that START sets. -/
theorem State.startRunning_holds (c : HeldConfig) (mask : FlagSet) (s : State) :
    (s.startRunning c mask).config = some c ∧ (s.startRunning c mask).port.mask = mask := by
  constructor
  · simp only [State.startRunning, apply_ite State.config, State.leaveOff_keeps, State.raise_keeps, ite_self]
  · simp only [State.startRunning, apply_ite State.port, apply_ite Port.mask, State.leaveOff_keeps, State.raise_mask,
      ite_self]

end Sys2Proof.Machine
end

section
open Sys2Proof Sys2Proof.Machine

/-- Settles O13: START holds the applied record, whose rows are those of 10.4, and returns the adjusted ones. -/
theorem startAppliesTheRecord : Obligations.StartAppliesTheRecord := by
  intro s args hready hlen hrun haccept
  have hfield : (readRecord args).refusedField = none := by
    rwa [startFailure_eq_refusedField hlen, Option.map_eq_none_iff] at haccept
  obtain ⟨hconfig, hmask⟩ := s.startRunning_holds (appliedConfig args) (readRecord args).noticeMask
  obtain ⟨hseq, hfilterId, hfilterMask⟩ := appliedConfig_given args
  refine ⟨appliedConfig args, _, hconfig, ?_, adjustedNumbers_length args _,
    fun r hr => appliedConfig_clamped args hr, fun hbin => ?_, hseq, hfilterId, hfilterMask,
    appliedConfig_switches args hlen, ?_⟩
  · rw [exec_start_of_length hready hlen, State.startAct_accepted hrun hfield, apply_snd_eq_adjustedNumbers,
      appliedConfig]
  · rw [appliedConfig_listen_of_bin args hbin]
    exact ⟨fun hzero => by rw [hzero, listenField_zero], listenField_nearest _⟩
  · rw [hmask]
    exact getElem?_eq_fieldAt args 42 (by omega)

end

section
/-! PROOFS. Whether a STAGED frame is eligible (R123), by the frame in STAGE and its payload. -/

namespace Sys2Proof.Machine

theorem Selector.staged_eq_some {sel : Selector} {f : FrameRec} :
    sel.staged = some f ↔ sel.stage = some { frame := f, cond := .staged } := by
  rw [Selector.staged]
  rcases sel.stage with _ | ⟨g, cond⟩
  · simp
  · cases cond <;> simp

section
variable {s : State} {f : FrameRec}

theorem State.stageEligible_of_staged (h : s.sel.stage = some { frame := f, cond := .staged }) :
    s.stageEligible = s.eligible f := by
  rw [State.stageEligible, Selector.staged_eq_some.2 h]

/-- What the selector reports eligible is a STAGED frame that would be eligible now. -/
theorem State.stageEligible_iff :
    s.stageEligible = true ↔ ∃ f, s.sel.stage = some { frame := f, cond := .staged } ∧ s.eligible f = true := by
  cases h : s.sel.staged with
  | some f =>
    have hf := Selector.staged_eq_some.1 h
    simp [State.stageEligible_of_staged hf, hf]
  | none =>
    refine iff_of_false (by simp [State.stageEligible, h]) ?_
    rintro ⟨f, hf, -⟩
    rw [Selector.staged_eq_some.2 hf] at h
    cases h

theorem FrameRec.lead_of_fill {lead : Frozen} {rest : List Frozen} {probe : Bool}
    (h : f.payload = .fill (lead :: rest) probe) : f.lead = some lead := by
  rw [FrameRec.lead, h]
  rfl

theorem State.eligible_fill_iff {lead : Frozen} {rest : List Frozen} {probe : Bool}
    (h : f.payload = .fill (lead :: rest) probe) :
    s.eligible f = true ↔
      probe = true ∨ s.mon.standing ≠ .mute ∧ (lead.origin = .own ∨ lead.report.cls = 0) ∨
        s.mon.standing = .active ∧ 1 ≤ s.sel.allowance := by
  have hexempt : f.leadExempt = true ↔ lead.origin = .own ∨ lead.report.cls = 0 := by
    simp [FrameRec.leadExempt, FrameRec.lead_of_fill h, Frozen.exempt]
  rw [State.eligible, h]
  cases probe with
  | true => simp
  | false =>
    by_cases he : f.leadExempt = true
    · have hl := hexempt.1 he
      cases hm : s.mon.standing <;> simp [he, hl]
    · have hl := mt hexempt.2 he
      simp [he, hl, FrameRec.lead_of_fill h]

theorem State.eligible_drain_iff {items : List (BinId × Seq)} (h : f.payload = .drain items) :
    s.eligible f = true ↔ s.mon.standing ≠ .mute := by
  simp [State.eligible, h]

theorem State.eligible_solicit_iff {target : Target} {n : Nat} (h : f.payload = .solicit target n) :
    s.eligible f = true ↔ s.mon.standing = .active := by
  simp [State.eligible, h]

end

end Sys2Proof.Machine
end

section
open Sys2Proof Sys2Proof.Machine

/-- Settles O27: the three kinds of frame, each by its own line of R123. -/
theorem eligibilityTable : Obligations.EligibilityTable := by
  refine fun s => ⟨fun h => ?_, fun f hf => ?_⟩
  · obtain ⟨f, hf, -⟩ := State.stageEligible_iff.1 h
    exact ⟨f, hf⟩
  · rw [State.stageEligible_of_staged hf]
    exact ⟨fun _ _ _ h => State.eligible_fill_iff h, fun _ h => State.eligible_drain_iff h,
      fun _ _ h => State.eligible_solicit_iff h⟩

/-- Settles O1: `step` is exec on the queue's rest. -/
theorem stepRunsTheFrontCommand : Obligations.StepRunsTheFrontCommand :=
  ⟨fun _ _ _ => rfl, fun s h => by rw [step, h]⟩

end

section
/-! PROOFS. Hard reset, its release and the clock (R80, R179): each of the four commands in the state that admits it. -/

namespace Sys2Proof.Machine

variable {s : State}

theorem exec_resetRelease_of_low (h : s.port.resetn = false) :
    exec .resetRelease s =
      .next { s with clock := 0, boundaryDue := false, port := { s.port with resetn := true, ready := false } } := by
  simp [execResetRelease, h]

theorem exec_portReady_of_high (h : s.port.resetn = true) :
    exec .portReady s = .next { s with port := { s.port with ready := true } } := by
  simp [execPortReady, h]

theorem exec_stationClockTick_of_lt (h : s.port.resetn = true) (hc : s.clock < Config.clockMax) :
    exec .stationClockTick s =
      .next { s with clock := s.clock + 1, boundaryDue := s.boundaryDue || decide ((s.clock + 1) % 60 = 0) } := by
  simp [execStationClockTick, h, hc]

theorem exec_stationClockTick_at_end (hc : s.clock = Config.clockMax) : exec .stationClockTick s = .next s := by
  simp [execStationClockTick, hc]

end Sys2Proof.Machine
end

section
open Sys2Proof Sys2Proof.Machine

/-- Settles O17: a minute boundary falls due at the multiples of 60. -/
theorem resetAndClock : Obligations.ResetAndClock := by
  refine fun s => ⟨rfl, exec_resetRelease_of_low, exec_portReady_of_high, fun h hc => ?_, exec_stationClockTick_at_end⟩
  rw [exec_stationClockTick_of_lt h hc]
  simp only [Nat.dvd_iff_mod_eq_zero]

end

section
/-! PROOFS. The rate step (R65, R66): the rate measured over at least 60 s, as an integer quotient with its bounds. -/

namespace Sys2Proof.Machine

/-- The measured rate is the integer quotient bounded to 0 to 65535; a fall of level gives 0. -/
theorem measuredRate_cast (l la dt : Nat) (hdt : 0 < dt) :
    (measuredRate l la dt : Int) = max 0 (min 65535 ((16 * 3600 * ((l : Int) - la)) / (dt : Int))) := by
  rw [measuredRate]
  rcases le_total la l with h | h
  · have hcast : ((l - la : Nat) : Int) = (l : Int) - la := Int.ofNat_sub h
    have hquot : 0 ≤ (16 * 3600 * ((l : Int) - la)) / (dt : Int) := Int.ediv_nonneg (by omega) (by omega)
    rw [← hcast] at hquot ⊢
    rw [max_eq_right (le_min (by decide) hquot)]
    norm_cast
  · have hquot : (16 * 3600 * ((l : Int) - la)) / (dt : Int) ≤ 0 :=
      Int.ediv_nonpos_of_nonpos_of_neg (by omega) (by omega)
    rw [Nat.sub_eq_zero_of_le h]
    simp only [Nat.mul_zero, Nat.zero_div]
    omega

theorem measuredRate_le (l la dt : Nat) : measuredRate l la dt ≤ 65535 := Nat.min_le_left ..

namespace Estimator
variable {t l la ta : Nat} {e : Estimator}

theorem rateStep_first (h : e.anchor = none) : e.rateStep t l = { e with anchor := some (l, t) } := by
  rw [rateStep, h]

theorem rateStep_hold (h : e.anchor = some (la, ta)) (ht : t - ta < 60) : e.rateStep t l = e := by
  rw [rateStep, h]
  exact if_pos ht

theorem rateStep_measure (h : e.anchor = some (la, ta)) (ht : 60 ≤ t - ta) :
    e.rateStep t l = { e with
      rate := if e.seeded then (3 * e.rate + measuredRate l la (t - ta)) / 4 else measuredRate l la (t - ta),
      seeded := true, anchor := some (l, t) } := by
  rw [rateStep, h]
  exact if_neg (by rw [Config.rateInterval]; omega)

end Estimator

end Sys2Proof.Machine
end

section
open Sys2Proof Sys2Proof.Machine

/-- Settles O21, by the anchor and the time since it. -/
theorem rateStepMeasures : Obligations.RateStepMeasures := by
  refine fun t l e => ⟨Estimator.rateStep_first, fun la ta h hle =>
    ⟨Estimator.rateStep_hold h, fun ht => ⟨measuredRate l la (t - ta), ?_, Estimator.rateStep_measure h ht, fun hr => ?_⟩⟩⟩
  · rw [measuredRate_cast _ _ _ (by omega), Int.ofNat_sub hle]
  · have hmeasured := measuredRate_le l la (t - ta)
    rw [Estimator.rateStep_measure h ht]
    dsimp only
    split <;> omega

end

section
/-! PROOFS. How a sample is taken (R57 to R60, R63, R64): its kind by the flags, the window of the last three ranges, and
what an admitted sample moves besides the figures. -/

namespace Sys2Proof.Machine

theorem sampleKind_eq (flags : Byte) (kind : BinKind) :
    sampleKind flags kind =
      if flags.getLsbD 2 = true then .lid else if flags.getLsbD 1 = true then .fault
      else if flags.getLsbD 0 = true ∧ kind = .compacting then .compaction else .plain := by
  simp only [sampleKind, Bool.and_eq_true, beq_iff_eq]

/-- The window holds the last three ranges. -/
theorem joinWindow_eq_drop {w : List Nat} (range : Nat) (hw : w.length ≤ 3) :
    joinWindow w range = (w ++ [range]).drop ((w ++ [range]).length - 3) := by
  rw [joinWindow, List.length_append, List.length_singleton]
  split
  · rw [show w.length + 1 - 3 = 0 by omega, List.drop_zero]
  · rw [show w.length + 1 - 3 = 1 by omega, List.drop_append_of_le_length (by omega)]

namespace Estimator
variable (c : HeldConfig) (t range level : Nat) (compaction : Bool) (e : Estimator)

theorem faultSample_eq :
    e.faultSample =
      { e with faultRun := min 3 (e.faultRun + 1), faultState := e.faultState || decide (2 ≤ e.faultRun) } := by
  have hrun : min 3 (e.faultRun + 1) = 3 ↔ 2 ≤ e.faultRun := by omega
  simp only [faultSample, bump, hrun]

theorem empties_iff : e.empties level = true ↔ ∃ p, e.figures = some p ∧ (level : Int) ≤ (p.level : Int) - 250 := by
  rw [empties]
  cases e.figures with
  | none => simp
  | some p =>
    rw [decide_eq_true_eq, Config.emptyingFall]
    simp only [Option.some.injEq, exists_eq_left']
    omega

theorem moveRate_compaction : e.moveRate t level true = { e with anchor := some (level, t) } := rfl

theorem moveRate_emptying (h : e.empties level = true) :
    e.moveRate t level false =
      { e with emptiedAt := some t, rate := 0, seeded := false, anchor := some (level, t) } := by
  simp [moveRate, h]

theorem moveRate_plain (h : e.empties level = false) : e.moveRate t level false = e.rateStep t level := by
  simp [moveRate, h]

/-- The rate step moves the rate, the seeded mark and the anchor alone. -/
theorem rateStep_keeps :
    e.rateStep t level = { e with rate := (e.rateStep t level).rate, seeded := (e.rateStep t level).seeded,
                                  anchor := (e.rateStep t level).anchor } := by
  rw [rateStep]
  split
  · rfl
  · split <;> rfl

/-- Step 5 of R60 moves the emptied time, the rate, the seeded mark and the anchor alone. -/
theorem moveRate_keeps :
    e.moveRate t level compaction =
      { e with emptiedAt := (e.moveRate t level compaction).emptiedAt, rate := (e.moveRate t level compaction).rate,
               seeded := (e.moveRate t level compaction).seeded, anchor := (e.moveRate t level compaction).anchor } := by
  cases compaction with
  | true => rfl
  | false =>
    cases h : e.empties level with
    | true => rw [moveRate_emptying t level e h]
    | false =>
      rw [moveRate_plain t level e h, rateStep_keeps]

/-- The level of the sample that joins the window. -/
def levelAfter : Nat := (levelOf c.emptyDist c.fullDist (filteredRange (joinWindow e.window range))).1

theorem admitRange_level :
    (figuresOf c (joinWindow e.window range) (e.admitRange c t range compaction).1.rate).level =
      e.levelAfter c range := rfl

/-- An admitted sample, as step 5 leaves the estimator, with the fault marks cleared and the figures of the window. -/
theorem admitRange_fst :
    (e.admitRange c t range compaction).1 =
      { e.moveRate t (e.levelAfter c range) compaction with
        faultRun := 0, faultState := false, window := joinWindow e.window range, sampleSince := true,
        figures := some (figuresOf c (joinWindow e.window range)
          (e.moveRate t (e.levelAfter c range) compaction).rate) } := rfl

theorem admitRange_snd :
    (e.admitRange c t range compaction).2 = (!compaction && e.empties (e.levelAfter c range)) := rfl

end Estimator

end Sys2Proof.Machine
end

section
open Sys2Proof Sys2Proof.Machine

/-- Settles O22: the kinds by the flags, and an admitted sample by compaction, emptying or rate step. -/
theorem samplesAreTaken : Obligations.SamplesAreTaken := by
  refine ⟨⟨sampleKind_eq, fun c t range e => ⟨rfl, by rw [Estimator.takeSample, e.faultSample_eq], rfl, rfl⟩⟩,
    fun c t range compaction e hw => ⟨_, _, _, Prod.mk.eta.symm, e.admitRange_figures .., joinWindow_eq_drop range hw,
      rfl, rfl, rfl, ?_, ?_, ?_, ?_,
      fun h => ?_, fun h => ?_, fun h hne => ?_⟩⟩
  · exact (congrArg Estimator.lastReport (e.moveRate_keeps t (e.levelAfter c range) compaction) :)
  · exact (congrArg Estimator.nextSeq (e.moveRate_keeps t (e.levelAfter c range) compaction) :)
  · exact (congrArg Estimator.lidHeld (e.moveRate_keeps t (e.levelAfter c range) compaction) :)
  · change (!compaction && e.empties (e.levelAfter c range)) = true ↔ _
    rw [Bool.and_eq_true, Bool.not_eq_true', e.empties_iff]
    rfl
  · subst h
    exact ⟨rfl, rfl, rfl, rfl⟩
  · obtain ⟨hcomp, hempty⟩ : compaction = false ∧ e.empties (e.levelAfter c range) = true := by
      simpa using (e.admitRange_snd c t range compaction).symm.trans h
    subst hcomp
    rw [e.admitRange_fst, e.moveRate_emptying t _ hempty]
    exact ⟨rfl, rfl, rfl, rfl⟩
  · subst h
    have hempty : e.empties (e.levelAfter c range) = false := hne
    rw [e.admitRange_fst, e.moveRate_plain t _ hempty]
    have hkeeps := e.rateStep_keeps t (e.levelAfter c range)
    exact ⟨by rw [hkeeps], rfl, rfl, rfl⟩

end

section
/-! PROOFS. The monitor's arithmetic (R142 to R149): an echo outcome, a good frame and a bad frame, in MUTE and outside
it. -/

namespace Sys2Proof.Machine

/-- The standing that the counts give outside MUTE (R144). -/
def standingOf (sendFailure receptionFault : Nat) : Standing :=
  if 127 < sendFailure ∨ 127 < receptionFault then .quiet else .active

theorem standingOf_eq_quiet (x y : Nat) : standingOf x y = .quiet ↔ 127 < x ∨ 127 < y := by
  rw [standingOf]
  split_ifs with h
  · exact iff_of_true rfl h
  · exact iff_of_false (by decide) h

theorem standingOf_eq_active (x y : Nat) : standingOf x y = .active ↔ x ≤ 127 ∧ y ≤ 127 := by
  rw [standingOf]
  split_ifs with h
  · exact iff_of_false (by decide) (by omega)
  · exact iff_of_true rfl (by omega)

theorem standingOf_ne_mute (x y : Nat) : standingOf x y ≠ .mute := by
  rw [standingOf]
  split <;> decide

namespace Monitor
variable {m : Monitor} (autoRejoin clash : Bool) (interval : Nat)

theorem work_eq (m : Monitor) : m.work = { m with standing := standingOf m.sendFailure m.receptionFault } := rfl

section
variable (h : m.standing ≠ .mute)
include h

theorem outcome_echoed :
    m.outcome true autoRejoin interval =
      { m with sendFailure := m.sendFailure - 1, standing := standingOf (m.sendFailure - 1) m.receptionFault } := by
  rw [outcome, if_neg h, if_pos rfl, work_eq]

theorem outcome_unechoed_lt (hlt : m.sendFailure + 8 < 256) :
    m.outcome false autoRejoin interval =
      { m with sendFailure := m.sendFailure + 8, standing := standingOf (m.sendFailure + 8) m.receptionFault } := by
  have hmin : min 256 (m.sendFailure + 8) = m.sendFailure + 8 := by omega
  simp [outcome, h, Config.muteCount, Config.unechoedStep, hmin, hlt.ne, work_eq]

theorem outcome_unechoed_ge (hge : 256 ≤ m.sendFailure + 8) :
    m.outcome false autoRejoin interval =
      { sendFailure := 256, receptionFault := m.receptionFault, standing := .mute, recovery := 0,
        armed := autoRejoin, probeTimer := interval } := by
  have hmin : min 256 (m.sendFailure + 8) = 256 := by omega
  simp [outcome, h, Config.muteCount, Config.unechoedStep, hmin, enterMute]

theorem good_of_not_mute :
    m.good clash = { m with receptionFault := faultAfterGood m.receptionFault,
                            standing := standingOf m.sendFailure (faultAfterGood m.receptionFault) } := by
  rw [good, if_neg h, work_eq]

theorem bad_of_not_mute :
    m.bad = { m with receptionFault := min 255 (m.receptionFault + 1),
                     standing := standingOf m.sendFailure (min 255 (m.receptionFault + 1)) } := by
  rw [bad, if_neg h, work_eq]
  rfl

end

section
variable (h : m.standing = .mute)
include h

theorem outcome_echoed_mute :
    m.outcome true autoRejoin interval =
      { m with sendFailure := 128, standing := .quiet, recovery := 0, armed := false } := by
  rw [outcome, if_pos h, if_pos rfl, Config.probeEchoedCount]

theorem outcome_unechoed_mute : m.outcome false autoRejoin interval = { m with sendFailure := 256 } := by
  rw [outcome, if_pos h, if_neg Bool.false_ne_true, Config.muteCount]

theorem good_mute_uncounted (hc : m.armed = false ∨ clash = true) :
    m.good clash = { m with receptionFault := faultAfterGood m.receptionFault } := by
  rw [good, if_pos h, if_neg]
  rcases hc with hc | hc <;> simp [hc]

theorem good_mute_counted (ha : m.armed = true) (hc : clash = false) (hlt : m.recovery + 1 < 128) :
    m.good clash =
      { m with receptionFault := faultAfterGood m.receptionFault, recovery := m.recovery + 1 } := by
  rw [good, if_pos h, if_pos (by simp [ha, hc]), if_neg (by rw [Config.recoveryGoal]; omega)]

theorem good_mute_recovered (ha : m.armed = true) (hc : clash = false) (hge : 128 ≤ m.recovery + 1) :
    m.good clash =
      { m with sendFailure := 0, receptionFault := 0, standing := .active, recovery := 0, armed := false } := by
  rw [good, if_pos h, if_pos (by simp [ha, hc]), if_pos (by rwa [Config.recoveryGoal])]

theorem bad_mute : m.bad = { m with receptionFault := min 255 (m.receptionFault + 1) } := by
  rw [bad, if_pos h]
  rfl

end

end Monitor

end Sys2Proof.Machine
end

section
open Sys2Proof Sys2Proof.Machine

/-- Settles O38, outside MUTE and in it, event by event. -/
theorem monitorArithmetic : Obligations.MonitorArithmetic := by
  refine fun m autoRejoin clash interval => ⟨standingOf, standingOf_eq_quiet, standingOf_eq_active, fun h => ?_,
    fun h => ?_⟩
  · exact ⟨Monitor.outcome_echoed _ _ h, Monitor.outcome_unechoed_lt _ _ h, Monitor.outcome_unechoed_ge _ _ h,
      fun y hy => by rw [hy]; exact Monitor.good_of_not_mute clash h, Monitor.bad_of_not_mute h⟩
  · refine ⟨Monitor.outcome_echoed_mute _ _ h, Monitor.outcome_unechoed_mute _ _ h, fun y hy => ?_, Monitor.bad_mute h⟩
    rw [hy]
    exact ⟨Monitor.good_mute_uncounted clash h, Monitor.good_mute_counted clash h,
      Monitor.good_mute_recovered clash h⟩

end

section
/-! PROOFS. Withdrawal and preemption (R128, R129): what a withdrawal leaves of the slots and the placement marks, and when
a frame is outranked. -/

namespace Sys2Proof.Machine

/-- Every entry loses its placement mark. -/
def unplaceAll (t : List Entry) : List Entry := t.map (fun e => { e with placed := .unplaced })

/-- Every entry placed in BUILD loses its placement mark. -/
def unplaceBuilt (t : List Entry) : List Entry :=
  t.map (fun e => { e with placed := if e.placed = .build then .unplaced else e.placed })

theorem State.withdrawBoth_eq (s : State) :
    s.withdrawBoth = { s with sel := { s.sel with build := none, stage := none }, table := unplaceAll s.table } := by
  have htable : movePlacement .stage .unplaced (movePlacement .build .unplaced s.table) = unplaceAll s.table := by
    rw [movePlacement, movePlacement, List.map_map]
    refine List.map_congr_left fun e _ => ?_
    rcases e with ⟨_, _, _, _, _, _, _, placed, _⟩
    cases placed <;> rfl
  rw [State.withdrawBoth, htable]

theorem State.withdrawBuild_eq (s : State) :
    s.withdrawBuild = { s with sel := { s.sel with build := none }, table := unplaceBuilt s.table } := by
  have htable : movePlacement .build .unplaced s.table = unplaceBuilt s.table := by
    refine List.map_congr_left fun e _ => ?_
    split <;> rfl
  rw [State.withdrawBuild, htable]

/-- A frame is outranked by a new candidate exactly where its lead has a larger class. -/
theorem FrameRec.outranked_iff (f : FrameRec) (fresh : List Urgency) :
    f.outranked fresh = true ↔
      ∃ lead rest probe, f.payload = .fill (lead :: rest) probe ∧ ∃ c ∈ fresh, c < lead.report.cls := by
  rw [FrameRec.outranked, FrameRec.lead]
  rcases f.payload with ⟨_ | ⟨lead, rest⟩, probe⟩ | items | ⟨target, n⟩ <;> simp

section
variable {s : State} {fresh : List Urgency} {x : StageSlot} (hx : s.sel.stage = some x)
include hx

theorem State.preempt_staged (hc : x.cond = .staged) (ho : x.frame.outranked fresh = true) :
    s.preempt fresh = s.withdrawBoth := by
  simp [State.preempt, hx, hc, ho]

theorem State.preempt_staged_not (hc : x.cond = .staged) (ho : ¬ x.frame.outranked fresh = true) :
    s.preempt fresh = s := by
  simp [State.preempt, hx, hc, ho]

theorem State.preempt_behind (hc : x.cond ≠ .staged) {f : FrameRec} (hf : s.sel.build = some f)
    (ho : f.outranked fresh = true) : s.preempt fresh = s.withdrawBuild := by
  simp [State.preempt, hx, hc, hf, ho]

theorem State.preempt_behind_not (hc : x.cond ≠ .staged)
    (ho : ∀ f, s.sel.build = some f → ¬ f.outranked fresh = true) : s.preempt fresh = s := by
  cases hf : s.sel.build with
  | none => simp [State.preempt, hx, hc, hf]
  | some f => simp [State.preempt, hx, hc, hf, ho f hf]

end

end Sys2Proof.Machine
end

section
open Sys2Proof Sys2Proof.Machine

/-- Settles O48, by the condition of STAGE and whether the lead is outranked. -/
theorem preemptionWithdraws : Obligations.PreemptionWithdraws := by
  refine fun s fresh x hx => ⟨fun f => f.outranked fresh = true, fun f => f.outranked_iff fresh, fun hc ho => ?_,
    State.preempt_staged_not hx, fun hc f hf ho => ?_, State.preempt_behind_not hx⟩
  · rw [State.preempt_staged hx hc ho, s.withdrawBoth_eq, unplaceAll]
  · rw [State.preempt_behind hx hc hf ho, s.withdrawBuild_eq, unplaceBuilt]

end

section
/-! PROOFS. The NOTICE line and vector and the status byte (R173, R180, R181), bit by bit. -/

namespace Sys2Proof.Machine

/-! ### Notices -/

theorem Notice.vector_range (n : Notice) : 1 ≤ n.vector ∧ n.vector ≤ 8 := by cases n <;> decide

theorem Notice.vector_surj {i : Nat} (h : i < 8) : ∃ n : Notice, n.vector = i + 1 := by
  have hall : ∀ i < 8, ∃ n ∈ [Notice.standing, .overrun, .refusal, .seqJump, .solicited, .ownSent, .ownIssued, .exportReady],
      n.vector = i + 1 := by decide
  obtain ⟨n, -, hn⟩ := hall i h
  exact ⟨n, hn⟩

/-- The bit of a notice is 8 less its vector number (R180). -/
theorem Notice.bit_getLsbD (n : Notice) (i : Nat) : n.bit.getLsbD i = decide (i + n.vector = 8) := by
  by_cases hi : i < 8
  · cases n <;> revert i <;> decide
  · rw [BitVec.getLsbD_of_ge _ _ (by omega), eq_comm, decide_eq_false_iff_not]
    have := n.vector_range
    omega

namespace Port
variable (p : Port)

theorem shows_iff (n : Notice) : p.shows n ↔ p.showing.getLsbD (8 - n.vector) = true := by
  have hn := n.vector_range
  rw [shows, showing, BitVec.getLsbD_and, BitVec.getLsbD_not, decide_eq_true (by omega : 8 - n.vector < 8)]
  simp

theorem noticeLine_iff : p.noticeLine = true ↔ ∃ n, p.shows n := by
  have hzero : p.showing ≠ 0 ↔ ∃ i < 8, p.showing.getLsbD i = true := by
    rw [ne_eq, BitVec.eq_of_getLsbD_eq_iff]
    simp [BitVec.getLsbD_zero]
  rw [noticeLine, bne_iff_ne, hzero]
  simp only [p.shows_iff]
  constructor
  · rintro ⟨i, hi, h⟩
    obtain ⟨n, hn⟩ := Notice.vector_surj (i := 7 - i) (by omega)
    exact ⟨n, by rwa [show 8 - n.vector = i by omega]⟩
  · rintro ⟨n, h⟩
    have hn := n.vector_range
    exact ⟨8 - n.vector, by omega, h⟩

/-- The vector is 0 exactly when nothing shows. -/
theorem noticeVector_eq_zero : p.noticeVector = 0 ↔ p.noticeLine = false := by
  rw [← Bool.not_eq_true, noticeLine_iff, not_exists, noticeVector]
  rcases hf : (List.range 8).find? (fun i => p.showing.getLsbD (7 - i)) with _ | i
  · rw [List.find?_eq_none] at hf
    refine iff_of_true rfl fun n hn => ?_
    have hv := n.vector_range
    refine hf (n.vector - 1) (List.mem_range.2 (by omega)) ?_
    rwa [show 7 - (n.vector - 1) = 8 - n.vector by omega, ← p.shows_iff]
  · refine iff_of_false (Nat.succ_ne_zero i) fun hnone => ?_
    obtain ⟨n, hn⟩ := Notice.vector_surj (List.mem_range.1 (List.mem_of_find?_eq_some hf))
    exact hnone n ((p.shows_iff n).2 (by
      rw [show 8 - n.vector = 7 - i by omega]
      exact List.find?_some (p := fun i => p.showing.getLsbD (7 - i)) hf))

/-- The vector is the number of the one flag that shows with none of higher priority. -/
theorem noticeVector_eq_vector (n : Notice) :
    p.noticeVector = n.vector ↔ p.shows n ∧ ∀ m : Notice, m.vector < n.vector → ¬ p.shows m := by
  have hn := n.vector_range
  have hfind : p.noticeVector = n.vector ↔
      (List.range 8).find? (fun i => p.showing.getLsbD (7 - i)) = some (n.vector - 1) := by
    rw [noticeVector]
    rcases (List.range 8).find? (fun i => p.showing.getLsbD (7 - i)) with _ | i
    · simp only [reduceCtorEq, iff_false]
      omega
    · simp only [Option.some.injEq]
      omega
  rw [hfind, List.find?_range_eq_some]
  simp only [p.shows_iff, List.mem_range]
  refine ⟨fun ⟨hshow, _, hall⟩ => ⟨by rwa [show 8 - n.vector = 7 - (n.vector - 1) by omega], fun m hm => ?_⟩,
    fun ⟨hshow, hall⟩ => ⟨by rwa [show 7 - (n.vector - 1) = 8 - n.vector by omega], by omega, fun i hi => ?_⟩⟩
  · have hm1 := m.vector_range
    have hbit := hall (m.vector - 1) (by omega)
    rw [show 7 - (m.vector - 1) = 8 - m.vector by omega] at hbit
    simpa using hbit
  · obtain ⟨m, hm⟩ := Notice.vector_surj (i := i) (by omega)
    have hbit := hall m (by omega)
    rw [show 8 - m.vector = 7 - i by omega] at hbit
    simpa using hbit

end Port

end Sys2Proof.Machine
end

section
open Sys2Proof Sys2Proof.Machine

/-- Settles O5: line and vector are read off the flags that show, bit 8 less the vector number for each notice. -/
theorem noticeLineAndVector : Obligations.NoticeLineAndVector := by
  refine ⟨fun p => ⟨p.noticeLine_iff, p.noticeVector_eq_zero, p.noticeVector_eq_vector⟩, fun s n i => ⟨?_, rfl⟩⟩
  rw [State.raise_flags, BitVec.getLsbD_or, n.bit_getLsbD]

end

section
/-! PROOFS. The status byte (R173): the weight of each field, and its bits. -/

namespace Sys2Proof.Machine

namespace State
variable (s : State)

theorem role_code_eq_one : s.role.code = 1 ↔ s.config.map (fun c => c.role) = some .gateway := by
  rw [State.role, State.cfg]
  cases s.config with
  | none => simp [HeldConfig.absent, Role.code]
  | some c => cases h : c.role <;> simp [h, Role.code]

theorem role_code_le : s.role.code ≤ 1 := by cases s.role <;> decide

theorem standing_code_le (m : Standing) : m.code ≤ 2 := by cases m <;> decide

theorem isAwake_iff (e : EngineState) : e.isAwake = true ↔ e ≠ .off ∧ e ≠ .doze := by cases e <;> decide

/-- The seven fields are the binary places of the byte's value. -/
theorem statusByte_toNat :
    s.statusByte.toNat =
      s.running.toNat * 128 + s.role.code * 64 + s.mon.standing.code * 16 + s.port.noticeLine.toNat * 8 +
        (!s.gw.queue.isEmpty).toNat * 4 + s.sel.stage.isSome.toNat * 2 + s.eng.state.isAwake.toNat := by
  have hrole := s.role_code_le
  have hstanding := standing_code_le s.mon.standing
  rw [statusByte, BitVec.toNat_ofNat]
  cases s.running <;> cases s.port.noticeLine <;> cases s.gw.queue.isEmpty <;> cases s.sel.stage.isSome <;>
    cases s.eng.state.isAwake <;> simp only [Bool.toNat_true, Bool.toNat_false, Bool.not_true, Bool.not_false,
      if_true, if_false, Bool.false_eq_true] <;> omega

/-- A bit of the status byte is the mark of its field. -/
theorem statusByte_marks :
    s.statusByte.getLsbD 7 = s.running ∧
    s.statusByte.getLsbD 6 = decide (s.role.code = 1) ∧
    s.statusByte.getLsbD 5 = decide (s.mon.standing.code = 2) ∧
    s.statusByte.getLsbD 4 = decide (s.mon.standing.code = 1) ∧
    s.statusByte.getLsbD 3 = s.port.noticeLine ∧
    s.statusByte.getLsbD 2 = !s.gw.queue.isEmpty ∧
    s.statusByte.getLsbD 1 = s.sel.stage.isSome ∧
    s.statusByte.getLsbD 0 = s.eng.state.isAwake := by
  have hrole := s.role_code_le
  have hstanding := standing_code_le s.mon.standing
  have hvalue := s.statusByte_toNat
  have hrun := s.running.toNat_le
  have hline := s.port.noticeLine.toNat_le
  have hqueue := (!s.gw.queue.isEmpty).toNat_le
  have hstage := s.sel.stage.isSome.toNat_le
  have hawake := s.eng.state.isAwake.toNat_le
  have hrole1 : (decide (s.role.code = 1)).toNat = s.role.code := by
    obtain h | h : s.role.code = 0 ∨ s.role.code = 1 := by omega
    all_goals rw [h]; rfl
  have hstanding12 : (decide (s.mon.standing.code = 2)).toNat = s.mon.standing.code / 2 ∧
      (decide (s.mon.standing.code = 1)).toNat = s.mon.standing.code % 2 := by
    obtain h | h | h : s.mon.standing.code = 0 ∨ s.mon.standing.code = 1 ∨ s.mon.standing.code = 2 := by omega
    all_goals rw [h]; exact ⟨rfl, rfl⟩
  refine ⟨?_, ?_, ?_, ?_, ?_, ?_, ?_, ?_⟩ <;> apply getLsbD_eq_of_parity <;> omega

/-- In UNCONFIGURED only the role field may read 1. -/
theorem statusByte_unconfigured (hrun : s.running = false) (hc : s.clearedOk) :
    s.statusByte = if s.config.map (fun c => c.role) = some .gateway then 0x40 else 0x00 := by
  obtain ⟨-, hcleared⟩ := hc
  obtain ⟨heng, -, -, -, -, hsel, hmon, hqueue, -, -, -, hflags⟩ := hcleared hrun
  have hline : s.port.noticeLine = false := by simp [Port.noticeLine, Port.showing, hflags]
  have hvalue := s.statusByte_toNat
  rw [hrun, heng, hsel, hmon, hqueue, hline] at hvalue
  have hrole := s.role_code_le
  refine BitVec.eq_of_toNat_eq ?_
  split_ifs with h <;> rw [← s.role_code_eq_one] at h
  · rw [hvalue, h]; rfl
  · rw [hvalue, show s.role.code = 0 by omega]; rfl

end State

end Sys2Proof.Machine
end

section
open Sys2Proof Sys2Proof.Machine

/-- Settles O4: the fields are the byte's binary places; after hard reset all of them are 0. -/
theorem statusByteFields : Obligations.StatusByteFields := by
  refine ⟨fun s => ?_, fun s => s.statusByte_unconfigured, fun s t h => ?_⟩
  · obtain ⟨h7, h6, h5, h4, h3, h2, h1, h0⟩ := s.statusByte_marks
    refine ⟨h7, ?_, ?_, ?_, ?_, ?_, ?_, ?_⟩
    · rw [h6, decide_eq_true_iff, s.role_code_eq_one]
    · rw [h5]
      cases s.mon.standing <;> decide
    · rw [h4]
      cases s.mon.standing <;> decide
    · rw [h3, s.port.noticeLine_iff]
    · rw [h2, Bool.not_eq_true', ← Bool.not_eq_true, List.isEmpty_iff]
    · rw [h1, Option.isSome_iff_ne_none]
    · rw [h0, State.isAwake_iff]
  · rw [exec_hardReset, execHardReset] at h
    cases h
    exact (by decide : State.reset.statusByte = 0x00)

end

section
/-! PROOFS. The rise of SEL in a result phase (R168, R169, R171): what stands on SDO at each place. -/

namespace Sys2Proof.Machine

section
variable (busy bytes : Nat) (result : List Byte)

theorem getElem?_carriedResult_busy {i : Nat} (h : i < busy) :
    (carriedResult ⟨busy, bytes⟩ result)[i]? = some 0xFF := by
  rw [carriedResult, List.getElem?_append_left (by rwa [List.length_replicate]), List.getElem?_replicate, if_pos h]
  rfl

/-- Behind the busy bytes stand the result bytes, and 0x00 behind the last of them. -/
theorem getElem?_carriedResult_result {i : Nat} (h : i < bytes) :
    (carriedResult ⟨busy, bytes⟩ result)[busy + i]? = some (result.getD i 0x00) := by
  have hlen : (List.replicate busy busyByte).length = busy := List.length_replicate
  rw [carriedResult, List.getElem?_append_right (by simp), hlen, Nat.add_sub_cancel_left, List.getElem?_take_of_lt h]
  rcases lt_or_ge i result.length with hi | hi
  · rw [List.getElem?_append_left hi, List.getD_eq_getElem?_getD, List.getElem?_eq_getElem hi, Option.getD_some]
  · rw [List.getElem?_append_right hi, List.getElem?_replicate, if_pos (by dsimp only; omega), List.getD_eq_getElem?_getD,
      List.getElem?_eq_none hi]
    rfl

end

section
variable {p : Port} {n : Nat} (clocked : Clocked) (h : p.resultAt = some n) (hn : n ≤ p.sdo.length)
include h hn

theorem Port.selRises_length : (p.selRises clocked).sdo.length = n + clocked.busy + clocked.bytes := by
  rw [Port.selRises_sdo clocked h, List.length_append, List.length_take, carriedResult_length]
  omega

theorem Port.getElem?_selRises_head {i : Nat} (hi : i < n) : (p.selRises clocked).sdo[i]? = p.sdo[i]? := by
  rw [Port.selRises_sdo clocked h, List.getElem?_append_left (by rw [List.length_take]; omega),
    List.getElem?_take_of_lt hi]

theorem Port.getElem?_selRises_result (i : Nat) :
    (p.selRises clocked).sdo[n + i]? = (carriedResult clocked (p.sdo.drop n))[i]? := by
  have hlen : (p.sdo.take n).length = n := by rw [List.length_take]; omega
  rw [Port.selRises_sdo clocked h, List.getElem?_append_right (by omega), hlen, Nat.add_sub_cancel_left]

end

/-- The rise of SEL after the effect point ends the transaction, unless it cuts an export in hand short. -/
theorem exec_afterEffect {s : State} {clocked : Clocked} {n : Nat} (h : s.port.resultAt = some n)
    (hend : s.gw.inHand = none ∨ s.port.sdo.length ≤ n + clocked.bytes) :
    exec (.transactionAbandoned (.afterEffect clocked)) s = .next { s with port := s.port.selRises clocked } := by
  rw [exec_transactionAbandoned, execTransactionAbandoned, if_neg]
  rw [Port.resultLength, h]
  rintro ⟨hin, hlt⟩
  rcases hend with hnone | hle
  · rw [hnone] at hin
    cases hin
  · dsimp only at hlt
    omega

/-- A transaction abandoned before its effect point leaves on SDO what had been returned by then. -/
theorem exec_abandoned {s : State} {place : Abandon} {returned : List Byte}
    (h : place = .inCode ∧ returned = [] ∨ (∃ code, place = .inCount code ∧ returned = [0x96]) ∨
      (∃ code count taken, place = .inArgs code count taken ∧ place.wellFormed = true ∧
        returned = 0x96 :: s.statusByte :: List.replicate taken.length 0)) :
    exec (.transactionAbandoned place) s = .next (s.returns (if s.port.ready = true then returned else [])) := by
  rcases h with ⟨rfl, rfl⟩ | ⟨code, rfl, rfl⟩ | ⟨code, count, taken, rfl, hwf, rfl⟩
  · rfl
  · rfl
  · rw [Abandon.wellFormed, decide_eq_true_iff] at hwf
    rw [exec_transactionAbandoned, execTransactionAbandoned, if_pos hwf]
    rfl

theorem exec_unready {s : State} (h : s.port.ready = false) {c : Instr} (hc : (portRow c).isSome = true) :
    exec c s = .next (s.returns []) := by
  obtain ⟨r, hr⟩ := Option.isSome_iff_exists.1 hc
  rw [exec_of_portRow hr, s.serve_unready _ _ _ h]

theorem exec_unknownCommand_unready {s : State} (h : s.port.ready = false) {code : Byte} (hc : code ∉ commandCodes)
    (args : List Byte) : exec (.unknownCommand code args) s = .next (s.returns []) := by
  rw [exec_unknownCommand, execUnknownCommand, if_neg (by rwa [List.contains_iff_mem]), if_neg (by simp [h])]

end Sys2Proof.Machine
end

section
open Sys2Proof Sys2Proof.Machine

/-- Settles O2, by the place at which SEL rises and by whether the port is ready. -/
theorem unservedAndAbandoned : Obligations.UnservedAndAbandoned := by
  refine ⟨fun s busy bytes n h hn hend => ⟨_, exec_afterEffect h hend, ?_, Port.selRises_length _ h hn,
    fun i hi => Port.getElem?_selRises_head _ h hn hi, fun i hi => ?_, fun i hi => ?_⟩, fun s => ⟨fun h =>
    ⟨fun c hc => exec_unready h hc, fun code args hc => exec_unknownCommand_unready h hc args⟩,
    fun place returned hplace => exec_abandoned hplace⟩⟩
  · rw [Port.selRises_keeps]
  · rw [Port.getElem?_selRises_result _ h hn, getElem?_carriedResult_busy _ _ _ hi]
  · rw [Nat.add_assoc, Port.getElem?_selRises_result _ h hn, getElem?_carriedResult_result _ _ _ hi,
      List.getD_eq_getElem?_getD, List.getD_eq_getElem?_getD, List.getElem?_drop]

end

section
/-! PROOFS. READ_STATUS (R185): the record as its fields laid out one behind another, and the codes read back. -/

namespace Sys2Proof.Machine

theorem EngineState.getElem?_code (e : EngineState) :
    [EngineState.off, .doze, .sample, .awake, .waking, .field, .receiving, .echoing, .sending, .awaitEcho][e.code]? =
      some e := by cases e <;> rfl

theorem EngineState.code_lt (e : EngineState) : e.code < 2 ^ 8 := by cases e <;> decide

theorem Standing.getElem?_code (m : Standing) : [Standing.active, .quiet, .mute][m.code]? = some m := by cases m <;> rfl

theorem Standing.code_lt (m : Standing) : m.code < 2 ^ 8 := by cases m <;> decide

theorem Bool.toNat_lt_byte (b : Bool) : b.toNat < 2 ^ 8 := b.toNat_le.trans_lt (by decide)

theorem Port.noticeVector_lt (p : Port) : p.noticeVector < 2 ^ 8 := by
  rw [Port.noticeVector]
  rcases hf : (List.range 8).find? (fun i => p.showing.getLsbD (7 - i)) with _ | i
  · exact Nat.two_pow_pos 8
  · have hi := List.mem_range.1 (List.mem_of_find?_eq_some hf)
    change i + 1 < 2 ^ 8
    omega

namespace State
variable (s : State)

/-- The fields of READ_STATUS's record, in the order of R185's table. -/
def statusFields : List (Nat × Nat) :=
  [(1, s.running.toNat), (1, s.role.code), (1, s.eng.state.code), (3, s.cfg.stationId.toNat), (4, s.clock),
    (1, s.port.flags.toNat), (1, s.port.mask.toNat), (1, s.port.noticeVector), (1, s.mon.standing.code),
    (1, s.mon.armed.toNat), (2, s.mon.sendFailure), (1, s.mon.receptionFault), (1, s.mon.recovery),
    (1, s.sel.allowance), (1, s.sel.refillCount), (1, s.gw.queue.length), (1, s.gw.drainList.length),
    (1, s.gw.solicit.isSome.toNat), (1, s.table.length), (2, s.pair.overrun), (2, s.refusals), (2, s.pair.clash),
    (2, s.est.lidHeld), (2, s.gw.drainDrop), (4, s.eng.heard), (4, s.eng.sent), (4, s.eng.lost)]

/-- The lengths of the fields. -/
def statusLengths : List Nat :=
  [1, 1, 1, 3, 4, 1, 1, 1, 1, 1, 2, 1, 1, 1, 1, 1, 1, 1, 1, 2, 2, 2, 2, 2, 4, 4, 4]

theorem statusFields_lengths : s.statusFields.map Prod.fst = statusLengths := rfl

theorem statusRecord_eq_layoutBytes : s.statusRecord = layoutBytes s.statusFields := by
  unfold statusRecord
  simp only [statusFields, layoutBytes, List.flatMap_cons, List.flatMap_nil, List.append_assoc, List.append_nil,
    toBytes_one_toNat, toBytes_one_mark, List.cons_append, List.nil_append]

theorem statusRecord_length : s.statusRecord.length = 47 := by
  rw [statusRecord_eq_layoutBytes, layoutBytes_length, statusFields_lengths]
  decide

/-- A field of the record by its index in R185's table. -/
theorem fieldAt_status (i : Nat) {off len v : Nat} (hf : s.statusFields[i]? = some (len, v))
    (hoff : (statusLengths.take i).sum = off := by decide) : fieldAt s.statusRecord off len = v % 2 ^ (8 * len) := by
  rw [statusRecord_eq_layoutBytes, fieldAt_layoutBytes hf (s.statusFields_lengths ▸ hoff)]

/-- A field of the record that holds its value whole. -/
theorem fieldAt_status_of_lt (i : Nat) {off len v : Nat} (hf : s.statusFields[i]? = some (len, v))
    (hv : v < 2 ^ (8 * len)) (hoff : (statusLengths.take i).sum = off := by decide) :
    fieldAt s.statusRecord off len = v := by
  rw [s.fieldAt_status i hf hoff, Nat.mod_eq_of_lt hv]

theorem role_code_eq_ite : s.role.code = if s.config.map (fun c => c.role) = some .gateway then 1 else 0 := by
  have hle := s.role_code_le
  split_ifs with h <;> rw [← s.role_code_eq_one] at h <;> omega

theorem cfg_stationId_toNat :
    s.cfg.stationId.toNat = match s.config with | some c => c.stationId.toNat | none => 0 := by
  rw [cfg]
  cases s.config <;> rfl

end State

end Sys2Proof.Machine
end

section
open Sys2Proof Sys2Proof.Machine

/-- Settles O6: each field of the record by its index in the table of 10.7. -/
theorem readStatusReturnsTheSnapshot : Obligations.ReadStatusReturnsTheSnapshot := by
  intro s hready
  have hcheck : PortCommand.readStatus.check [] s = none :=
    (PortCommand.check_eq_none _ _ _).2 ⟨rfl, .inr rfl, fun _ => rfl⟩
  refine ⟨s.statusRecord, ?_, s.statusRecord_length, s.fieldAt_status_of_lt 0 rfl (Bool.toNat_lt_byte _), ?_, ?_, ?_,
    s.fieldAt_status 4 rfl, s.fieldAt_status_of_lt 5 rfl s.port.flags.isLt,
    s.fieldAt_status_of_lt 6 rfl s.port.mask.isLt, s.fieldAt_status_of_lt 7 rfl s.port.noticeVector_lt, ?_,
    s.fieldAt_status_of_lt 9 rfl (Bool.toNat_lt_byte _), s.fieldAt_status 10 rfl, s.fieldAt_status 11 rfl,
    s.fieldAt_status 12 rfl, s.fieldAt_status 13 rfl, s.fieldAt_status 14 rfl, s.fieldAt_status 15 rfl,
    s.fieldAt_status 16 rfl, s.fieldAt_status_of_lt 17 rfl (Bool.toNat_lt_byte _), s.fieldAt_status 18 rfl,
    s.fieldAt_status 19 rfl, s.fieldAt_status 20 rfl, s.fieldAt_status 21 rfl, s.fieldAt_status 22 rfl,
    s.fieldAt_status 23 rfl, s.fieldAt_status 24 rfl, s.fieldAt_status 25 rfl, s.fieldAt_status 26 rfl⟩
  · rw [exec_readStatus, execReadStatus, s.serve_accepted _ _ _ hready hcheck, State.replies_head, ResultCode.byte]
  · rw [s.fieldAt_status_of_lt 1 rfl (s.role_code_le.trans_lt (by decide)), s.role_code_eq_ite]
  · rw [s.fieldAt_status_of_lt 2 rfl s.eng.state.code_lt, EngineState.getElem?_code]
  · rw [s.fieldAt_status_of_lt 3 rfl s.cfg.stationId.isLt, s.cfg_stationId_toNat] <;> rfl
  · rw [s.fieldAt_status_of_lt 8 rfl s.mon.standing.code_lt, Standing.getElem?_code]

end

section
/-! PROOFS. READ_OWN (R76, R186): the record as blocks of fixed lengths, one for each of the values that may be absent,
and each block as its fields. -/

namespace Sys2Proof.Machine

/-- A field within a block of blocks laid out one behind another. -/
theorem fieldAt_flatten {blocks : List (List Byte)} {b : List Byte} {i base k len : Nat} (hb : blocks[i]? = some b)
    (hbase : ((blocks.map List.length).take i).sum = base) (h : k + len ≤ b.length) :
    fieldAt blocks.flatten (base + k) len = fieldAt b k len := by
  obtain ⟨hi, hget⟩ := List.getElem?_eq_some_iff.1 hb
  have hsplit : blocks.flatten = (blocks.take i).flatten ++ (b ++ (blocks.drop (i + 1)).flatten) := by
    conv_lhs => rw [← List.take_append_drop i blocks, List.drop_eq_getElem_cons hi, hget]
    rw [List.flatten_append, List.flatten_cons]
  have hlen : (blocks.take i).flatten.length = base := by rw [List.length_flatten, List.map_take, hbase]
  rw [fieldAt, hsplit, ← List.drop_drop, List.drop_left' hlen, List.drop_append_of_le_length (by omega),
    List.take_append_of_le_length (by rw [List.length_drop]; omega), fieldAt]

namespace Estimator
variable (e : Estimator)

/-- The window and the fault marks. -/
def windowFields : List (Nat × Nat) :=
  [(1, e.window.length), (2, e.window.getD 0 0), (2, e.window.getD 1 0), (2, e.window.getD 2 0), (1, e.faultRun),
    (1, e.faultState.toNat)]

/-- The figures with the computed and the reported class. -/
def figuresFields : List (Nat × Nat) :=
  match e.figures with
  | some f => [(1, 1), (2, f.range), (2, f.level), (1, f.overfull.toNat), (2, f.ttf), (1, f.cls.val),
      (1, (e.reportedClass f).val)]
  | none => [(10, 0)]

/-- The rate anchor. -/
def anchorFields : List (Nat × Nat) :=
  match e.anchor with
  | some (level, second) => [(1, 1), (2, level), (4, second)]
  | none => [(7, 0)]

/-- The emptied time. -/
def emptiedFields : List (Nat × Nat) :=
  match e.emptiedAt with
  | some t => [(1, 1), (4, t)]
  | none => [(5, 0)]

/-- The last own report. -/
def lastFields : List (Nat × Nat) :=
  match e.lastReport with
  | some r => [(1, 1), (2, r.level), (1, r.cls.val), (4, r.second), (1, r.fault.toNat)]
  | none => [(9, 0)]

/-- The blocks of READ_OWN's record. -/
def ownBlocks : List (List (Nat × Nat)) :=
  [e.windowFields, e.figuresFields, [(2, e.rate), (1, e.seeded.toNat)], e.anchorFields, e.emptiedFields,
    [(1, e.sampleSince.toNat)], e.lastFields, [(2, e.nextSeq.toNat)]]

/-- The lengths of the blocks, which are those of every estimator. -/
def ownLengths : List Nat := [9, 10, 3, 7, 5, 1, 9, 2]

theorem figuresBytes_eq : layoutBytes e.figuresFields =
    markByte e.figures.isSome :: (match e.figures with
      | some f =>
        toBytes 2 f.range ++ toBytes 2 f.level ++ [markByte f.overfull] ++ toBytes 2 f.ttf ++ toBytes 1 f.cls.val ++
          toBytes 1 (e.reportedClass f).val
      | none => List.replicate 9 0) := by
  rw [figuresFields]
  cases e.figures with
  | none => rfl
  | some f =>
    simp only [layoutBytes, List.flatMap_cons, List.flatMap_nil, toBytes_one_mark, List.append_assoc, List.append_nil]
    rfl

theorem anchorBytes_eq : layoutBytes e.anchorFields =
    markByte e.anchor.isSome :: (match e.anchor with
      | some (level, second) => toBytes 2 level ++ toBytes 4 second
      | none => List.replicate 6 0) := by
  rw [anchorFields]
  rcases e.anchor with _ | ⟨level, second⟩
  · rfl
  · simp [layoutBytes, markByte, toBytes_one]

theorem emptiedBytes_eq :
    layoutBytes e.emptiedFields = markByte e.emptiedAt.isSome :: toBytes 4 (e.emptiedAt.getD 0) := by
  rw [emptiedFields]
  cases e.emptiedAt with
  | none => rfl
  | some t => simp [layoutBytes, markByte, toBytes_one]

theorem lastBytes_eq : layoutBytes e.lastFields =
    markByte e.lastReport.isSome :: (match e.lastReport with
      | some r => toBytes 2 r.level ++ toBytes 1 r.cls.val ++ toBytes 4 r.second ++ [markByte r.fault]
      | none => List.replicate 8 0) := by
  rw [lastFields]
  cases e.lastReport with
  | none => rfl
  | some r =>
    simp only [layoutBytes, List.flatMap_cons, List.flatMap_nil, toBytes_one_mark, List.append_assoc, List.append_nil]
    rfl

theorem ownRecord_eq_flatten : e.ownRecord = (e.ownBlocks.map layoutBytes).flatten := by
  simp only [ownBlocks, List.map_cons, List.map_nil, List.flatten_cons, List.flatten_nil, figuresBytes_eq,
    anchorBytes_eq, emptiedBytes_eq, lastBytes_eq, List.append_nil]
  simp only [ownRecord, windowFields, layoutBytes, List.flatMap_cons, List.flatMap_nil, toBytes_one_mark,
    List.append_assoc, List.cons_append, List.nil_append, List.append_nil] <;> rfl

theorem ownBlocks_lengths : (e.ownBlocks.map layoutBytes).map List.length = ownLengths := by
  have hfigures : (layoutBytes e.figuresFields).length = 10 := by
    rw [layoutBytes_length, figuresFields]; cases e.figures <;> rfl
  have hanchor : (layoutBytes e.anchorFields).length = 7 := by
    rw [layoutBytes_length, anchorFields]; cases e.anchor <;> rfl
  have hemptied : (layoutBytes e.emptiedFields).length = 5 := by
    rw [layoutBytes_length, emptiedFields]; cases e.emptiedAt <;> rfl
  have hlast : (layoutBytes e.lastFields).length = 9 := by
    rw [layoutBytes_length, lastFields]; cases e.lastReport <;> rfl
  simp only [ownBlocks, List.map_cons, List.map_nil, hfigures, hanchor, hemptied, hlast]
  rfl

theorem ownRecord_length : e.ownRecord.length = 46 := by
  rw [ownRecord_eq_flatten, List.length_flatten, ownBlocks_lengths]
  rfl

/-- A field of the record by its block and its index there. -/
theorem fieldAt_own (i j : Nat) {fields : List (Nat × Nat)} {off len v : Nat} (hb : e.ownBlocks[i]? = some fields)
    (hf : fields[j]? = some (len, v))
    (hoff : (ownLengths.take i).sum + ((fields.map Prod.fst).take j).sum = off) :
    fieldAt e.ownRecord off len = v % 2 ^ (8 * len) := by
  have hlen : ((fields.map Prod.fst).take j).sum + len ≤ (layoutBytes fields).length := by
    obtain ⟨hj, hget⟩ := List.getElem?_eq_some_iff.1 hf
    rw [layoutBytes_length]
    conv_rhs => rw [← List.take_append_drop j fields, List.drop_eq_getElem_cons hj, hget]
    simp only [List.map_append, List.map_cons, List.sum_append, List.sum_cons, List.map_take]
    omega
  rw [ownRecord_eq_flatten, ← hoff,
    fieldAt_flatten (i := i) (by rw [List.getElem?_map, hb]; rfl) (by rw [ownBlocks_lengths]) hlen,
    fieldAt_layoutBytes hf rfl]

theorem fieldAt_own_of_lt (i j : Nat) {fields : List (Nat × Nat)} {off len v : Nat}
    (hb : e.ownBlocks[i]? = some fields) (hf : fields[j]? = some (len, v)) (hv : v < 2 ^ (8 * len))
    (hoff : (ownLengths.take i).sum + ((fields.map Prod.fst).take j).sum = off) :
    fieldAt e.ownRecord off len = v := by
  rw [e.fieldAt_own i j hb hf hoff, Nat.mod_eq_of_lt hv]

theorem urgency_lt_byte (c : Urgency) : c.val < 2 ^ 8 := c.isLt.trans (by decide)

theorem fieldAt_own_window : ∀ i < 3, fieldAt e.ownRecord (1 + 2 * i) 2 = e.window.getD i 0 % 2 ^ 16
  | 0, _ => e.fieldAt_own 0 1 rfl rfl rfl
  | 1, _ => e.fieldAt_own 0 2 rfl rfl rfl
  | 2, _ => e.fieldAt_own 0 3 rfl rfl rfl

theorem fieldAt_own_figures_none (h : e.figures = none) : fieldAt e.ownRecord 9 10 = 0 :=
  e.fieldAt_own_of_lt 1 0 (fields := [(10, 0)]) (by simp [ownBlocks, figuresFields, h]) rfl (Nat.two_pow_pos _) rfl

theorem fieldAt_own_figures_some {f : Figures} (h : e.figures = some f) :
    fieldAt e.ownRecord 9 1 = 1 ∧ fieldAt e.ownRecord 10 2 = f.range % 2 ^ 16 ∧
      fieldAt e.ownRecord 12 2 = f.level % 2 ^ 16 ∧ fieldAt e.ownRecord 14 1 = f.overfull.toNat ∧
      fieldAt e.ownRecord 15 2 = f.ttf % 2 ^ 16 ∧ fieldAt e.ownRecord 17 1 = f.cls.val ∧
      fieldAt e.ownRecord 18 1 = (e.reportedClass f).val := by
  have hb : e.ownBlocks[1]? = some [(1, 1), (2, f.range), (2, f.level), (1, f.overfull.toNat), (2, f.ttf),
      (1, f.cls.val), (1, (e.reportedClass f).val)] := by simp [ownBlocks, figuresFields, h]
  exact ⟨e.fieldAt_own_of_lt 1 0 hb rfl (by decide) rfl, e.fieldAt_own 1 1 hb rfl rfl, e.fieldAt_own 1 2 hb rfl rfl,
    e.fieldAt_own_of_lt 1 3 hb rfl (Bool.toNat_lt_byte _) rfl, e.fieldAt_own 1 4 hb rfl rfl,
    e.fieldAt_own_of_lt 1 5 hb rfl (urgency_lt_byte _) rfl, e.fieldAt_own_of_lt 1 6 hb rfl (urgency_lt_byte _) rfl⟩

theorem fieldAt_own_anchor_none (h : e.anchor = none) : fieldAt e.ownRecord 22 7 = 0 :=
  e.fieldAt_own_of_lt 3 0 (fields := [(7, 0)]) (by simp [ownBlocks, anchorFields, h]) rfl (Nat.two_pow_pos _) rfl

theorem fieldAt_own_anchor_some {l t : Nat} (h : e.anchor = some (l, t)) :
    fieldAt e.ownRecord 22 1 = 1 ∧ fieldAt e.ownRecord 23 2 = l % 2 ^ 16 ∧ fieldAt e.ownRecord 25 4 = t % 2 ^ 32 := by
  have hb : e.ownBlocks[3]? = some [(1, 1), (2, l), (4, t)] := by simp [ownBlocks, anchorFields, h]
  exact ⟨e.fieldAt_own_of_lt 3 0 hb rfl (by decide) rfl, e.fieldAt_own 3 1 hb rfl rfl, e.fieldAt_own 3 2 hb rfl rfl⟩

theorem fieldAt_own_emptied_none (h : e.emptiedAt = none) : fieldAt e.ownRecord 29 5 = 0 :=
  e.fieldAt_own_of_lt 4 0 (fields := [(5, 0)]) (by simp [ownBlocks, emptiedFields, h]) rfl (Nat.two_pow_pos _) rfl

theorem fieldAt_own_emptied_some {t : Nat} (h : e.emptiedAt = some t) :
    fieldAt e.ownRecord 29 1 = 1 ∧ fieldAt e.ownRecord 30 4 = t % 2 ^ 32 := by
  have hb : e.ownBlocks[4]? = some [(1, 1), (4, t)] := by simp [ownBlocks, emptiedFields, h]
  exact ⟨e.fieldAt_own_of_lt 4 0 hb rfl (by decide) rfl, e.fieldAt_own 4 1 hb rfl rfl⟩

theorem fieldAt_own_last_none (h : e.lastReport = none) : fieldAt e.ownRecord 35 9 = 0 :=
  e.fieldAt_own_of_lt 6 0 (fields := [(9, 0)]) (by simp [ownBlocks, lastFields, h]) rfl (Nat.two_pow_pos _) rfl

theorem fieldAt_own_last_some {r : LastReport} (h : e.lastReport = some r) :
    fieldAt e.ownRecord 35 1 = 1 ∧ fieldAt e.ownRecord 36 2 = r.level % 2 ^ 16 ∧
      fieldAt e.ownRecord 38 1 = r.cls.val ∧ fieldAt e.ownRecord 39 4 = r.second % 2 ^ 32 ∧
      fieldAt e.ownRecord 43 1 = r.fault.toNat := by
  have hb : e.ownBlocks[6]? = some [(1, 1), (2, r.level), (1, r.cls.val), (4, r.second), (1, r.fault.toNat)] := by
    simp [ownBlocks, lastFields, h]
  exact ⟨e.fieldAt_own_of_lt 6 0 hb rfl (by decide) rfl, e.fieldAt_own 6 1 hb rfl rfl,
    e.fieldAt_own_of_lt 6 2 hb rfl (urgency_lt_byte _) rfl, e.fieldAt_own 6 3 hb rfl rfl,
    e.fieldAt_own_of_lt 6 4 hb rfl (Bool.toNat_lt_byte _) rfl⟩

end Estimator

/-- A command of one role, given while RUNNING in that role, replies with what it did. -/
theorem State.serve_in_role {c : PortCommand} {args : List Byte} {s : State} {r : Role}
    (act : State → State × List Byte) (hready : s.port.ready = true) (hrun : s.running = true) (hr : s.role = r)
    (hlen : args.length = c.argBytes) (hrole : c.role = some r) :
    s.serve c args act = s.replied args (act s).2 (act s).1 := by
  have hcheck : c.check args s = none :=
    (c.check_eq_none args s).2 ⟨hlen, .inl hrun, fun _ => by rw [hrole, Option.any_some, hr, bne_self_eq_false]⟩
  rw [s.serve_accepted c args act hready hcheck, State.replies_head]

end Sys2Proof.Machine
end

section
open Sys2Proof Sys2Proof.Machine

/-- Settles O7: each field by its block, and a block of an absent value is all 0. -/
theorem readOwnReturnsTheEstimator : Obligations.ReadOwnReturnsTheEstimator := by
  intro s hready hrun hrole
  refine ⟨s.est.ownRecord, ?_, s.est.ownRecord_length, s.est.fieldAt_own 0 0 rfl rfl rfl, s.est.fieldAt_own_window,
    s.est.fieldAt_own 0 4 rfl rfl rfl, s.est.fieldAt_own_of_lt 0 5 rfl rfl (Bool.toNat_lt_byte _) rfl, ?_,
    s.est.fieldAt_own 2 0 rfl rfl rfl, s.est.fieldAt_own_of_lt 2 1 rfl rfl (Bool.toNat_lt_byte _) rfl, ?_, ?_,
    s.est.fieldAt_own_of_lt 5 0 rfl rfl (Bool.toNat_lt_byte _) rfl, ?_,
    s.est.fieldAt_own_of_lt 7 0 rfl rfl s.est.nextSeq.isLt rfl⟩
  · rw [exec_readOwn, execReadOwn, State.serve_in_role _ hready hrun hrole rfl rfl, ResultCode.byte]
  · cases h : s.est.figures with
    | none => exact s.est.fieldAt_own_figures_none h
    | some f =>
      dsimp only
      rw [← s.est.reportedClass_val f]
      exact s.est.fieldAt_own_figures_some h
  · rcases h : s.est.anchor with _ | ⟨l, t⟩
    · exact s.est.fieldAt_own_anchor_none h
    · exact s.est.fieldAt_own_anchor_some h
  · cases h : s.est.emptiedAt with
    | none => exact s.est.fieldAt_own_emptied_none h
    | some t => exact s.est.fieldAt_own_emptied_some h
  · cases h : s.est.lastReport with
    | none => exact s.est.fieldAt_own_last_none h
    | some r => exact s.est.fieldAt_own_last_some h

end

section
/-! PROOFS. EXPORT_NEXT (R157, R160): the head of the queue handed out, and the transaction cut short. -/

namespace Sys2Proof.Machine

variable {s : State}

theorem State.exportAct_empty (h : s.gw.queue = []) :
    s.exportAct = ({ s with gw := { s.gw with inHand := none } }, [0x05]) := by
  rw [State.exportAct, h]
  rfl

theorem State.exportAct_head {b : BinId} {rest : List BinId} {e : Entry} (h : s.gw.queue = b :: rest)
    (he : s.holds b e) :
    s.exportAct = ({ s with gw := { s.gw with inHand := some (b, e.report.seq) } },
      0x00 :: e.record s.clock ++ [BitVec.ofNat 8 (rest.length + 1)]) := by
  have hfind : s.gw.queue.head?.bind s.entryOf = some e := by
    rw [h]
    exact State.entryOf_of_holds he
  obtain ⟨-, -, rfl⟩ := he
  rw [State.exportAct, hfind, h]
  simp only [toBytes_one, List.length_cons, ResultCode.byte, List.cons_append, List.nil_append]

/-- While result bytes are left, those clocked out are result bytes. -/
theorem carriedResult_of_lt {busy bytes : Nat} {result : List Byte} (h : bytes < result.length) :
    carriedResult ⟨busy, bytes⟩ result = List.replicate busy 0xFF ++ result.take bytes := by
  rw [carriedResult, List.take_append_of_le_length h.le]
  rfl

theorem Port.selRises_cut {p : Port} {busy bytes n : Nat} (h : p.resultAt = some n) (hlt : n + bytes < p.sdo.length) :
    p.selRises ⟨busy, bytes⟩ =
      { p with sdo := p.sdo.take n ++ List.replicate busy 0xFF ++ (p.sdo.drop n).take bytes, resultAt := none } := by
  rw [Port.selRises_keeps, Port.selRises_sdo _ h, carriedResult_of_lt (by rw [List.length_drop]; omega),
    List.append_assoc]

end Sys2Proof.Machine
end

section
open Sys2Proof Sys2Proof.Machine

/-- Settles O25, by the queue's head; a cut clocks out fewer bytes than the result has. -/
theorem exportNextHandsOutTheHead : Obligations.ExportNextHandsOutTheHead := by
  refine fun s => ⟨fun hready hrun hrole => ⟨fun hqueue => ?_, fun b rest e hqueue he => ?_⟩,
    fun busy bytes n h hin hresult hlt => ?_⟩
  · rw [exec_exportNext, execExportNext, State.serve_in_role _ hready hrun hrole rfl rfl, State.exportAct_empty hqueue]
  · rw [exec_exportNext, execExportNext, State.serve_in_role _ hready hrun hrole rfl rfl, State.exportAct_head hqueue he]
  · rw [exec_exportCutShort, execExportCutShort, Port.selRises_cut hresult hlt]

end

section
/-! PROOFS. RESTART (R178, R21): its effect while RUNNING, the engine it leaves, and the length of the abort tail. -/

namespace Sys2Proof.Machine

/-! ### The transaction -/

section
variable {s : State} (sentBits : Nat) (hready : s.port.ready = true)
include hready

theorem exec_restart_nil :
    exec (.restart [] sentBits) s = .next (s.replied [] [0x00] (if s.running then s.restartRunning sentBits else s)) := by
  have hcheck : PortCommand.restart.check [] s = none :=
    (PortCommand.check_eq_none _ _ _).2 ⟨rfl, .inr rfl, fun _ => rfl⟩
  rw [exec_restart, execRestart, s.serve_accepted _ _ _ hready hcheck, State.replies_head]
  rfl

theorem exec_restart_unconfigured (hrun : s.running = false) :
    exec (.restart [] sentBits) s = .next (s.replied [] [0x00] s) := by
  rw [exec_restart_nil sentBits hready, hrun, if_neg Bool.false_ne_true]

theorem exec_restart_running (hrun : s.running = true) :
    exec (.restart [] sentBits) s = .next (s.replied [] [0x00] (s.restartRunning sentBits)) := by
  rw [exec_restart_nil sentBits hready, hrun, if_pos rfl]

end

/-! ### The table -/

theorem restartTable_eq (t : List Entry) :
    restartTable t = (t.filter (fun e => e.origin != .own)).map (fun e =>
      { e with owing := (match e.owing with | .owed => .held | o => o), placed := .unplaced, heard := 0, sent := 0 }) := by
  refine List.map_congr_left fun e _ => ?_
  cases e.owing <;> rfl

/-! ### The engine -/

namespace Engine
variable (sentBits : Nat) (e : Engine)

/-- An engine in OFF goes on as it stands; any other enters OFF, with a tail only out of SENDING. -/
theorem restart_cases :
    (e.state = .off ∧ e.restart sentBits = e) ∨
      (e.state = .sending ∧ e.restart sentBits =
        e.enterOff (abortTail ((e.onAir.map (fun o => o.units)).getD []) sentBits)) ∨
      (e.state ≠ .off ∧ e.state ≠ .sending ∧ e.restart sentBits = e.enterOff []) := by
  rw [restart]
  cases e.state <;> simp

theorem restart_state : (e.restart sentBits).state = .off := by
  obtain ⟨h, heq⟩ | ⟨-, heq⟩ | ⟨-, -, heq⟩ := e.restart_cases sentBits <;> rw [heq]
  · exact h
  · rfl
  · rfl

theorem restart_counts : (e.restart sentBits).heard = e.heard ∧ (e.restart sentBits).sent = e.sent ∧
    (e.restart sentBits).lost = e.lost := by
  obtain ⟨-, heq⟩ | ⟨-, heq⟩ | ⟨-, -, heq⟩ := e.restart_cases sentBits <;> rw [heq] <;> exact ⟨rfl, rfl, rfl⟩

theorem enterOff_offClear (tail : List Bool) : (e.enterOff tail).offClear :=
  fun _ => ⟨rfl, rfl, rfl, rfl, rfl, rfl, rfl⟩

theorem restart_of_sending (h : e.state = .sending) :
    e.restart sentBits = e.enterOff (abortTail ((e.onAir.map (fun o => o.units)).getD []) sentBits) := by
  rw [restart, h]

theorem restart_of_other (hoff : e.state ≠ .off) (hsending : e.state ≠ .sending) :
    e.restart sentBits = e.enterOff [] := by
  obtain ⟨h, -⟩ | ⟨h, -⟩ | ⟨-, -, heq⟩ := e.restart_cases sentBits
  · exact absurd h hoff
  · exact absurd h hsending
  · exact heq

end Engine

/-! ### The abort tail -/

/-- The tail is the rest of the unit that the last bit falls in, then eight ones. -/
theorem abortTail_of_unit {done rest : List (List Bool)} {unit : List Bool} {sent : Nat}
    (hbegun : done.flatten.length < sent ∨ done = [] ∧ sent = 0) (hin : sent ≤ done.flatten.length + unit.length) :
    abortTail (done ++ unit :: rest) sent = unit.drop (sent - done.flatten.length) ++ List.replicate 8 true := by
  induction done generalizing sent with
  | nil =>
    rw [List.flatten_nil, List.length_nil, Nat.zero_add] at hin
    rw [List.nil_append, abortTail, if_pos hin]
    rfl
  | cons d ds ih =>
    rw [List.flatten_cons, List.length_append] at hbegun hin
    have hlt : d.length + ds.flatten.length < sent := hbegun.resolve_right fun h => List.cons_ne_nil _ _ h.1
    rw [List.cons_append, abortTail, if_neg (by omega), ih (.inl (by omega)) (by omega), List.flatten_cons,
      List.length_append, Nat.sub_sub]

theorem abortTail_ne_nil (units : List (List Bool)) (sent : Nat) : abortTail units sent ≠ [] := by
  induction units generalizing sent with
  | nil => exact List.cons_ne_nil _ _
  | cons u us ih =>
    rw [abortTail]
    split
    · exact List.append_ne_nil_of_right_ne_nil _ (List.cons_ne_nil _ _)
    · exact ih _

/-- Of units of at most 10 bits the tail has at most 17, once a bit is out or where the first unit is a mark. -/
theorem abortTail_length_le {units : List (List Bool)} {sent : Nat} (hunits : ∀ u ∈ units, u.length ≤ 10)
    (hfirst : 1 ≤ sent ∨ ∀ u ∈ units.head?, u.length ≤ 9) : (abortTail units sent).length ≤ 17 := by
  induction units generalizing sent with
  | nil => simp [abortTail]
  | cons u us ih =>
    have hu := hunits u (List.mem_cons_self ..)
    rw [abortTail]
    split_ifs with hin
    · rw [List.length_append, List.length_drop, List.length_replicate]
      rcases hfirst with h | h
      · omega
      · have := h u rfl
        omega
    · exact ih (fun v hv => hunits v (List.mem_cons_of_mem _ hv)) (.inl (by omega))

/-! ### How many bits are stuffed -/

theorem Run.next_len (r : Run) (b : Bool) : (r.next b).len = r.len + 1 ∨ (r.next b).len = 1 := by
  rw [Run.next]
  split
  · exact .inl rfl
  · exact .inr rfl

/-- A run below five bits stays below five, and calls for a stuffed bit at most at every fourth bit. -/
theorem stuff_bounds (bits : List Bool) {r : Run} (hr : 1 ≤ r.len ∧ r.len ≤ 4) :
    (1 ≤ (stuff r bits).2.len ∧ (stuff r bits).2.len ≤ 4) ∧
      (stuff r bits).1.length ≤ bits.length + (bits.length + r.len - 1) / 4 := by
  induction bits generalizing r with
  | nil => exact ⟨hr, Nat.zero_le _⟩
  | cons b bs ih =>
    have hnext := r.next_len b
    rw [stuff]
    dsimp only
    split_ifs with h5
    · obtain ⟨hrun, hlen⟩ := ih (r := { bit := !b, len := 1 }) ⟨Nat.le_refl 1, Nat.le_add_left 1 3⟩
      refine ⟨hrun, ?_⟩
      simp only [List.length_cons] at hlen ⊢
      omega
    · obtain ⟨hrun, hlen⟩ := ih (r := r.next b) (by omega)
      refine ⟨hrun, ?_⟩
      simp only [List.length_cons] at hlen ⊢
      omega

theorem bitsOf_length (b : Byte) : (bitsOf b).length = 8 := rfl

/-- A byte has at most ten channel bits. -/
theorem stuffBytes_units_length (body : List Byte) {r : Run} (hr : 1 ≤ r.len ∧ r.len ≤ 4) :
    ∀ u ∈ (stuffBytes r body).1, u.length ≤ 10 := by
  induction body generalizing r with
  | nil => exact fun u hu => absurd hu List.not_mem_nil
  | cons b bs ih =>
    obtain ⟨hrun, hlen⟩ := stuff_bounds (bitsOf b) hr
    rw [bitsOf_length] at hlen
    intro u hu
    rcases List.mem_cons.1 hu with rfl | hu
    · omega
    · exact ih hrun u hu

theorem channelUnits_length (body : List Byte) : ∀ u ∈ channelUnits body, u.length ≤ 10 := by
  intro u hu
  simp only [channelUnits, List.mem_append, List.mem_singleton] at hu
  rcases hu with ((rfl | hu) | hu) | rfl
  · decide
  · exact stuffBytes_units_length body (r := .start) (by decide) u hu
  · split at hu
    · rw [List.mem_singleton.1 hu]; decide
    · cases hu
  · decide

theorem abortTail_sending_length (body : List Byte) (sent : Nat) : (abortTail (channelUnits body) sent).length ≤ 17 :=
  abortTail_length_le (channelUnits_length body) (.inr fun u hu => by
    obtain rfl : markBits = u := by simpa [channelUnits] using hu
    decide)

/-! ### The end of the tail -/

section
variable {s : State} (h : s.eng.tail ≠ [])
include h

theorem exec_abortTailEnd_unconfigured (hrun : s.running = false) :
    exec .abortTailEnd s = .next { s with eng := { s.eng with tail := [], radioEn := false, key := false } } := by
  simp [execAbortTailEnd, h, hrun]

theorem exec_abortTailEnd_bin (hrun : s.running = true) (hrole : s.role = .bin) :
    exec .abortTailEnd s =
      .next { s with
        eng := Engine.enterDoze s.cfg.listenPeriod { s.eng with tail := [], radioEn := false, key := false } } := by
  rw [exec_abortTailEnd, execAbortTailEnd, if_neg (by simpa using h)]
  dsimp only
  rw [if_pos hrun, State.leaveOff]
  simp only [State.role, State.cfg] at hrole ⊢
  rw [hrole]

theorem exec_abortTailEnd_gateway (hrun : s.running = true) (hrole : s.role = .gateway) :
    exec .abortTailEnd s =
      .next { s with eng := Engine.enterAwake s.eng.carrier { s.eng with tail := [], radioEn := false, key := false } } := by
  rw [exec_abortTailEnd, execAbortTailEnd, if_neg (by simpa using h)]
  dsimp only
  rw [if_pos hrun, State.leaveOff]
  simp only [State.role, State.cfg] at hrole ⊢
  rw [hrole]

end

end Sys2Proof.Machine
end

section
open Sys2Proof Sys2Proof.Machine

/-- Settles O15: a running station takes the RESTART state of every block. -/
theorem restartClears : Obligations.RestartClears := by
  refine fun s sentBits hready => ⟨exec_restart_unconfigured sentBits hready, fun hrun =>
    ⟨s.restartRunning sentBits, exec_restart_running sentBits hready hrun, ?_, s.eng.restart_state sentBits,
      s.eng.restart_counts sentBits⟩⟩
  exact congrArg (fun table => { s.restartRunning sentBits with table := table }) (restartTable_eq s.table)

/-- Settles O16, by the state RESTART finds the engine in, and by what has become of the station at the tail's end. -/
theorem restartOnTheChannel : Obligations.RestartOnTheChannel := by
  refine ⟨fun s sentBits hready hrun hoff => ⟨_, exec_restart_running sentBits hready hrun, ?_⟩, fun s => ⟨fun h => ?_,
    fun h => ?_⟩⟩
  · change (s.eng.restart sentBits).offClear ∧ (s.eng.restart sentBits).state = .off ∧
      (s.eng.state ≠ .sending → (s.eng.restart sentBits).tail = [] ∧ (s.eng.restart sentBits).key = false ∧
        (s.eng.restart sentBits).radioEn = false) ∧
      (s.eng.state = .sending → (s.eng.restart sentBits).key = true ∧ (s.eng.restart sentBits).radioEn = true ∧
        ∀ (o : OnAir) (done rest : List (List Bool)) (unit : List Bool), s.eng.onAir = some o →
          o.units = done ++ unit :: rest → done.flatten.length < sentBits ∨ done = [] ∧ sentBits = 0 →
          sentBits ≤ done.flatten.length + unit.length →
          (s.eng.restart sentBits).tail = unit.drop (sentBits - done.flatten.length) ++ List.replicate 8 true) ∧
      ∀ body : List Byte, s.eng.onAir = some (.sending body) → (s.eng.restart sentBits).tail.length ≤ 17
    by_cases hs : s.eng.state = .sending
    · rw [s.eng.restart_of_sending sentBits hs]
      have htail := abortTail_ne_nil ((s.eng.onAir.map (fun o => o.units)).getD []) sentBits
      refine ⟨s.eng.enterOff_offClear _, rfl, fun hne => absurd hs hne, fun _ => ⟨?_, ?_, ?_⟩, fun body hbody => ?_⟩
      · simpa [Engine.enterOff] using htail
      · simpa [Engine.enterOff] using htail
      · intro o done rest unit ho hunits hbegun hin
        rw [ho, Option.map_some, Option.getD_some, hunits]
        exact abortTail_of_unit hbegun hin
      · rw [hbody, Option.map_some, Option.getD_some]
        exact abortTail_sending_length body sentBits
    · rw [s.eng.restart_of_other sentBits hoff hs]
      exact ⟨s.eng.enterOff_offClear _, rfl, fun _ => ⟨rfl, rfl, rfl⟩, fun h => absurd h hs, fun _ _ => Nat.zero_le _⟩
  · rw [exec_abortTailEnd, execAbortTailEnd, h]
    rfl
  · obtain hrun | hrun : s.running = false ∨ s.running = true := by cases s.running <;> simp
    · exact ⟨_, exec_abortTailEnd_unconfigured h hrun, rfl, rfl, rfl, fun _ => rfl, by simp [hrun], by simp [hrun]⟩
    · obtain hrole | hrole : s.role = .bin ∨ s.role = .gateway := by cases s.role <;> simp
      · exact ⟨_, exec_abortTailEnd_bin h hrun hrole, rfl, rfl, rfl, by simp [hrun], fun _ _ => ⟨rfl, rfl, rfl⟩,
          by simp [hrole]⟩
      · exact ⟨_, exec_abortTailEnd_gateway h hrun hrole, rfl, rfl, rfl, by simp [hrun], by simp [hrole],
          fun _ _ => ⟨rfl, rfl, rfl⟩⟩

end

section
/-! PROOFS. Each piece of state moves only at the commands that own it. Every operation of the model moves a list of
parts; the lists compose along a command, and the list of a whole command is `Instr.moves`. -/

namespace Sys2Proof.Machine

/-- The pieces of state that have commands of their own. -/
inductive Part where
  | pending | running | config | clock | boundaryDue | mask | flags | resetn | ready
  | standing | sendFailure | receptionFault | recovery | armed | probeTimer
  | allowance | refillCount | heard | sent | lost | clash | overrun | refusals | estimator | lidHeld | pair
  | queue | drainList | solicit | nextSerial | drainDrop | inHand
  | table | build | stage | engine | sdo | resultAt

/-- The part is the same in both states. -/
def Part.same (s t : State) : Part → Prop
  | .pending => t.pending = s.pending
  | .running => t.running = s.running
  | .config => t.config = s.config
  | .clock => t.clock = s.clock
  | .boundaryDue => t.boundaryDue = s.boundaryDue
  | .mask => t.port.mask = s.port.mask
  | .flags => t.port.flags = s.port.flags
  | .resetn => t.port.resetn = s.port.resetn
  | .ready => t.port.ready = s.port.ready
  | .standing => t.mon.standing = s.mon.standing
  | .sendFailure => t.mon.sendFailure = s.mon.sendFailure
  | .receptionFault => t.mon.receptionFault = s.mon.receptionFault
  | .recovery => t.mon.recovery = s.mon.recovery
  | .armed => t.mon.armed = s.mon.armed
  | .probeTimer => t.mon.probeTimer = s.mon.probeTimer
  | .allowance => t.sel.allowance = s.sel.allowance
  | .refillCount => t.sel.refillCount = s.sel.refillCount
  | .heard => t.eng.heard = s.eng.heard
  | .sent => t.eng.sent = s.eng.sent
  | .lost => t.eng.lost = s.eng.lost
  | .clash => t.pair.clash = s.pair.clash
  | .overrun => t.pair.overrun = s.pair.overrun
  | .refusals => t.refusals = s.refusals
  | .estimator => t.est = s.est
  | .lidHeld => t.est.lidHeld = s.est.lidHeld
  | .pair => t.pair = s.pair
  | .queue => t.gw.queue = s.gw.queue
  | .drainList => t.gw.drainList = s.gw.drainList
  | .solicit => t.gw.solicit = s.gw.solicit
  | .nextSerial => t.gw.nextSerial = s.gw.nextSerial
  | .drainDrop => t.gw.drainDrop = s.gw.drainDrop
  | .inHand => t.gw.inHand = s.gw.inHand
  | .table => t.table = s.table
  | .build => t.sel.build = s.sel.build
  | .stage => t.sel.stage = s.sel.stage
  | .engine => t.eng = s.eng
  | .sdo => t.port.sdo = s.port.sdo
  | .resultAt => t.port.resultAt = s.port.resultAt

/-- No part outside the list differs between the states. -/
def State.movesOnly (ps : List Part) (s t : State) : Prop := ∀ p, p ∉ ps → p.same s t

theorem Part.same_trans {p : Part} {s t u : State} (h : p.same s t) (k : p.same t u) : p.same s u := by
  cases p <;> exact Eq.trans k h

section
variable {ps qs : List Part} {s t u : State}

theorem State.movesOnly_refl : s.movesOnly ps s := fun p _ => by cases p <;> rfl

theorem State.movesOnly_trans (h : s.movesOnly ps t) (k : t.movesOnly ps u) : s.movesOnly ps u :=
  fun p hp => p.same_trans (h p hp) (k p hp)

theorem State.movesOnly_mono (hpq : ∀ p ∈ ps, p ∈ qs) (h : s.movesOnly ps t) : s.movesOnly qs t :=
  fun p hp => h p fun hin => hp (hpq p hin)

end

/-! ### The parts each operation moves -/

section
variable (s : State)

theorem State.hear_moves (told : Told) : s.movesOnly [.table, .build, .stage] (s.hear told) := fun p hp => by
  cases p <;> simp [Part.same] at hp ⊢

theorem State.selectorSettle_moves : s.movesOnly [.table, .build, .stage] s.selectorSettle := fun p hp => by
  cases p <;> simp [Part.same] at hp ⊢

theorem State.withdrawWhere_moves (q : FrameRec → Bool) : s.movesOnly [.table, .build, .stage] (s.withdrawWhere q) :=
  fun p hp => by cases p <;> simp [Part.same] at hp ⊢

/-- Commitment moves the condition of STAGE alone (R127). -/
theorem State.commit_moves : s.movesOnly [.stage] s.commit := by
  unfold State.commit
  (repeat' split) <;> exact fun p hp => by cases p <;> first | rfl | simp at hp

theorem State.fieldLost_moves : s.movesOnly [.table, .build, .stage] s.fieldLost := fun p hp => by
  cases p <;> simp [Part.same] at hp ⊢

theorem State.moveUp_moves : s.movesOnly [.table, .build, .stage] s.moveUp := by
  unfold State.moveUp
  split <;> exact fun p hp => by cases p <;> first | rfl | simp at hp

theorem State.enterMute_moves : s.movesOnly [.table, .build, .stage] s.enterMute := by
  unfold State.enterMute
  exact fun p hp => by cases p <;> simp [Part.same] at hp ⊢

theorem State.leaveMute_moves : s.movesOnly [.table, .build, .stage] s.leaveMute := by
  unfold State.leaveMute
  refine State.movesOnly_trans ?_ (State.selectorSettle_moves _)
  (repeat' split) <;> exact fun p hp => by cases p <;> first | rfl | simp at hp

theorem State.refill_moves : s.movesOnly [.allowance, .refillCount, .table, .build, .stage] s.refill := by
  unfold State.refill
  refine State.movesOnly_trans ?_ (State.movesOnly_mono (by simp) (State.selectorSettle_moves _))
  exact fun p hp => by cases p <;> first | rfl | simp at hp

/-- A change of the engine alone moves no part, but for the counters it counts. -/
theorem State.eng_moves {s : State} {ps : List Part} (e : Engine) (hengine : .engine ∈ ps)
    (hheard : .heard ∈ ps ∨ e.heard = s.eng.heard)
    (hsent : .sent ∈ ps ∨ e.sent = s.eng.sent) (hlost : .lost ∈ ps ∨ e.lost = s.eng.lost) :
    s.movesOnly ps { s with eng := e } := by
  intro p hp
  cases p with
  | engine => exact absurd hengine hp
  | heard => exact hheard.resolve_left hp
  | sent => exact hsent.resolve_left hp
  | lost => exact hlost.resolve_left hp
  | _ => rfl

theorem State.enterWaking_moves : s.movesOnly [.stage, .engine] s.enterWaking :=
  State.movesOnly_trans (State.movesOnly_mono (by simp) s.commit_moves) (State.eng_moves _ (by simp) (.inr rfl)
    (.inr rfl) (.inr rfl))

theorem State.engineSettle_moves : s.movesOnly [.stage, .engine] s.engineSettle := by
  rcases s.engineSettle_cases with h | ⟨-, -, -, -, h⟩ | ⟨-, -, -, -, -, -, h⟩ <;> rw [h]
  · exact State.movesOnly_refl
  · exact s.enterWaking_moves
  · exact State.eng_moves _ (by simp) (.inr rfl) (.inr rfl) (.inr rfl)

theorem State.beginField_moves : s.movesOnly [.stage, .engine] s.beginField := by
  unfold State.beginField
  dsimp only
  refine State.movesOnly_trans (t := if s.stageEligible then s.commit else s) ?_
    (State.eng_moves _ (by simp) (.inr rfl) (.inr rfl) (.inr rfl))
  split
  · exact State.movesOnly_mono (by simp) s.commit_moves
  · exact State.movesOnly_refl

theorem State.startLinger_moves : s.movesOnly [.engine] s.startLinger := by
  unfold State.startLinger
  split
  · exact State.eng_moves _ (by simp) (.inr rfl) (.inr rfl) (.inr rfl)
  · exact State.movesOnly_refl

theorem State.frameEnd_moves (carrier : Bool) : s.movesOnly [.engine] (s.frameEnd carrier) :=
  State.movesOnly_trans (State.eng_moves (s.eng.enterAwake carrier) (by simp) (.inr rfl) (.inr rfl) (.inr rfl))
    (State.startLinger_moves _)

theorem State.leaveOff_moves : s.movesOnly [.engine] s.leaveOff := by
  unfold State.leaveOff
  split <;> exact State.eng_moves _ (by simp) (.inr rfl) (.inr rfl) (.inr rfl)

theorem State.loseField_moves : s.movesOnly [.lost, .table, .build, .stage, .engine] s.loseField := by
  have hlost : s.movesOnly [.lost, .table, .build, .stage, .engine] { s with eng := { s.eng with
      part := .lost, lost := bump Config.count32Max s.eng.lost } } :=
    State.eng_moves _ (by simp) (.inr rfl) (.inr rfl) (.inl (by simp))
  exact State.movesOnly_trans hlost (State.movesOnly_mono (by simp) (State.fieldLost_moves _))

theorem State.fieldWon_moves : s.movesOnly [.allowance, .probeTimer, .stage] s.fieldWon := by
  unfold State.fieldWon State.spend
  dsimp only
  (repeat' split) <;> exact fun p hp => by cases p <;> first | rfl | simp at hp

theorem State.raise_moves (n : Notice) : s.movesOnly [.flags] (s.raise n) :=
  fun p hp => by cases p <;> first | rfl | simp at hp

theorem State.setMonitor_moves {s : State} {ps : List Part} {m : Monitor}
    (hps : ∀ p ∈ [Part.flags, .table, .build, .stage], p ∈ ps)
    (h : s.movesOnly ps { s with mon := m }) : s.movesOnly ps (s.setMonitor m) := by
  unfold State.setMonitor
  dsimp only
  split
  · exact h
  · have hraised := State.movesOnly_trans h
      (State.movesOnly_mono (by simpa using hps .flags (by simp)) (State.raise_moves { s with mon := m } .standing))
    have hslots : ∀ p ∈ [Part.table, .build, .stage], p ∈ ps := fun p hp => hps p (List.mem_cons_of_mem _ hp)
    (repeat' split)
    · exact State.movesOnly_trans hraised (State.movesOnly_mono hslots (State.enterMute_moves _))
    · exact State.movesOnly_trans hraised (State.movesOnly_mono hslots (State.leaveMute_moves _))
    · exact State.movesOnly_trans hraised (State.movesOnly_mono hslots (State.selectorSettle_moves _))

/-- An echo outcome leaves the reception-fault count (R142, R145, R149). -/
theorem Monitor.outcome_receptionFault (m : Monitor) (echoed autoRejoin : Bool) (interval : Nat) :
    (m.outcome echoed autoRejoin interval).receptionFault = m.receptionFault := by
  unfold Monitor.outcome
  dsimp only
  (repeat' split) <;> rfl

/-- A good frame leaves the probe timer (R143, R146). -/
theorem Monitor.good_probeTimer (m : Monitor) (clash : Bool) : (m.good clash).probeTimer = m.probeTimer := by
  unfold Monitor.good
  dsimp only
  (repeat' split) <;> rfl

/-- A bad frame moves the reception-fault count and the standing alone (R143, R144). -/
theorem Monitor.bad_keeps (m : Monitor) :
    m.bad.sendFailure = m.sendFailure ∧ m.bad.recovery = m.recovery ∧ m.bad.armed = m.armed ∧
      m.bad.probeTimer = m.probeTimer := by
  unfold Monitor.bad
  dsimp only
  split <;> exact ⟨rfl, rfl, rfl, rfl⟩

theorem State.monitorOutcome_moves (echoed : Bool) :
    s.movesOnly [.standing, .sendFailure, .recovery, .armed, .probeTimer, .flags, .table, .build, .stage]
      (s.monitorOutcome echoed) := by
  refine State.setMonitor_moves (by simp) fun p hp => ?_
  cases p with
  | receptionFault => exact Monitor.outcome_receptionFault _ _ _ _
  | _ => first | rfl | simp at hp

theorem State.monitorGood_moves (clash : Bool) :
    s.movesOnly [.standing, .sendFailure, .receptionFault, .recovery, .armed, .flags, .table, .build, .stage]
      (s.monitorGood clash) := by
  refine State.setMonitor_moves (by simp) fun p hp => ?_
  cases p with
  | probeTimer => exact Monitor.good_probeTimer _ _
  | _ => first | rfl | simp at hp

theorem State.monitorBad_moves : s.movesOnly [.standing, .receptionFault, .flags, .table, .build, .stage] s.monitorBad := by
  obtain ⟨hsend, hrecovery, harmed, hprobe⟩ := s.mon.bad_keeps
  refine State.setMonitor_moves (by simp) fun p hp => ?_
  cases p with
  | sendFailure => exact hsend
  | recovery => exact hrecovery
  | armed => exact harmed
  | probeTimer => exact hprobe
  | _ => first | rfl | simp at hp

theorem State.applyOutcome_moves (echoed : Bool) (f : FrameRec) :
    s.movesOnly [.flags, .drainList, .drainDrop, .solicit, .table, .build, .stage] (s.applyOutcome echoed f) := by
  unfold State.applyOutcome
  split
  · unfold State.fillOutcome
    dsimp only
    split <;> exact fun p hp => by cases p <;> first | rfl | simp at hp
  · unfold State.drainOutcome
    dsimp only
    (repeat' split)
    · exact State.movesOnly_refl
    all_goals
      refine State.movesOnly_trans ?_ (State.movesOnly_mono (by simp) (State.withdrawWhere_moves _ _))
      exact fun p hp => by cases p <;> first | rfl | simp at hp
  · unfold State.solicitOutcome
    dsimp only
    (repeat' split)
    · exact State.movesOnly_refl
    · exact State.movesOnly_refl
    · refine State.movesOnly_trans ?_ (State.movesOnly_mono (by simp) (State.withdrawWhere_moves _ _))
      exact fun p hp => by cases p <;> first | rfl | simp at hp
    · exact fun p hp => by cases p <;> first | rfl | simp at hp

theorem State.echoOutcome_moves (echoed : Bool) :
    s.movesOnly [.flags, .drainList, .drainDrop, .solicit, .table, .build, .stage] (s.echoOutcome echoed) := by
  unfold State.echoOutcome
  (repeat' split)
  · exact State.movesOnly_trans (s.applyOutcome_moves _ _) (State.movesOnly_trans
      (State.movesOnly_mono (by simp) (State.moveUp_moves _))
      (State.movesOnly_mono (by simp) (State.selectorSettle_moves _)))
  all_goals exact State.movesOnly_refl

theorem State.takeOutcome_moves (echoed monitorFirst : Bool) :
    s.movesOnly [.standing, .sendFailure, .recovery, .armed, .probeTimer, .flags, .drainList, .drainDrop, .solicit,
      .table, .build, .stage]
      (s.takeOutcome echoed monitorFirst) := by
  unfold State.takeOutcome
  split
  · exact State.movesOnly_trans (State.movesOnly_mono (by simp) (s.monitorOutcome_moves _))
      (State.movesOnly_mono (by simp) (State.echoOutcome_moves _ _))
  · exact State.movesOnly_trans (State.movesOnly_mono (by simp) (s.echoOutcome_moves _))
      (State.movesOnly_mono (by simp) (State.monitorOutcome_moves _ _))

theorem State.handOver_moves (f : RxFrame) : s.movesOnly [.pair, .clash, .overrun, .flags] (s.handOver f) := by
  unfold State.handOver
  dsimp only
  (repeat' split) <;> exact fun p hp => by cases p <;> first | rfl | simp at hp

theorem State.goodFrame_moves (f : RxFrame) (monitorFirst : Bool) :
    s.movesOnly [.standing, .sendFailure, .receptionFault, .recovery, .armed, .flags, .pair, .clash, .overrun, .heard,
      .table, .build, .stage, .engine]
      (s.goodFrame f monitorFirst) := by
  unfold State.goodFrame
  dsimp only
  exact State.movesOnly_trans (State.movesOnly_mono (by simp) (s.handOver_moves f)) (State.movesOnly_trans
    (State.movesOnly_mono (by simp) (State.monitorGood_moves _ _))
    (State.eng_moves _ (by simp) (.inl (by simp)) (.inr rfl) (.inr rfl)))

/-! ### The merge and the issue of own reports -/

theorem State.insert_moves (e : Entry) : s.movesOnly [.refusals, .flags, .table] (s.insert e).1 := by
  rcases s.insert_cases e with ⟨p, -, h⟩ | ⟨-, h⟩ <;> rw [h]
  · exact fun p hp => by cases p <;> first | rfl | simp at hp
  · exact fun p hp => by cases p <;> first | rfl | simp at hp

theorem State.queueJoin_moves (b : BinId) : s.movesOnly [.queue, .flags] (s.queueJoin b) := by
  unfold State.queueJoin
  dsimp only
  (repeat' split) <;> exact fun p hp => by cases p <;> first | rfl | simp at hp

theorem State.alter_moves (e : Entry) (f : Entry → Entry) (told : Told) : s.movesOnly [.table] (s.alter e f told).1 :=
  fun p hp => by cases p <;> first | rfl | simp at hp

theorem State.issueOwn_moves (t : Nat) (emptied : Bool) (seq next : Seq) (told : Told) :
    s.movesOnly [.estimator, .flags, .refusals, .table] (s.issueOwn t emptied seq next told).1 := by
  unfold State.issueOwn
  dsimp only
  split
  · exact State.movesOnly_refl
  · split
    · exact fun p hp => by cases p <;> first | rfl | simp at hp
    · refine State.movesOnly_trans ?_ (State.movesOnly_mono (by simp) (State.insert_moves _ _))
      exact fun p hp => by cases p <;> first | rfl | simp at hp

theorem State.sequenceJump_moves (heard : Seq) (told : Told) :
    s.movesOnly [.estimator, .flags, .refusals, .table] (s.sequenceJump heard told).1 := by
  unfold State.sequenceJump
  dsimp only
  have hmoved : s.movesOnly [.estimator, .flags, .refusals, .table]
      (({ s with est := { s.est with nextSeq := heard + 1 } }).raise .seqJump) :=
    fun p hp => by cases p <;> first | rfl | simp at hp
  split <;> exact State.movesOnly_trans hmoved (State.issueOwn_moves _ _ _ _ _ _)

theorem State.mergeOwnBin_moves (heard : Seq) (told : Told) :
    s.movesOnly [.estimator, .flags, .refusals, .table] (s.mergeOwnBin heard told).1 := by
  unfold State.mergeOwnBin
  (repeat' split)
  · exact s.sequenceJump_moves _ _
  all_goals first | exact State.movesOnly_mono (by simp) (s.alter_moves _ _ _) | exact State.movesOnly_refl

theorem State.supersede_moves (r : RxEntry) (rxTime : Nat) (e : Entry) (told : Told) :
    s.movesOnly [.queue, .flags, .table] (s.supersede r rxTime e told).1 := by
  unfold State.supersede
  refine State.movesOnly_trans ?_ (State.movesOnly_mono (by simp) (State.queueJoin_moves _ _))
  exact fun p hp => by cases p <;> first | rfl | simp at hp

theorem State.mergeHeldBin_moves (r : RxEntry) (rxTime : Nat) (e : Entry) (told : Told) :
    s.movesOnly [.queue, .flags, .table] (s.mergeHeldBin r rxTime e told).1 := by
  unfold State.mergeHeldBin
  (repeat' split)
  · exact s.supersede_moves _ _ _ _
  all_goals first | exact State.movesOnly_mono (by simp) (s.alter_moves _ _ _) | exact State.movesOnly_refl

theorem State.mergeAbsentBin_moves (r : RxEntry) (rxTime : Nat) (told : Told) :
    s.movesOnly [.queue, .flags, .refusals, .table] (s.mergeAbsentBin r rxTime told).1 := by
  unfold State.mergeAbsentBin
  dsimp only
  split
  · exact State.movesOnly_refl
  · have hinsert := s.insert_moves (s.received r rxTime 0 (s.cfg.originOf r.report.binId))
    split
    · exact State.movesOnly_trans (State.movesOnly_mono (by simp) hinsert)
        (State.movesOnly_mono (by simp) (State.queueJoin_moves _ _))
    · exact State.movesOnly_mono (by simp) hinsert

theorem State.mergeEntry_moves (r : RxEntry) (rxTime : Nat) (told : Told) :
    s.movesOnly [.estimator, .queue, .flags, .refusals, .table] (s.mergeEntry r rxTime told).1 := by
  unfold State.mergeEntry
  (repeat' split)
  · exact State.movesOnly_refl
  · exact State.movesOnly_mono (by simp) (s.mergeOwnBin_moves _ _)
  · exact State.movesOnly_mono (by simp) (s.mergeHeldBin_moves _ _ _ _)
  · exact State.movesOnly_mono (by simp) (s.mergeAbsentBin_moves _ _ _)

theorem State.solicitOwn_moves (told : Told) : s.movesOnly [.estimator, .flags, .refusals, .table] (s.solicitOwn told).1 := by
  unfold State.solicitOwn
  dsimp only
  refine State.movesOnly_trans (State.movesOnly_mono (by simp) (s.raise_moves .solicited)) ?_
  (repeat' split)
  · exact State.issueOwn_moves _ _ _ _ _ _
  · exact State.movesOnly_mono (by simp) (State.alter_moves _ _ _ _)
  · exact State.movesOnly_refl

theorem State.solicitRelayed_moves (g : Target) (told : Told) : s.movesOnly [.table] (s.solicitRelayed g told).1 :=
  fun p hp => by cases p <;> first | rfl | simp at hp

theorem State.mergeTarget_moves (g : Target) (told : Told) :
    s.movesOnly [.estimator, .flags, .refusals, .table] (s.mergeTarget g told).1 := by
  unfold State.mergeTarget
  dsimp only
  (repeat' split)
  · exact State.movesOnly_refl
  · exact State.movesOnly_trans (s.solicitOwn_moves told) (State.movesOnly_mono (by simp) (State.solicitRelayed_moves _ _ _))
  · exact State.movesOnly_mono (by simp) (State.solicitRelayed_moves _ _ _)

theorem State.mergeItem_moves (i : RxItem) (told : Told) : s.movesOnly [.queue, .table] (s.mergeItem i told).1 := by
  unfold State.mergeItem
  (repeat' split) <;> exact fun p hp => by cases p <;> first | rfl | simp at hp

theorem State.mergePart_moves (m : Merging) :
    s.movesOnly [.estimator, .queue, .flags, .refusals, .table] (s.mergePart m).1 := by
  unfold State.mergePart
  (repeat' split)
  · exact s.mergeEntry_moves _ _ _
  · exact State.movesOnly_refl
  · exact State.movesOnly_mono (by simp) (s.mergeTarget_moves _ _)
  · exact State.movesOnly_mono (by simp) (s.mergeItem_moves _ _)
  · exact State.movesOnly_refl

/-- The cursor and the two frames are all that a merge step moves of the pair (R105). -/
theorem ReceivePair.advance_counts (m : Merging) (p : ReceivePair) :
    (p.advance m).clash = p.clash ∧ (p.advance m).overrun = p.overrun := by
  unfold ReceivePair.advance
  split <;> exact ⟨rfl, rfl⟩

theorem State.mergeOnce_moves : s.movesOnly [.pair, .estimator, .queue, .flags, .refusals, .table, .build, .stage,
    .engine] s.mergeOnce := by
  unfold State.mergeOnce
  dsimp only
  split
  · exact State.movesOnly_refl
  · rename_i m _
    refine State.movesOnly_trans (State.movesOnly_mono (by simp) (s.mergePart_moves m)) (State.movesOnly_trans ?_
      (State.movesOnly_trans (State.movesOnly_mono (by simp) (State.hear_moves _ _))
        (State.movesOnly_mono (by simp) (State.engineSettle_moves _))))
    obtain ⟨hclash, hoverrun⟩ := (s.mergePart m).1.pair.advance_counts m
    intro p hp
    cases p with
    | clash => exact hclash
    | overrun => exact hoverrun
    | _ => first | rfl | simp at hp

/-! ### Transactions and the station's life -/

theorem State.replies_moves (head result : List Byte) : s.movesOnly [.sdo, .resultAt] (s.replies head result) :=
  fun p hp => by cases p <;> first | rfl | simp at hp

theorem State.returns_moves (bytes : List Byte) : s.movesOnly [.sdo, .resultAt] (s.returns bytes) := fun p hp => by
  cases p <;> first | rfl | simp at hp

theorem State.serve_moves {s : State} {ps : List Part} {c : PortCommand} {args : List Byte}
    {act : State → State × List Byte} (hps : ∀ p ∈ [Part.sdo, .resultAt], p ∈ ps) (h : s.movesOnly ps (act s).1) :
    s.movesOnly ps (s.serve c args act) := by
  rcases s.serve_cases c args act with ⟨-, k⟩ | ⟨-, code, -, k⟩ | ⟨-, -, k⟩ <;> rw [k]
  · exact State.movesOnly_mono hps (s.returns_moves _)
  · exact State.movesOnly_mono hps (s.replies_moves _ _)
  · exact State.movesOnly_trans h (State.movesOnly_mono hps (State.replies_moves _ _ _))

theorem State.selRises_moves (clocked : Clocked) :
    s.movesOnly [.sdo, .resultAt] { s with port := s.port.selRises clocked } := by
  rw [Port.selRises_keeps]
  exact fun p hp => by cases p <;> first | rfl | simp at hp

/-- The engine an accepted START leaves: in the state the role gives it, or on in OFF to the end of its tail (R3,
R177). -/
def State.startEngine (c : HeldConfig) (s : State) : Engine :=
  if s.eng.tail = [] then
    match c.role with
    | .bin => s.eng.enterDoze c.listenPeriod
    | .gateway => s.eng.enterAwake s.eng.carrier
  else s.eng

theorem State.startRunning_eq (c : HeldConfig) (mask : FlagSet) :
    s.startRunning c mask =
      { s with
        running := true, config := some c, table := prepareTable c s.table, eng := s.startEngine c,
        est := { s.est.cleared with
          nextSeq := if c.role = .bin then startSequence c.startSeq (s.entryOf c.stationId) else 0 },
        sel := { s.sel with allowance := if c.role = .bin then c.capacity else 0, refillCount := 0 },
        gw := { s.gw with queue := startQueue c (prepareTable c s.table) },
        port := { s.port with
          mask := mask,
          flags := if startQueue c (prepareTable c s.table) = [] then s.port.flags
            else s.port.flags ||| Notice.exportReady.bit } } := by
  unfold State.startRunning State.startEngine
  by_cases htail : s.eng.tail = [] <;> by_cases hqueue : startQueue c (prepareTable c s.table) = [] <;>
    cases hrole : c.role <;>
    simp [htail, hqueue, hrole, State.leaveOff, State.role, State.cfg, State.raise]

theorem State.startEngine_counts (c : HeldConfig) :
    (s.startEngine c).heard = s.eng.heard ∧ (s.startEngine c).sent = s.eng.sent ∧
      (s.startEngine c).lost = s.eng.lost := by
  unfold State.startEngine
  (repeat' split) <;> exact ⟨rfl, rfl, rfl⟩

/-- Only an accepted START moves the life, configuration, mask, estimator, counts and queue; the lid-held count stands
(R78, R177). -/
theorem State.startRunning_moves (c : HeldConfig) (mask : FlagSet) :
    s.movesOnly [.running, .config, .mask, .flags, .allowance, .refillCount, .estimator, .queue, .table, .engine]
      (s.startRunning c mask) := by
  obtain ⟨hheard, hsent, hlost⟩ := s.startEngine_counts c
  rw [State.startRunning_eq]
  intro p hp
  cases p with
  | heard => exact hheard
  | sent => exact hsent
  | lost => exact hlost
  | _ => first | rfl | simp at hp

theorem State.startAct_moves (args : List Byte) :
    s.movesOnly [.running, .config, .mask, .flags, .allowance, .refillCount, .estimator, .queue, .table, .engine]
      (s.startAct args).1 := by
  unfold State.startAct
  dsimp only
  (repeat' split)
  · exact State.movesOnly_refl
  · exact State.movesOnly_refl
  · exact s.startRunning_moves _ _

end

end Sys2Proof.Machine
end

section
/-! PROOFS. The parts each command moves, and that no command moves another (O51). -/

namespace Sys2Proof.Machine

/-- The parts that a command may move. -/
def movedBy : Instr → List Part
  | .readStatus _ => [.sdo, .resultAt]
  | .readOwn _ => [.sdo, .resultAt]
  | .readEntry _ => [.sdo, .resultAt]
  | .readSlot _ => [.sdo, .resultAt]
  | .start _ =>
    [.running, .config, .mask, .flags, .allowance, .refillCount, .estimator, .queue, .table, .engine, .sdo, .resultAt]
  | .restart _ _ =>
    [.running, .flags, .standing, .sendFailure, .receptionFault, .recovery, .armed, .probeTimer, .allowance,
      .refillCount, .estimator, .pair, .queue, .drainList, .solicit, .inHand, .table, .build, .stage, .engine, .sdo,
      .resultAt]
  | .hardReset =>
    [.running, .config, .clock, .boundaryDue, .mask, .flags, .resetn, .ready, .standing, .sendFailure, .receptionFault,
      .recovery, .armed, .probeTimer, .allowance, .refillCount, .heard, .sent, .lost, .clash, .overrun, .refusals,
      .estimator, .lidHeld, .pair, .queue, .drainList, .solicit, .nextSerial, .drainDrop, .inHand, .table, .build,
      .stage, .engine, .sdo, .resultAt]
  | .resetRelease => [.clock, .boundaryDue, .resetn, .ready]
  | .portReady => [.ready]
  | .stationClockTick => [.clock, .boundaryDue]
  | .minuteBoundary => [.boundaryDue, .queue, .refillCount, .probeTimer, .table, .build, .stage, .engine]
  | .allowanceRefill => [.allowance, .refillCount, .table, .build, .stage, .engine]
  | .probeTimerExpiry => [.table, .build, .stage, .engine]
  | .rejoin _ => [.armed, .sdo, .resultAt]
  | .postSample _ => [.estimator, .lidHeld, .flags, .refusals, .table, .build, .stage, .engine, .sdo, .resultAt]
  | .solicit _ => [.solicit, .nextSerial, .table, .build, .stage, .engine, .sdo, .resultAt]
  | .exportNext _ => [.inHand, .sdo, .resultAt]
  | .exportNextCompletion => [.queue, .drainList, .drainDrop, .inHand, .table, .build, .stage, .engine, .resultAt]
  | .exportCutShort _ => [.inHand, .sdo, .resultAt]
  | .clearNotices _ => [.flags, .sdo, .resultAt]
  | .setNoticeMask _ => [.mask, .sdo, .resultAt]
  | .unknownCommand _ _ => [.sdo, .resultAt]
  | .transactionAbandoned _ => [.sdo, .resultAt]
  | .wakingCap => [.table, .build, .stage, .engine]
  | .fieldSlot _ => [.lost, .table, .build, .stage, .engine]
  | .contentionLost => [.lost, .table, .build, .stage, .engine]
  | .fieldEnd => [.allowance, .probeTimer, .stage, .engine]
  | .closingMarkSent => [.sent, .engine]
  | .goodFrame _ _ =>
    [.standing, .sendFailure, .receptionFault, .recovery, .armed, .flags, .pair, .clash, .overrun, .heard, .table,
      .build, .stage, .engine]
  | .badFrame _ _ => [.standing, .receptionFault, .flags, .table, .build, .stage, .engine]
  | .awaitEchoEnd _ _ _ =>
    [.standing, .sendFailure, .recovery, .armed, .probeTimer, .flags, .drainList, .drainDrop, .solicit, .table, .build,
      .stage, .engine]
  | .mergeStep => [.pair, .estimator, .queue, .flags, .refusals, .table, .build, .stage, .engine]
  | .listenTimerExpiry => [.engine]
  | .sampleCarrierSeen => [.engine]
  | .sampleWindowEnd => [.engine]
  | .carrierRise => [.engine]
  | .preambleRecognised => [.engine]
  | .rxdLevelChange => [.engine]
  | .openingMarkFound _ => [.engine]
  | .abortTailEnd => [.engine]
  | .lingerExpiry => [.stage, .engine]
  | .carrierFall => [.stage, .engine]
  | .idleGapReached => [.stage, .engine]
  | .wakeLengthEnd _ => [.stage, .engine]
  | .wakingCarrierFall => [.stage, .engine]
  | .markWaitExpiry _ => [.stage, .engine]
  | .echoSlotEnd _ => [.stage, .engine]

section
variable (s : State)

theorem State.restartRunning_moves (sentBits : Nat) :
    s.movesOnly (movedBy (.restart [] 0)) (s.restartRunning sentBits) := by
  obtain ⟨hheard, hsent, hlost⟩ := s.eng.restart_counts sentBits
  intro p hp
  cases p with
  | heard => exact hheard
  | sent => exact hsent
  | lost => exact hlost
  | _ => first | rfl | simp [movedBy] at hp

theorem State.sampleAct_moves (range : Nat) (flags : Byte) :
    s.movesOnly (movedBy (.postSample [])) (s.sampleAct range flags).1 := by
  unfold State.sampleAct
  extract_lets kind taken sampled issues r done
  have hsampled : s.movesOnly [.estimator, .lidHeld] sampled := fun p hp => by cases p <;> first | rfl | simp at hp
  show s.movesOnly _ done
  unfold done
  split
  · exact State.movesOnly_trans (State.movesOnly_mono (by simp [movedBy]) hsampled) (State.movesOnly_trans
      (State.movesOnly_mono (by simp [movedBy]) (State.issueOwn_moves _ _ _ _ _ _))
      (State.movesOnly_trans (State.movesOnly_mono (by simp [movedBy]) (State.hear_moves _ _))
        (State.movesOnly_mono (by simp [movedBy]) (State.engineSettle_moves _))))
  · exact State.movesOnly_mono (by simp [movedBy]) hsampled

theorem State.solicitAct_moves (bin mask : BinId) (maxClass : Nat) :
    s.movesOnly (movedBy (.solicit [])) (s.solicitAct bin mask maxClass).1 := by
  unfold State.solicitAct
  extract_lets new gw made cleared
  have hmade : s.movesOnly (movedBy (.solicit [])) made := fun p hp => by
    cases p <;> first | rfl | simp [movedBy] at hp
  have hcleared : made.movesOnly [.table, .build, .stage] cleared := by
    unfold cleared
    split
    · exact made.withdrawWhere_moves _
    · exact State.movesOnly_refl
  exact State.movesOnly_trans hmade (State.movesOnly_trans (State.movesOnly_mono (by simp [movedBy]) hcleared)
    (State.movesOnly_trans (State.movesOnly_mono (by simp [movedBy]) (State.selectorSettle_moves _))
      (State.movesOnly_mono (by simp [movedBy]) (State.engineSettle_moves _))))

theorem State.exportAct_moves : s.movesOnly (movedBy (.exportNext [])) s.exportAct.1 := by
  unfold State.exportAct
  split <;> exact fun p hp => by cases p <;> first | rfl | simp [movedBy] at hp

theorem State.deliver_moves (b : BinId) (r : Seq) :
    s.movesOnly (movedBy .exportNextCompletion) (s.deliver b r) := by
  unfold State.deliver
  extract_lets drain still gw listed left handed
  have hhanded : s.movesOnly (movedBy .exportNextCompletion) handed := by
    unfold handed
    split <;> exact fun p hp => by cases p <;> first | rfl | simp [movedBy] at hp
  split
  · exact State.movesOnly_trans hhanded (State.movesOnly_mono (by simp [movedBy]) (State.withdrawWhere_moves _ _))
  · exact hhanded

theorem State.countBoundary_moves : s.movesOnly [.refillCount] s.countBoundary := by
  unfold State.countBoundary
  split <;> exact fun p hp => by cases p <;> first | rfl | simp at hp

theorem State.countProbe_moves : s.movesOnly [.probeTimer] s.countProbe := by
  unfold State.countProbe
  split <;> exact fun p hp => by cases p <;> first | rfl | simp at hp

/-- Every command of the port ends in a next state and moves its own parts alone. -/
theorem exec_moves_port : ∀ c : Instr, (portRow c).isSome = true →
    ∃ t, exec c s = .next t ∧ s.movesOnly (movedBy c) t := by
  intro c hc
  cases c with
  | readStatus args => exact ⟨_, rfl, State.serve_moves (by simp [movedBy]) State.movesOnly_refl⟩
  | readOwn args => exact ⟨_, rfl, State.serve_moves (by simp [movedBy]) State.movesOnly_refl⟩
  | readEntry args => exact ⟨_, rfl, State.serve_moves (by simp [movedBy]) State.movesOnly_refl⟩
  | readSlot args => exact ⟨_, rfl, State.serve_moves (by simp [movedBy]) State.movesOnly_refl⟩
  | start args => exact ⟨_, rfl, State.serve_moves (by simp [movedBy]) (State.movesOnly_mono (by simp [movedBy])
      (s.startAct_moves args))⟩
  | restart args sentBits =>
    refine ⟨_, rfl, State.serve_moves (by simp [movedBy]) ?_⟩
    unfold State.restartAct
    dsimp only
    split
    · exact s.restartRunning_moves sentBits
    · exact State.movesOnly_refl
  | rejoin args =>
    refine ⟨_, rfl, State.serve_moves (by simp [movedBy]) ?_⟩
    unfold State.rejoinAct
    split <;> exact fun p hp => by cases p <;> first | rfl | simp [movedBy] at hp
  | postSample args => exact ⟨_, rfl, State.serve_moves (by simp [movedBy]) (s.sampleAct_moves _ _)⟩
  | solicit args => exact ⟨_, rfl, State.serve_moves (by simp [movedBy]) (s.solicitAct_moves _ _ _)⟩
  | exportNext args => exact ⟨_, rfl, State.serve_moves (by simp [movedBy]) s.exportAct_moves⟩
  | clearNotices args =>
    exact ⟨_, rfl, State.serve_moves (by simp [movedBy]) fun p hp => by cases p <;> first | rfl | simp [movedBy] at hp⟩
  | setNoticeMask args =>
    exact ⟨_, rfl, State.serve_moves (by simp [movedBy]) fun p hp => by cases p <;> first | rfl | simp [movedBy] at hp⟩
  | _ => simp [portRow] at hc

theorem exec_moves_exportNextCompletion :
    ∃ t, exec .exportNextCompletion s = .next t ∧ s.movesOnly (movedBy .exportNextCompletion) t := by
  rw [exec_exportNextCompletion, execExportNextCompletion]
  dsimp only
  split
  · refine ⟨_, rfl, State.movesOnly_trans (State.movesOnly_trans (State.movesOnly_trans ?_
      (State.movesOnly_mono (by simp [movedBy]) (State.deliver_moves _ _ _))) (State.movesOnly_mono (by simp [movedBy])
        (State.selectorSettle_moves _)))
      (State.movesOnly_mono (by simp [movedBy]) (State.engineSettle_moves _))⟩
    exact fun p hp => by cases p <;> first | rfl | simp [movedBy] at hp
  · exact ⟨_, rfl, fun p hp => by cases p <;> first | rfl | simp [movedBy] at hp⟩

theorem exec_moves_exportCutShort (clocked : Clocked) :
    ∃ t, exec (.exportCutShort clocked) s = .next t ∧ s.movesOnly (movedBy (.exportCutShort clocked)) t := by
  refine ⟨_, rfl, State.movesOnly_trans (t := { s with port := s.port.selRises clocked }) (State.movesOnly_mono
    (by simp [movedBy]) (s.selRises_moves _)) ?_⟩
  exact fun p hp => by cases p <;> first | rfl | simp [movedBy] at hp

theorem exec_moves_unknownCommand (code : Byte) (args : List Byte) :
    ∃ t, exec (.unknownCommand code args) s = .next t ∧ s.movesOnly (movedBy (.unknownCommand code args)) t := by
  rw [exec_unknownCommand, execUnknownCommand]
  (repeat' split)
  · exact ⟨_, rfl, State.movesOnly_refl⟩
  · exact ⟨_, rfl, State.movesOnly_mono (by simp [movedBy]) (s.replies_moves _ _)⟩
  · exact ⟨_, rfl, State.movesOnly_mono (by simp [movedBy]) (s.returns_moves _)⟩

theorem exec_moves_transactionAbandoned (place : Abandon) :
    ∃ t, exec (.transactionAbandoned place) s = .next t ∧ s.movesOnly (movedBy (.transactionAbandoned place)) t := by
  rw [exec_transactionAbandoned]
  cases place with
  | inCode => exact ⟨_, rfl, State.movesOnly_mono (by simp [movedBy]) (s.returns_moves _)⟩
  | inCount code => exact ⟨_, rfl, State.movesOnly_mono (by simp [movedBy]) (s.returns_moves _)⟩
  | inArgs code count taken =>
    rw [execTransactionAbandoned]
    split
    · exact ⟨_, rfl, State.movesOnly_mono (by simp [movedBy]) (s.returns_moves _)⟩
    · exact ⟨_, rfl, State.movesOnly_refl⟩
  | afterEffect clocked =>
    rw [execTransactionAbandoned]
    split
    · exact ⟨_, rfl, State.movesOnly_refl⟩
    · exact ⟨_, rfl, s.selRises_moves _⟩

theorem exec_moves_hardReset : ∃ t, exec .hardReset s = .next t ∧ s.movesOnly (movedBy .hardReset) t := by
  exact ⟨_, rfl, fun p hp => by cases p <;> first | rfl | simp [movedBy] at hp⟩

theorem exec_moves_resetRelease : ∃ t, exec .resetRelease s = .next t ∧ s.movesOnly (movedBy .resetRelease) t := by
  rw [exec_resetRelease, execResetRelease]
  split
  · exact ⟨_, rfl, State.movesOnly_refl⟩
  · exact ⟨_, rfl, fun p hp => by cases p <;> first | rfl | simp [movedBy] at hp⟩

theorem exec_moves_portReady : ∃ t, exec .portReady s = .next t ∧ s.movesOnly (movedBy .portReady) t := by
  rw [exec_portReady, execPortReady]
  split
  · exact ⟨_, rfl, fun p hp => by cases p <;> first | rfl | simp [movedBy] at hp⟩
  · exact ⟨_, rfl, State.movesOnly_refl⟩

theorem exec_moves_stationClockTick :
    ∃ t, exec .stationClockTick s = .next t ∧ s.movesOnly (movedBy .stationClockTick) t := by
  rw [exec_stationClockTick, execStationClockTick]
  split
  · exact ⟨_, rfl, fun p hp => by cases p <;> first | rfl | simp [movedBy] at hp⟩
  · exact ⟨_, rfl, State.movesOnly_refl⟩

theorem exec_moves_minuteBoundary :
    ∃ t, exec .minuteBoundary s = .next t ∧ s.movesOnly (movedBy .minuteBoundary) t := by
  rw [exec_minuteBoundary, execMinuteBoundary]
  dsimp only
  (repeat' split)
  · refine ⟨_, rfl, State.movesOnly_trans (State.movesOnly_trans (State.movesOnly_trans ?_
      (State.movesOnly_mono (by simp [movedBy]) (State.countBoundary_moves _)))
      (State.movesOnly_mono (by simp [movedBy]) (State.countProbe_moves _)))
      (State.movesOnly_mono (by simp [movedBy]) (State.engineSettle_moves _))⟩
    refine State.movesOnly_trans ?_ (State.movesOnly_mono (by simp [movedBy]) (State.hear_moves _ _))
    exact fun p hp => by cases p <;> first | rfl | simp [movedBy] at hp
  · exact ⟨_, rfl, fun p hp => by cases p <;> first | rfl | simp [movedBy] at hp⟩
  · exact ⟨_, rfl, State.movesOnly_refl⟩

theorem exec_moves_allowanceRefill :
    ∃ t, exec .allowanceRefill s = .next t ∧ s.movesOnly (movedBy .allowanceRefill) t := by
  rw [exec_allowanceRefill, execAllowanceRefill]
  split
  · exact ⟨_, rfl, State.movesOnly_trans (State.movesOnly_mono (by simp [movedBy]) s.refill_moves)
      (State.movesOnly_mono (by simp [movedBy]) (State.engineSettle_moves _))⟩
  · exact ⟨_, rfl, State.movesOnly_refl⟩

theorem exec_moves_probeTimerExpiry :
    ∃ t, exec .probeTimerExpiry s = .next t ∧ s.movesOnly (movedBy .probeTimerExpiry) t := by
  rw [exec_probeTimerExpiry, execProbeTimerExpiry]
  split
  · exact ⟨_, rfl, State.movesOnly_trans (State.movesOnly_mono (by simp [movedBy]) s.selectorSettle_moves)
      (State.movesOnly_mono (by simp [movedBy]) (State.engineSettle_moves _))⟩
  · exact ⟨_, rfl, State.movesOnly_refl⟩

theorem exec_moves_listenTimerExpiry :
    ∃ t, exec .listenTimerExpiry s = .next t ∧ s.movesOnly (movedBy .listenTimerExpiry) t := by
  rw [exec_listenTimerExpiry, execListenTimerExpiry]
  split
  · exact ⟨_, rfl, State.eng_moves _ (by simp [movedBy]) (.inr rfl) (.inr rfl) (.inr rfl)⟩
  · exact ⟨_, rfl, State.movesOnly_refl⟩

theorem exec_moves_sampleCarrierSeen :
    ∃ t, exec .sampleCarrierSeen s = .next t ∧ s.movesOnly (movedBy .sampleCarrierSeen) t := by
  rw [exec_sampleCarrierSeen, execSampleCarrierSeen]
  split
  · exact ⟨_, rfl, s.frameEnd_moves true⟩
  · exact ⟨_, rfl, State.movesOnly_refl⟩

theorem exec_moves_sampleWindowEnd :
    ∃ t, exec .sampleWindowEnd s = .next t ∧ s.movesOnly (movedBy .sampleWindowEnd) t := by
  rw [exec_sampleWindowEnd, execSampleWindowEnd]
  (repeat' split)
  · exact ⟨_, rfl, s.frameEnd_moves false⟩
  · exact ⟨_, rfl, State.eng_moves _ (by simp [movedBy]) (.inr rfl) (.inr rfl) (.inr rfl)⟩
  · exact ⟨_, rfl, State.movesOnly_refl⟩

theorem exec_moves_lingerExpiry : ∃ t, exec .lingerExpiry s = .next t ∧ s.movesOnly (movedBy .lingerExpiry) t := by
  rw [exec_lingerExpiry, execLingerExpiry]
  split
  · refine ⟨_, rfl, State.movesOnly_trans ?_ (State.movesOnly_mono (by simp [movedBy]) (State.engineSettle_moves _))⟩
    exact State.eng_moves _ (by simp [movedBy]) (.inr rfl) (.inr rfl) (.inr rfl)
  · exact ⟨_, rfl, State.movesOnly_refl⟩

theorem exec_moves_carrierRise : ∃ t, exec .carrierRise s = .next t ∧ s.movesOnly (movedBy .carrierRise) t := by
  rw [exec_carrierRise, execCarrierRise]
  split <;> exact ⟨_, rfl, State.eng_moves _ (by simp [movedBy]) (.inr rfl) (.inr rfl) (.inr rfl)⟩

theorem exec_moves_preambleRecognised :
    ∃ t, exec .preambleRecognised s = .next t ∧ s.movesOnly (movedBy .preambleRecognised) t := by
  rw [exec_preambleRecognised, execPreambleRecognised]
  split
  · exact ⟨_, rfl, State.eng_moves _ (by simp [movedBy]) (.inr rfl) (.inr rfl) (.inr rfl)⟩
  · exact ⟨_, rfl, State.movesOnly_refl⟩

theorem exec_moves_carrierFall : ∃ t, exec .carrierFall s = .next t ∧ s.movesOnly (movedBy .carrierFall) t := by
  rw [exec_carrierFall, execCarrierFall]
  (repeat' split)
  · exact ⟨_, rfl, (State.movesOnly_mono (by simp [movedBy]) s.beginField_moves)⟩
  · refine ⟨_, rfl, State.movesOnly_trans ?_ (State.movesOnly_mono (by simp [movedBy]) (State.engineSettle_moves _))⟩
    exact State.eng_moves _ (by simp [movedBy]) (.inr rfl) (.inr rfl) (.inr rfl)
  · exact ⟨_, rfl, State.eng_moves _ (by simp [movedBy]) (.inr rfl) (.inr rfl) (.inr rfl)⟩

theorem exec_moves_idleGapReached :
    ∃ t, exec .idleGapReached s = .next t ∧ s.movesOnly (movedBy .idleGapReached) t := by
  rw [exec_idleGapReached, execIdleGapReached]
  split
  · refine ⟨_, rfl, State.movesOnly_trans ?_ (State.movesOnly_mono (by simp [movedBy]) (State.engineSettle_moves _))⟩
    exact State.eng_moves _ (by simp [movedBy]) (.inr rfl) (.inr rfl) (.inr rfl)
  · exact ⟨_, rfl, State.movesOnly_refl⟩

theorem exec_moves_wakeLengthEnd (carrier : Bool) :
    ∃ t, exec (.wakeLengthEnd carrier) s = .next t ∧ s.movesOnly (movedBy (.wakeLengthEnd carrier)) t := by
  rw [exec_wakeLengthEnd, execWakeLengthEnd]
  (repeat' split)
  · exact ⟨_, rfl, State.eng_moves _ (by simp [movedBy]) (.inr rfl) (.inr rfl) (.inr rfl)⟩
  · exact ⟨_, rfl, (State.movesOnly_mono (by simp [movedBy]) s.beginField_moves)⟩
  · exact ⟨_, rfl, State.movesOnly_refl⟩

theorem exec_moves_wakingCarrierFall :
    ∃ t, exec .wakingCarrierFall s = .next t ∧ s.movesOnly (movedBy .wakingCarrierFall) t := by
  rw [exec_wakingCarrierFall, execWakingCarrierFall]
  split
  · exact ⟨_, rfl, (State.movesOnly_mono (by simp [movedBy]) s.beginField_moves)⟩
  · exact ⟨_, rfl, State.movesOnly_refl⟩

theorem exec_moves_wakingCap : ∃ t, exec .wakingCap s = .next t ∧ s.movesOnly (movedBy .wakingCap) t := by
  rw [exec_wakingCap, execWakingCap]
  split
  · refine ⟨_, rfl, State.movesOnly_trans (State.movesOnly_trans ?_ (State.movesOnly_mono (by simp [movedBy])
      (State.fieldLost_moves _)))
      (State.movesOnly_mono (by simp [movedBy]) (State.engineSettle_moves _))⟩
    exact State.eng_moves _ (by simp [movedBy]) (.inr rfl) (.inr rfl) (.inr rfl)
  · exact ⟨_, rfl, State.movesOnly_refl⟩

theorem exec_moves_fieldSlot (carrier : Bool) :
    ∃ t, exec (.fieldSlot carrier) s = .next t ∧ s.movesOnly (movedBy (.fieldSlot carrier)) t := by
  rw [exec_fieldSlot, execFieldSlot]
  dsimp only
  split
  · refine ⟨_, rfl, ?_⟩
    split
    · refine State.movesOnly_trans ?_ (State.movesOnly_mono (by simp [movedBy]) (State.loseField_moves _))
      exact State.eng_moves _ (by simp [movedBy]) (.inr rfl) (.inr rfl) (.inr rfl)
    · exact State.eng_moves _ (by simp [movedBy]) (.inr rfl) (.inr rfl) (.inr rfl)
  · exact ⟨_, rfl, State.movesOnly_refl⟩

theorem exec_moves_contentionLost :
    ∃ t, exec .contentionLost s = .next t ∧ s.movesOnly (movedBy .contentionLost) t := by
  rw [exec_contentionLost, execContentionLost]
  split
  · refine ⟨_, rfl, State.movesOnly_trans ?_ (State.movesOnly_mono (by simp [movedBy]) (State.loseField_moves _))⟩
    exact State.eng_moves _ (by simp [movedBy]) (.inr rfl) (.inr rfl) (.inr rfl)
  · exact ⟨_, rfl, State.movesOnly_refl⟩

theorem exec_moves_fieldEnd : ∃ t, exec .fieldEnd s = .next t ∧ s.movesOnly (movedBy .fieldEnd) t := by
  rw [exec_fieldEnd, execFieldEnd]
  dsimp only
  (repeat' split)
  · exact ⟨_, rfl, State.movesOnly_trans (State.movesOnly_mono (by simp [movedBy]) s.fieldWon_moves)
      (State.eng_moves _ (by simp [movedBy]) (.inr rfl) (.inr rfl) (.inr rfl))⟩
  · exact ⟨_, rfl, State.eng_moves _ (by simp [movedBy]) (.inr rfl) (.inr rfl) (.inr rfl)⟩
  · exact ⟨_, rfl, State.movesOnly_refl⟩

theorem exec_moves_closingMarkSent :
    ∃ t, exec .closingMarkSent s = .next t ∧ s.movesOnly (movedBy .closingMarkSent) t := by
  rw [exec_closingMarkSent, execClosingMarkSent]
  split
  · exact ⟨_, rfl, State.eng_moves _ (by simp [movedBy]) (.inr rfl) (.inl (by simp [movedBy])) (.inr rfl)⟩
  · exact ⟨_, rfl, State.movesOnly_refl⟩

theorem exec_moves_openingMarkFound (rxd : List Bool) :
    ∃ t, exec (.openingMarkFound rxd) s = .next t ∧ s.movesOnly (movedBy (.openingMarkFound rxd)) t := by
  rw [exec_openingMarkFound, execOpeningMarkFound]
  split
  · exact ⟨_, rfl, State.eng_moves _ (by simp [movedBy]) (.inr rfl) (.inr rfl) (.inr rfl)⟩
  · exact ⟨_, rfl, State.movesOnly_refl⟩

theorem exec_moves_markWaitExpiry (carrier : Bool) :
    ∃ t, exec (.markWaitExpiry carrier) s = .next t ∧ s.movesOnly (movedBy (.markWaitExpiry carrier)) t := by
  rw [exec_markWaitExpiry, execMarkWaitExpiry]
  split
  · refine ⟨_, rfl, State.movesOnly_trans ?_ (State.movesOnly_mono (by simp [movedBy]) (State.engineSettle_moves _))⟩
    exact State.eng_moves _ (by simp [movedBy]) (.inr rfl) (.inr rfl) (.inr rfl)
  · exact ⟨_, rfl, State.movesOnly_refl⟩

theorem exec_moves_goodFrame (rxd : List Bool) (monitorFirst : Bool) :
    ∃ t, exec (.goodFrame rxd monitorFirst) s = .next t ∧ s.movesOnly (movedBy (.goodFrame rxd monitorFirst)) t := by
  rw [exec_goodFrame, execGoodFrame]
  (repeat' split)
  · exact ⟨_, rfl, s.goodFrame_moves _ _⟩
  · exact ⟨_, rfl, State.movesOnly_refl⟩
  · exact ⟨_, rfl, State.movesOnly_refl⟩

theorem exec_moves_badFrame (rxd : List Bool) (carrier : Bool) :
    ∃ t, exec (.badFrame rxd carrier) s = .next t ∧ s.movesOnly (movedBy (.badFrame rxd carrier)) t := by
  rw [exec_badFrame, execBadFrame]
  dsimp only
  split
  · have hkind : s.monitorBad.movesOnly [.engine] { s.monitorBad with eng := { s.monitorBad.eng with kindObs := none } } :=
      State.eng_moves _ (by simp) (.inr rfl) (.inr rfl) (.inr rfl)
    exact ⟨_, rfl, State.movesOnly_trans (State.movesOnly_mono (by simp [movedBy]) s.monitorBad_moves)
      (State.movesOnly_trans (State.movesOnly_mono (by simp [movedBy]) hkind)
        (State.movesOnly_trans (State.movesOnly_mono (by simp [movedBy]) (State.frameEnd_moves _ _))
          (State.movesOnly_mono (by simp [movedBy]) (State.engineSettle_moves _))))⟩
  · exact ⟨_, rfl, State.movesOnly_refl⟩

theorem exec_moves_echoSlotEnd (carrier : Bool) :
    ∃ t, exec (.echoSlotEnd carrier) s = .next t ∧ s.movesOnly (movedBy (.echoSlotEnd carrier)) t := by
  rw [exec_echoSlotEnd, execEchoSlotEnd]
  split
  · exact ⟨_, rfl, State.movesOnly_trans (State.movesOnly_mono (by simp [movedBy]) (s.frameEnd_moves _))
      (State.movesOnly_mono (by simp [movedBy]) (State.engineSettle_moves _))⟩
  · exact ⟨_, rfl, State.movesOnly_refl⟩

theorem exec_moves_awaitEchoEnd (echo : Bool) (carrier : Bool) (monitorFirst : Bool) :
    ∃ t, exec (.awaitEchoEnd echo carrier monitorFirst) s = .next t ∧
      s.movesOnly (movedBy (.awaitEchoEnd echo carrier monitorFirst)) t := by
  rw [exec_awaitEchoEnd, execAwaitEchoEnd]
  split
  · exact ⟨_, rfl, State.movesOnly_trans (State.movesOnly_mono (by simp [movedBy]) (s.takeOutcome_moves _ _))
      (State.movesOnly_trans
      (State.movesOnly_mono (by simp [movedBy]) (State.frameEnd_moves _ _))
      (State.movesOnly_mono (by simp [movedBy]) (State.engineSettle_moves _)))⟩
  · exact ⟨_, rfl, State.movesOnly_refl⟩

theorem exec_moves_abortTailEnd : ∃ t, exec .abortTailEnd s = .next t ∧ s.movesOnly (movedBy .abortTailEnd) t := by
  rw [exec_abortTailEnd, execAbortTailEnd]
  dsimp only
  split
  · exact ⟨_, rfl, State.movesOnly_refl⟩
  · refine ⟨_, rfl, ?_⟩
    split
    · refine State.movesOnly_trans ?_ (State.movesOnly_mono (by simp [movedBy]) (State.leaveOff_moves _))
      exact State.eng_moves _ (by simp [movedBy]) (.inr rfl) (.inr rfl) (.inr rfl)
    · exact State.eng_moves _ (by simp [movedBy]) (.inr rfl) (.inr rfl) (.inr rfl)

theorem exec_moves_mergeStep : ∃ t, exec .mergeStep s = .next t ∧ s.movesOnly (movedBy .mergeStep) t := by
  exact ⟨_, rfl, (State.movesOnly_mono (by simp [movedBy]) s.mergeOnce_moves)⟩

theorem exec_moves_rxdLevelChange :
    ∃ t, exec .rxdLevelChange s = .next t ∧ s.movesOnly (movedBy .rxdLevelChange) t := by
  rw [exec_rxdLevelChange, execRxdLevelChange]
  split <;> exact ⟨_, rfl, State.eng_moves _ (by simp [movedBy]) (.inr rfl) (.inr rfl) (.inr rfl)⟩

/-- Every command on every state ends in a next state and moves its own parts alone. -/
theorem exec_moves (c : Instr) : ∃ t, exec c s = .next t ∧ s.movesOnly (movedBy c) t := by
  cases c with
  | readStatus args => exact exec_moves_port s _ rfl
  | start args => exact exec_moves_port s _ rfl
  | restart args n => exact exec_moves_port s _ rfl
  | rejoin args => exact exec_moves_port s _ rfl
  | postSample args => exact exec_moves_port s _ rfl
  | readOwn args => exact exec_moves_port s _ rfl
  | readEntry args => exact exec_moves_port s _ rfl
  | readSlot args => exact exec_moves_port s _ rfl
  | solicit args => exact exec_moves_port s _ rfl
  | exportNext args => exact exec_moves_port s _ rfl
  | clearNotices args => exact exec_moves_port s _ rfl
  | setNoticeMask args => exact exec_moves_port s _ rfl
  | exportNextCompletion => exact exec_moves_exportNextCompletion s
  | exportCutShort clocked => exact exec_moves_exportCutShort s clocked
  | unknownCommand code args => exact exec_moves_unknownCommand s code args
  | transactionAbandoned place => exact exec_moves_transactionAbandoned s place
  | hardReset => exact exec_moves_hardReset s
  | resetRelease => exact exec_moves_resetRelease s
  | portReady => exact exec_moves_portReady s
  | stationClockTick => exact exec_moves_stationClockTick s
  | minuteBoundary => exact exec_moves_minuteBoundary s
  | allowanceRefill => exact exec_moves_allowanceRefill s
  | probeTimerExpiry => exact exec_moves_probeTimerExpiry s
  | listenTimerExpiry => exact exec_moves_listenTimerExpiry s
  | sampleCarrierSeen => exact exec_moves_sampleCarrierSeen s
  | sampleWindowEnd => exact exec_moves_sampleWindowEnd s
  | lingerExpiry => exact exec_moves_lingerExpiry s
  | carrierRise => exact exec_moves_carrierRise s
  | preambleRecognised => exact exec_moves_preambleRecognised s
  | carrierFall => exact exec_moves_carrierFall s
  | idleGapReached => exact exec_moves_idleGapReached s
  | wakeLengthEnd carrier => exact exec_moves_wakeLengthEnd s carrier
  | wakingCarrierFall => exact exec_moves_wakingCarrierFall s
  | wakingCap => exact exec_moves_wakingCap s
  | fieldSlot carrier => exact exec_moves_fieldSlot s carrier
  | contentionLost => exact exec_moves_contentionLost s
  | fieldEnd => exact exec_moves_fieldEnd s
  | closingMarkSent => exact exec_moves_closingMarkSent s
  | openingMarkFound rxd => exact exec_moves_openingMarkFound s rxd
  | markWaitExpiry carrier => exact exec_moves_markWaitExpiry s carrier
  | goodFrame rxd monitorFirst => exact exec_moves_goodFrame s rxd monitorFirst
  | badFrame rxd carrier => exact exec_moves_badFrame s rxd carrier
  | echoSlotEnd carrier => exact exec_moves_echoSlotEnd s carrier
  | awaitEchoEnd echo carrier monitorFirst => exact exec_moves_awaitEchoEnd s echo carrier monitorFirst
  | abortTailEnd => exact exec_moves_abortTailEnd s
  | mergeStep => exact exec_moves_mergeStep s
  | rxdLevelChange => exact exec_moves_rxdLevelChange s

/-- A part that a command does not own is the same behind it. -/
theorem same_of_exec {c : Instr} {t : State} {s : State} (h : exec c s = .next t) {p : Part} (hp : p ∉ movedBy c) :
    p.same s t := by
  obtain ⟨u, hu, hmoves⟩ := exec_moves s c
  obtain rfl : u = t := by rw [hu] at h; exact Host.Outcome.next.inj h
  exact hmoves p hp

end

end Sys2Proof.Machine
end

section
open Sys2Proof Sys2Proof.Machine

/-- Settles O51: a part that differs is one that the command may move, and those are the commands listed for it. -/
theorem stateMovesOnlyAtItsEvents : Obligations.StateMovesOnlyAtItsEvents := by
  intro c s
  obtain ⟨t, ht, hmoves⟩ := exec_moves s c
  have hmoved : ∀ p : Part, ¬ p.same s t → p ∈ movedBy c := fun p hp => by_contra fun hout => hp (hmoves p hout)
  refine ⟨t, ht, hmoves .pending (by cases c <;> simp [movedBy]), fun h => ?_, fun h => ?_, fun h => ?_, fun h => ?_,
    fun h => ?_, fun h => ?_, fun h => ?_, fun h => ?_, fun h => ?_, fun h => ?_, fun h => ?_, fun h => ?_, fun h => ?_,
    fun h => ?_, fun h => ?_, fun h => ?_, fun h => ?_, fun h => ?_, fun h => ?_, fun h => ?_, fun h => ?_, fun h => ?_,
    fun h => ?_, fun h => ?_, fun h => ?_, fun h => ?_, fun h => ?_, fun h => ?_, fun h => ?_, fun h => ?_, fun h => ?_⟩
  · have hp := hmoved .running h; cases c <;> simp [movedBy] at hp ⊢
  · have hp := hmoved .config h; cases c <;> simp [movedBy] at hp ⊢
  · have hp := hmoved .clock h; cases c <;> simp [movedBy] at hp ⊢
  · have hp := hmoved .mask h; cases c <;> simp [movedBy] at hp ⊢
  · have hp := hmoved .standing h; cases c <;> simp [movedBy] at hp ⊢
  · have hp := hmoved .sendFailure h; cases c <;> simp [movedBy] at hp ⊢
  · have hp := hmoved .receptionFault h; cases c <;> simp [movedBy] at hp ⊢
  · have hp := hmoved .recovery h; cases c <;> simp [movedBy] at hp ⊢
  · have hp := hmoved .armed h; cases c <;> simp [movedBy] at hp ⊢
  · have hp := hmoved .probeTimer h; cases c <;> simp [movedBy] at hp ⊢
  · have hp := hmoved .allowance h; cases c <;> simp [movedBy] at hp ⊢
  · have hp := hmoved .refillCount h; cases c <;> simp [movedBy] at hp ⊢
  · have hp := hmoved .heard h; cases c <;> simp [movedBy] at hp ⊢
  · have hp := hmoved .sent h; cases c <;> simp [movedBy] at hp ⊢
  · have hp := hmoved .lost h; cases c <;> simp [movedBy] at hp ⊢
  · have hp := hmoved .clash h; cases c <;> simp [movedBy] at hp ⊢
  · have hp := hmoved .overrun h; cases c <;> simp [movedBy] at hp ⊢
  · have hp := hmoved .refusals h; cases c <;> simp [movedBy] at hp ⊢
  · have hp := hmoved .estimator h; cases c <;> simp [movedBy] at hp ⊢
  · have hp := hmoved .pair h; cases c <;> simp [movedBy] at hp ⊢
  · have hp := hmoved .queue h; cases c <;> simp [movedBy] at hp ⊢
  · have hp := hmoved .drainList h; cases c <;> simp [movedBy] at hp ⊢
  · have hp := hmoved .solicit h; cases c <;> simp [movedBy] at hp ⊢
  · have hp := hmoved .nextSerial h; cases c <;> simp [movedBy] at hp ⊢
  · have hp := hmoved .flags h; cases c <;> simp [movedBy] at hp ⊢
  · have hp := hmoved .resetn h; cases c <;> simp [movedBy] at hp ⊢
  · have hp := hmoved .ready h; cases c <;> simp [movedBy] at hp ⊢
  · have hp := hmoved .boundaryDue h; cases c <;> simp [movedBy] at hp ⊢
  · have hp := hmoved .lidHeld h; cases c <;> simp [movedBy] at hp ⊢
  · have hp := hmoved .drainDrop h; cases c <;> simp [movedBy] at hp ⊢
  · have hp := hmoved .inHand h; cases c <;> simp [movedBy] at hp ⊢

end

section
/-! PROOFS. Selection order (R124) as the order of a lexicographic rank, the admitted candidates as the entries that may
fill a frame (R123), and what one build takes of them (R125). -/

namespace Sys2Proof.Machine

/-! ### Selection order -/

/-- What selection order compares of an entry, in order (R124). -/
def selectionRank (e : Entry) : ℕ ×ₗ ℕ ×ₗ ℕ ×ₗ ℕ ×ₗ ℕ :=
  toLex (e.report.cls.val, toLex (if e.origin = .own then 0 else 1, toLex (e.report.ttf, toLex (e.hops,
    e.report.binId.toNat))))

theorem selectedBefore_iff {a b : Entry} : selectedBefore a b = true ↔ selectionRank a ≤ selectionRank b := by
  simp only [selectedBefore, selectionRank, Prod.Lex.toLex_le_toLex]
  by_cases hcls : a.report.cls = b.report.cls
  · by_cases ha : a.origin = .own <;> by_cases hb : b.origin = .own <;> by_cases httf : a.report.ttf = b.report.ttf <;>
      by_cases hhops : a.hops = b.hops <;> simp [hcls, ha, hb, httf, hhops]
  · have hval : a.report.cls.val ≠ b.report.cls.val := fun h => hcls (Fin.ext h)
    simp [hcls, hval]

theorem selectsFirst_iff {a b : Entry} : selectsFirst a b ↔ selectionRank a < selectionRank b := by
  simp only [selectsFirst, selectionRank, Prod.Lex.toLex_lt_toLex, Fin.lt_def, Fin.ext_iff]
  by_cases ha : a.origin = .own <;> by_cases hb : b.origin = .own <;> simp [ha, hb]

/-- Two entries of one rank are of one bin. -/
theorem binId_of_selectionRank_eq {a b : Entry} (h : selectionRank a = selectionRank b) :
    a.report.binId = b.report.binId := by
  simp only [selectionRank, toLex_inj, Prod.mk.injEq] at h
  exact BitVec.eq_of_toNat_eq h.2.2.2.2

theorem mem_inSelectionOrder {e : Entry} {es : List Entry} : e ∈ inSelectionOrder es ↔ e ∈ es :=
  List.mem_insertionSort _

theorem inSelectionOrder_pairwise (es : List Entry) :
    (inSelectionOrder es).Pairwise (fun a b => selectionRank a ≤ selectionRank b) := by
  have htotal : Std.Total (fun a b => selectedBefore a b = true) :=
    ⟨fun a b => by simpa only [selectedBefore_iff] using le_total _ _⟩
  have htrans : IsTrans Entry (fun a b => selectedBefore a b = true) :=
    ⟨fun a b c => by simpa only [selectedBefore_iff] using le_trans⟩
  exact (List.pairwise_insertionSort _ es).imp fun h => selectedBefore_iff.1 h

theorem inSelectionOrder_perm (es : List Entry) : (inSelectionOrder es).Perm es := List.perm_insertionSort _ _

theorem inSelectionOrder_eq_nil {es : List Entry} : inSelectionOrder es = [] ↔ es = [] :=
  ⟨fun h => List.eq_nil_of_length_eq_zero (by rw [← (inSelectionOrder_perm es).length_eq, h]; rfl),
    fun h => by rw [h]; rfl⟩

/-- Entries of a table in its canonical form, put in selection order, stand in it strictly. -/
theorem inSelectionOrder_strict {t es : List Entry} (hw : tableWf t) (hs : es.Sublist t) :
    (inSelectionOrder es).Pairwise selectsFirst := by
  have hdistinct : es.Pairwise (fun a b => a.report.binId ≠ b.report.binId) := (hw.1.sublist hs).imp And.right
  have hdistinct : (inSelectionOrder es).Pairwise (fun a b => a.report.binId ≠ b.report.binId) :=
    (inSelectionOrder_perm es).symm.pairwise hdistinct fun h => h.symm
  refine ((inSelectionOrder_pairwise es).and hdistinct).imp fun ⟨hle, hne⟩ => selectsFirst_iff.2 ?_
  exact lt_of_le_of_ne hle fun h => hne (binId_of_selectionRank_eq h)

/-! ### The admitted candidates -/

theorem Entry.candidate_iff {e : Entry} : e.candidate = true ↔ e.owing = .owed ∧ e.placed = .unplaced := by
  simp [Entry.candidate]

theorem Entry.exempt_iff {e : Entry} : e.exempt = true ↔ e.origin = .own ∨ e.report.cls = 0 := by
  simp [Entry.exempt]

theorem State.mem_admittedEntries {s : State} {e : Entry} : e ∈ s.admittedEntries ↔ e ∈ s.table ∧ s.mayFill e := by
  cases hstanding : s.mon.standing <;>
    simp [State.admittedEntries, State.mayFill, hstanding, Entry.candidate_iff, Entry.exempt_iff] <;> tauto

theorem State.admittedEntries_sublist (s : State) : s.admittedEntries.Sublist s.table := by
  unfold State.admittedEntries
  split
  · exact List.filter_sublist
  · exact List.filter_sublist
  · exact List.nil_sublist _

theorem State.probeEntry_of_not_mute {s : State} (h : s.mon.standing ≠ .mute) : s.probeEntry = none := by
  simp [State.probeEntry, h]

/-- Outside MUTE the bin role builds of the first five admitted candidates (R125). -/
theorem State.nextFrame_fill {s : State} {lead : Entry} {rest : List Entry} (hrole : s.role = .bin)
    (hprobe : s.probeEntry = none)
    (htake : (inSelectionOrder s.admittedEntries).take Config.fillMax = lead :: rest) :
    s.nextFrame =
      some ({ key := fillKey lead.report.cls lead.report.ttf s.cfg.stationId,
              payload := .fill ((lead :: rest).map Entry.freeze) false },
        (lead :: rest).map (fun e => e.report.binId)) := by
  simp only [State.nextFrame, hrole, hprobe, htake]

section
variable {s : State} {f : FrameRec} {bins : List BinId}

theorem State.buildOne_of_built (h : s.sel.build ≠ none) : s.buildOne = s := by
  rw [State.buildOne, if_pos (Option.isSome_iff_ne_none.2 h)]

theorem State.buildOne_of_nothing (h : s.nextFrame = none) : s.buildOne = s := by
  simp only [State.buildOne, h, ite_self]

theorem State.buildOne_stages (hbuild : s.sel.build = none) (hstage : s.sel.stage = none)
    (h : s.nextFrame = some (f, bins)) :
    s.buildOne = { s with
      sel := { s.sel with stage := some { frame := f, cond := .staged } }, table := placeBins bins .stage s.table } := by
  simp only [State.buildOne, hbuild, hstage, h, Option.isSome_none, Bool.false_eq_true, if_false]

theorem State.buildOne_builds (hbuild : s.sel.build = none) (hstage : s.sel.stage ≠ none)
    (h : s.nextFrame = some (f, bins)) :
    s.buildOne = { s with sel := { s.sel with build := some f }, table := placeBins bins .build s.table } := by
  obtain ⟨x, hx⟩ := Option.ne_none_iff_exists'.1 hstage
  simp only [State.buildOne, hbuild, hx, h, Option.isSome_none, Bool.false_eq_true, if_false]

end

/-- Placing the bins of some entries of a table places those entries. -/
theorem placeBins_eq {t taken : List Entry} (p : Placement) (hw : tableWf t) (hmem : ∀ e ∈ taken, e ∈ t) :
    placeBins (taken.map (fun e => e.report.binId)) p t =
      t.map (fun e => if e ∈ taken then { e with placed := p } else e) := by
  refine List.map_congr_left fun e he => ?_
  have hiff : (taken.map (fun e => e.report.binId)).contains e.report.binId = true ↔ e ∈ taken := by
    simp only [List.contains_eq_mem, decide_eq_true_eq, List.mem_map]
    refine ⟨fun ⟨x, hx, hbin⟩ => ?_, fun h => ⟨e, h, rfl⟩⟩
    rwa [← entry_unique hw (hmem x hx) he (.inl hbin)]
  by_cases h : e ∈ taken
  · rw [if_pos (hiff.2 h), if_pos h]
  · rw [if_neg (fun k => h (hiff.1 k)), if_neg h]

/-! ### Keys (R35 to R37) -/

theorem tieByte_lt (b : BinId) : tieByte b < 256 := Nat.mod_lt _ (by decide)

theorem keyOf_toNat {cls bucket tie : Nat} (hc : cls < 4) (hb : bucket < 64) (ht : tie < 256) :
    (keyOf cls bucket tie).toNat = cls * 16384 + bucket * 256 + tie := by
  rw [keyOf, BitVec.toNat_ofNat]
  exact Nat.mod_eq_of_lt (by omega)

theorem fillKey_toNat (cls : Urgency) (ttf : Nat) (station : BinId) :
    (fillKey cls ttf station).toNat = cls.val * 16384 + min 63 (ttf / 64) * 256 + station.toNat % 256 :=
  keyOf_toNat cls.isLt (by omega) (tieByte_lt _)

theorem drainKey_toNat (station : BinId) : (drainKey station).toNat = station.toNat % 256 := by
  rw [drainKey, keyOf_toNat (by decide) (by decide) (tieByte_lt _)]
  simp [tieByte]

theorem solicitKey_toNat (cls : Urgency) (station : BinId) :
    (solicitKey cls station).toNat = cls.val * 16384 + 63 * 256 + station.toNat % 256 :=
  keyOf_toNat cls.isLt (by decide) (tieByte_lt _)

end Sys2Proof.Machine
end

section
open Sys2Proof Sys2Proof.Machine

/-- Settles O47: the first five of the admitted candidates in selection order. -/
theorem buildTakesTheFirstFive : Obligations.BuildTakesTheFirstFive := by
  intro s hrole hmute hbuild hw ⟨e₀, he₀, hfill₀⟩
  have hsorted := inSelectionOrder_strict hw s.admittedEntries_sublist
  have hmem : ∀ e ∈ (inSelectionOrder s.admittedEntries).take 5, e ∈ s.table ∧ s.mayFill e := fun e he =>
    State.mem_admittedEntries.1 (mem_inSelectionOrder.1 (List.mem_of_mem_take he))
  obtain ⟨lead, rest, htake⟩ : ∃ lead rest, (inSelectionOrder s.admittedEntries).take 5 = lead :: rest := by
    refine List.exists_cons_of_ne_nil fun h => ?_
    rw [List.take_eq_nil_iff, inSelectionOrder_eq_nil] at h
    have := State.mem_admittedEntries.2 ⟨he₀, hfill₀⟩
    rw [h.resolve_left (by decide)] at this
    cases this
  have hnext := State.nextFrame_fill hrole (State.probeEntry_of_not_mute hmute) htake
  rw [htake] at hmem
  refine ⟨lead :: rest, lead, rest, ⟨fillKey lead.report.cls lead.report.ttf s.cfg.stationId,
    .fill ((lead :: rest).map Entry.freeze) false⟩, rfl, htake ▸ List.length_take_le _ _,
    htake ▸ hsorted.sublist (List.take_sublist _ _), hmem, fun e he hfill => ?_, fillKey_toNat _ _ _, rfl,
    fun hstage => ?_, fun hstage => ?_⟩
  · have hin := mem_inSelectionOrder.2 (State.mem_admittedEntries.2 ⟨he, hfill⟩)
    rw [← List.take_append_drop 5 (inSelectionOrder s.admittedEntries), List.mem_append] at hin
    rw [← htake]
    refine hin.imp_right fun hdrop => ⟨?_, fun x hx => ?_⟩
    · have := List.length_pos_of_mem hdrop
      rw [List.length_drop] at this
      rw [List.length_take]
      omega
    · rw [← List.take_append_drop 5 (inSelectionOrder s.admittedEntries)] at hsorted
      exact (List.pairwise_append.1 hsorted).2.2 x hx e hdrop
  · rw [State.buildOne_stages hbuild hstage hnext, placeBins_eq .stage hw fun e he => (hmem e he).1]
  · rw [State.buildOne_builds hbuild hstage hnext, placeBins_eq .build hw fun e he => (hmem e he).1]

end

section
/-! PROOFS. What the send selector may do of itself, as one relation between states: it withdraws uncommitted frames,
builds frames of what stands in the table and the gateway unit, and moves nothing else (R87, R125, R126, R128, R138). -/

namespace Sys2Proof.Machine

/-! ### Tables that are the same but for placement marks -/

theorem samePlacesAside_symm {t u : List Entry} (h : samePlacesAside t u) : samePlacesAside u t := Eq.symm h

/-- An entry of a table stands, but for its placement, in every table that is the same but for placement marks. -/
theorem exists_mem_of_samePlacesAside {t u : List Entry} {e : Entry} (h : samePlacesAside t u) (he : e ∈ t) :
    ∃ p, { e with placed := p } ∈ u := by
  have hmem : { e with placed := .unplaced } ∈ u.map (fun e => { e with placed := .unplaced }) :=
    h ▸ List.mem_map.2 ⟨e, he, rfl⟩
  obtain ⟨x, hx, heq⟩ := List.mem_map.1 hmem
  refine ⟨x.placed, ?_⟩
  cases x
  cases e
  simp only [Entry.mk.injEq] at heq
  obtain ⟨rfl, rfl, rfl, rfl, rfl, rfl, rfl, -, rfl, rfl, rfl⟩ := heq
  exact hx

/-- A property that does not look at the placement holds of every entry of both tables or of neither. -/
theorem forall_of_samePlacesAside {t u : List Entry} {P : Entry → Prop} (hP : ∀ e p, P { e with placed := p } → P e)
    (h : samePlacesAside t u) (hu : ∀ e ∈ u, P e) : ∀ e ∈ t, P e := fun e he => by
  obtain ⟨p, hp⟩ := exists_mem_of_samePlacesAside h he
  exact hP e p (hu _ hp)

theorem samePlacesAside_map {t u : List Entry} {f : Entry → Entry}
    (hf : ∀ e p, { f { e with placed := p } with placed := .unplaced } = { f e with placed := .unplaced })
    (h : samePlacesAside t u) : samePlacesAside (t.map f) (u.map f) := by
  have key : ∀ l : List Entry, (l.map f).map (fun e => { e with placed := Placement.unplaced }) =
      (l.map (fun e => { e with placed := Placement.unplaced })).map
        (fun e => { f e with placed := Placement.unplaced }) := fun l => by
    rw [List.map_map, List.map_map]
    exact List.map_congr_left fun e _ => (hf e .unplaced).symm
  unfold samePlacesAside
  rw [key, key, h]

/-! ### The frames that may be built -/

/-- The selector may build this frame: it is eligible, and made of OWED entries of the table in the bin role, of listed
items or the pending solicit in the gateway role (R123, R125, R126, R137). -/
def State.mayBuild (s : State) (f : FrameRec) : Prop :=
  s.eligible f = true ∧
    match s.role with
    | .bin => ∃ c rest probe, f.payload = .fill (c :: rest) probe ∧
        ∀ d ∈ c :: rest, ∃ e ∈ s.table, e.owing = .owed ∧ e.freeze = d
    | .gateway =>
      (∃ items, f.payload = .drain items ∧ ∀ i ∈ items, ∃ x ∈ s.gw.drainList, (x.binId, x.seq) = i) ∨
        ∃ p target, s.gw.solicit = some p ∧ f.payload = .solicit target p.serial

theorem State.ownEntry_mem {s : State} {e : Entry} (h : s.ownEntry = some e) :
    e ∈ s.table ∧ e.report.binId = s.cfg.stationId ∧ s.isBin = true := by
  unfold State.ownEntry State.entryOf at h
  split at h
  · next hbin => exact ⟨List.mem_of_find?_eq_some h, by simpa using List.find?_some h, hbin⟩
  · cases h

/-- What a due probe is built of (R137, R148). -/
theorem State.probeEntry_eq_some {s : State} {e : Entry} :
    s.probeEntry = some e ↔
      (s.mon.standing = .mute ∧ s.mon.probeTimer = 0 ∧ s.sel.build = none ∧ s.sel.stage = none) ∧
        s.ownEntry = some e ∧ e.owing = .owed ∧ e.placed = .unplaced ∧ e.report.cls = 0 := by
  unfold State.probeEntry
  split
  · next h => simp [h, Option.filter_eq_some_iff, Entry.candidate_iff, and_assoc]
  · next h => simp [h]

theorem State.mem_admittedItems {s : State} {i : DrainItem} :
    i ∈ s.admittedItems ↔ s.mon.standing ≠ .mute ∧ i ∈ s.gw.drainList ∧ s.sel.carriesItem i = false := by
  cases h : s.mon.standing <;> simp [State.admittedItems, h]

theorem State.admittedSolicit_eq_some {s : State} {p : PendingSolicit} :
    s.admittedSolicit = some p ↔
      s.mon.standing = .active ∧ s.gw.solicit = some p ∧ s.sel.carriesSolicit p = false := by
  cases h : s.mon.standing <;> simp [State.admittedSolicit, h, Option.filter_eq_some_iff]

theorem Selector.carriesItem_iff {sel : Selector} {i : DrainItem} : sel.carriesItem i = true ↔ sel.announces i := by
  unfold Selector.carriesItem Selector.announces
  simp only [List.any_eq_true]
  refine exists_congr fun f => and_congr_right fun _ => ?_
  rcases f with ⟨key, es | is | ⟨t, n⟩⟩ <;> simp

/-- The three shapes of a built frame: the probe, a FILL frame of admitted candidates, a DRAIN frame, a SOLICIT frame. -/
theorem State.nextFrame_cases {s : State} {f : FrameRec} {bins : List BinId} (h : s.nextFrame = some (f, bins)) :
    (s.role = .bin ∧ ∃ e, s.probeEntry = some e ∧ bins = [e.report.binId] ∧
      f = ⟨fillKey e.report.cls e.report.ttf s.cfg.stationId, .fill [e.freeze] true⟩) ∨
    (s.role = .bin ∧ s.probeEntry = none ∧ ∃ lead rest,
      (inSelectionOrder s.admittedEntries).take 5 = lead :: rest ∧
      bins = (lead :: rest).map (fun e => e.report.binId) ∧
      f = ⟨fillKey lead.report.cls lead.report.ttf s.cfg.stationId, .fill ((lead :: rest).map Entry.freeze) false⟩) ∨
    (s.role = .gateway ∧ s.admittedItems ≠ [] ∧ bins = [] ∧
      f = ⟨drainKey s.cfg.stationId, .drain ((s.admittedItems.take 8).map (fun x => (x.binId, x.seq)))⟩) ∨
    (s.role = .gateway ∧ s.admittedItems = [] ∧ bins = [] ∧ ∃ p, s.admittedSolicit = some p ∧
      f = ⟨solicitKey (urgencyOf p.maxClass) s.cfg.stationId,
        .solicit { binId := p.binId, mask := p.mask, maxClass := urgencyOf p.maxClass } p.serial⟩) := by
  unfold State.nextFrame at h
  dsimp only at h
  cases hrole : s.role with
  | bin =>
    cases hprobe : s.probeEntry with
    | some e =>
      simp only [hrole, hprobe, Option.some.injEq, Prod.mk.injEq] at h
      exact .inl ⟨rfl, e, rfl, h.2.symm, h.1.symm⟩
    | none =>
      cases htake : (inSelectionOrder s.admittedEntries).take Config.fillMax with
      | nil => simp [hrole, hprobe, htake] at h
      | cons lead rest =>
        simp only [hrole, hprobe, htake, Option.some.injEq, Prod.mk.injEq] at h
        exact .inr (.inl ⟨rfl, rfl, lead, rest, htake, h.2.symm, h.1.symm⟩)
  | gateway =>
    cases hitems : s.admittedItems with
    | cons i is =>
      simp only [hrole, hitems, Option.some.injEq, Prod.mk.injEq] at h
      exact .inr (.inr (.inl ⟨rfl, List.cons_ne_nil _ _, h.2.symm, h.1.symm⟩))
    | nil =>
      cases hsolicit : s.admittedSolicit with
      | none => simp [hrole, hitems, hsolicit] at h
      | some p =>
        simp only [hrole, hitems, hsolicit, Option.some.injEq, Prod.mk.injEq] at h
        exact .inr (.inr (.inr ⟨rfl, rfl, h.2.symm, p, rfl, h.1.symm⟩))

/-- The entries of a first five are admitted candidates. -/
theorem State.mem_of_take {s : State} {lead : Entry} {rest : List Entry}
    (h : (inSelectionOrder s.admittedEntries).take 5 = lead :: rest) :
    ∀ e ∈ lead :: rest, e ∈ s.table ∧ s.mayFill e := fun _ he =>
  State.mem_admittedEntries.1 (mem_inSelectionOrder.1 (List.mem_of_mem_take (h ▸ he)))

/-- What is built is what may be built. -/
theorem State.mayBuild_of_nextFrame {s : State} {f : FrameRec} {bins : List BinId} (h : s.nextFrame = some (f, bins)) :
    s.mayBuild f := by
  rcases s.nextFrame_cases h with ⟨hrole, e, hprobe, -, rfl⟩ | ⟨hrole, -, lead, rest, htake, -, rfl⟩ |
    ⟨hrole, hitems, -, rfl⟩ | ⟨hrole, -, -, p, hp, rfl⟩
  · obtain ⟨-, hown, howed, -, -⟩ := State.probeEntry_eq_some.1 hprobe
    refine ⟨rfl, ?_⟩
    rw [hrole]
    exact ⟨e.freeze, [], true, rfl, by simpa using ⟨e, (s.ownEntry_mem hown).1, howed, rfl⟩⟩
  · have hmem := State.mem_of_take htake
    obtain ⟨howed, -, hmute, hadmit⟩ := (hmem lead (by simp)).2
    refine ⟨?_, ?_⟩
    · rw [State.eligible_fill_iff rfl]
      rcases hadmit with h | h | h
      · exact .inr (.inl ⟨hmute, .inl h⟩)
      · exact .inr (.inl ⟨hmute, .inr h⟩)
      · exact .inr (.inr h)
    · rw [hrole]
      refine ⟨lead.freeze, rest.map Entry.freeze, false, rfl, fun d hd => ?_⟩
      obtain ⟨e, he, rfl⟩ := List.mem_map.1 (show d ∈ (lead :: rest).map Entry.freeze from hd)
      exact ⟨e, (hmem e he).1, (hmem e he).2.1, rfl⟩
  · obtain ⟨i, hi⟩ := List.exists_mem_of_ne_nil _ hitems
    refine ⟨by simpa [State.eligible] using (State.mem_admittedItems.1 hi).1, ?_⟩
    rw [hrole]
    refine .inl ⟨_, rfl, fun j hj => ?_⟩
    obtain ⟨x, hx, rfl⟩ := List.mem_map.1 hj
    exact ⟨x, (State.mem_admittedItems.1 (List.mem_of_mem_take hx)).2.1, rfl⟩
  · obtain ⟨hactive, hsolicit, -⟩ := State.admittedSolicit_eq_some.1 hp
    refine ⟨by simp [State.eligible, hactive], ?_⟩
    rw [hrole]
    exact .inr ⟨p, _, hsolicit, rfl⟩

/-- The admitted set is empty exactly when there is nothing to build. -/
theorem State.nextFrame_eq_none {s : State} : s.nextFrame = none ↔ s.admits = false := by
  unfold State.nextFrame State.admits
  dsimp only
  cases hrole : s.role with
  | bin =>
    cases hprobe : s.probeEntry with
    | some e => simp
    | none =>
      cases htake : (inSelectionOrder s.admittedEntries).take Config.fillMax with
      | nil =>
        rw [List.take_eq_nil_iff, inSelectionOrder_eq_nil] at htake
        simp [htake.resolve_left (by decide)]
      | cons lead rest =>
        have : s.admittedEntries ≠ [] := fun h => by
          rw [inSelectionOrder_eq_nil.2 h] at htake
          cases htake
        simp [this]
  | gateway =>
    cases hitems : s.admittedItems with
    | cons i is => simp
    | nil => cases hsolicit : s.admittedSolicit <;> simp

/-- Eligibility looks at the frame, the standing and the allowance. -/
theorem State.eligible_congr {s t : State} (hstanding : t.mon.standing = s.mon.standing)
    (hallowance : t.sel.allowance = s.sel.allowance) (f : FrameRec) : t.eligible f = s.eligible f := by
  unfold State.eligible
  rw [hstanding, hallowance]

/-! ### The relation -/

/-- The frame in STAGE, if it is COMMITTED or SENDING; the selector withdraws no such frame (R128). -/
def Selector.core (sel : Selector) : Option StageSlot := sel.stage.filter (fun x => x.cond != .staged)

/-- BUILD holds a frame only while STAGE does. -/
def Selector.ordered (sel : Selector) : Prop := sel.build ≠ none → sel.stage ≠ none

theorem Selector.core_eq_none {sel : Selector} :
    sel.core = none ↔ sel.stage = none ∨ ∃ f, sel.stage = some { frame := f, cond := .staged } := by
  rcases h : sel.stage with _ | ⟨f, cond⟩
  · simp [Selector.core, h]
  · cases cond <;> simp [Selector.core, h]

theorem Selector.core_of_staged {sel : Selector} (h : sel.staged.isSome = true) : sel.core = none := by
  obtain ⟨f, hf⟩ := Option.isSome_iff_exists.1 h
  exact Selector.core_eq_none.2 (.inr ⟨f, Selector.staged_eq_some.1 hf⟩)

/-- `t` is reached from `s` by withdrawing uncommitted frames and building. -/
structure State.reselects (s t : State) : Prop where
  rest : t = { s with sel := { s.sel with build := t.sel.build, stage := t.sel.stage }, table := t.table }
  table : samePlacesAside t.table s.table
  stage : t.sel.stage = s.sel.stage ∨
    s.sel.core = none ∧ (t.sel.stage = none ∨ ∃ f, t.sel.stage = some { frame := f, cond := .staged } ∧ s.mayBuild f)
  build : t.sel.build = s.sel.build ∨ t.sel.build = none ∨ ∃ f, t.sel.build = some f ∧ s.mayBuild f
  ordered : s.sel.ordered → t.sel.ordered

section
variable {s t u : State}

theorem State.reselects.refl (s : State) : s.reselects s := ⟨rfl, rfl, .inl rfl, .inl rfl, id⟩

theorem State.reselects.running (h : s.reselects t) : t.running = s.running := by rw [h.rest]
theorem State.reselects.config (h : s.reselects t) : t.config = s.config := by rw [h.rest]
theorem State.reselects.mon (h : s.reselects t) : t.mon = s.mon := by rw [h.rest]
theorem State.reselects.gw (h : s.reselects t) : t.gw = s.gw := by rw [h.rest]
theorem State.reselects.eng (h : s.reselects t) : t.eng = s.eng := by rw [h.rest]
theorem State.reselects.allowance (h : s.reselects t) : t.sel.allowance = s.sel.allowance := by rw [h.rest]
theorem State.reselects.cfg (h : s.reselects t) : t.cfg = s.cfg := by rw [State.cfg, h.config]; rfl
theorem State.reselects.role (h : s.reselects t) : t.role = s.role := by rw [State.role, h.cfg]; rfl

theorem State.reselects.onlySelects (h : s.reselects t) : s.onlySelects t := by
  refine ⟨?_, h.table⟩
  obtain ⟨hrest, -⟩ := h
  rw [hrest]

theorem State.reselects.eligible (h : s.reselects t) (f : FrameRec) : t.eligible f = s.eligible f :=
  State.eligible_congr (by rw [h.mon]) h.allowance f

/-- What may be built after a selection might have been built before it. -/
theorem State.reselects.mayBuild (h : s.reselects t) {f : FrameRec} (hf : t.mayBuild f) : s.mayBuild f := by
  obtain ⟨heligible, hmade⟩ := hf
  refine ⟨by rwa [← h.eligible], ?_⟩
  rw [h.role, h.gw] at hmade
  cases hrole : s.role with
  | gateway => rwa [hrole] at hmade
  | bin =>
    rw [hrole] at hmade
    obtain ⟨c, rest, probe, hpayload, hrefs⟩ := hmade
    refine ⟨c, rest, probe, hpayload, fun d hd => ?_⟩
    obtain ⟨e, he, howed, hfreeze⟩ := hrefs d hd
    obtain ⟨p, hp⟩ := exists_mem_of_samePlacesAside h.table he
    exact ⟨_, hp, howed, hfreeze⟩

theorem State.reselects.core (h : s.reselects t) : t.sel.core = s.sel.core := by
  rcases h.stage with hsame | ⟨hnone, hchanged⟩
  · rw [Selector.core, hsame, Selector.core]
  · rw [hnone, Selector.core_eq_none]
    exact hchanged.imp_right fun ⟨f, hf, _⟩ => ⟨f, hf⟩

theorem State.reselects.trans (h : s.reselects t) (k : t.reselects u) : s.reselects u where
  rest := by
    have hrest := k.rest
    rw [h.rest] at hrest
    exact hrest
  table := samePlacesAside_trans k.table h.table
  stage := by
    rcases k.stage with hsame | ⟨hnone, hchanged⟩
    · rw [hsame]
      exact h.stage
    · rw [h.core] at hnone
      exact .inr ⟨hnone, hchanged.imp_right fun ⟨f, hf, hmay⟩ => ⟨f, hf, h.mayBuild hmay⟩⟩
  build := by
    rcases k.build with hsame | hnone | ⟨f, hf, hmay⟩
    · rw [hsame]
      exact h.build
    · exact .inr (.inl hnone)
    · exact .inr (.inr ⟨f, hf, h.mayBuild hmay⟩)
  ordered := k.ordered ∘ h.ordered

/-- A frame in a slot afterwards stood in a slot before, or may be built. -/
theorem State.reselects.frames (h : s.reselects t) {f : FrameRec} (hf : f ∈ t.sel.frames) :
    f ∈ s.sel.frames ∨ s.mayBuild f := by
  simp only [Selector.frames, List.mem_append, Option.mem_toList, Option.map_eq_some_iff] at hf ⊢
  rcases hf with hf | ⟨x, hx, rfl⟩
  · rcases h.build with hsame | hnone | ⟨g, hg, hmay⟩
    · exact .inl (.inl (hsame ▸ hf))
    · rw [hnone] at hf
      cases hf
    · rw [hg] at hf
      obtain rfl := Option.some.inj hf
      exact .inr hmay
  · rcases h.stage with hsame | ⟨-, hnone | ⟨g, hg, hmay⟩⟩
    · exact .inl (.inr ⟨x, hsame ▸ hx, rfl⟩)
    · rw [hnone] at hx
      cases hx
    · rw [hg] at hx
      obtain rfl := Option.some.inj hx
      exact .inr hmay

end

/-! ### Each operation reselects -/

section
variable (s : State)

theorem State.withdrawBoth_reselects (h : s.sel.core = none) : s.reselects s.withdrawBoth :=
  ⟨rfl, s.withdrawBoth_sameAside, .inr ⟨h, .inl rfl⟩, .inr (.inl rfl), fun _ hb => absurd rfl hb⟩

theorem State.withdrawBuild_reselects : s.reselects s.withdrawBuild :=
  ⟨rfl, s.withdrawBuild_sameAside, .inl rfl, .inr (.inl rfl), fun _ hb => absurd rfl hb⟩

theorem State.withdraw_reselects (stage build : Bool) : s.reselects (s.withdraw stage build) := by
  unfold State.withdraw
  split
  · next h => exact s.withdrawBoth_reselects (Selector.core_of_staged (by simp at h; exact h.2))
  · split
    · exact s.withdrawBuild_reselects
    · exact .refl s

theorem State.withdrawWhere_reselects (p : FrameRec → Bool) : s.reselects (s.withdrawWhere p) :=
  s.withdraw_reselects _ _

theorem State.preempt_reselects (fresh : List Urgency) : s.reselects (s.preempt fresh) := by
  unfold State.preempt
  split
  · exact .refl s
  · next x hx =>
    split
    · next hstaged =>
      split
      · exact s.withdrawBoth_reselects (Selector.core_eq_none.2 (.inr ⟨x.frame, by rw [hx, ← hstaged]⟩))
      · exact .refl s
    · split
      · exact s.withdrawBuild_reselects
      · exact .refl s

theorem State.drainFirst_reselects : s.reselects s.drainFirst := by
  unfold State.drainFirst
  split
  · next h =>
    simp only [Bool.and_eq_true, Option.any_eq_true] at h
    obtain ⟨-, f, hf, -⟩ := h
    exact s.withdrawBoth_reselects (Selector.core_of_staged (by rw [hf]; rfl))
  · exact .refl s

theorem State.rebuildTest_reselects : s.reselects s.rebuildTest := by
  unfold State.rebuildTest
  split
  · next h =>
    simp only [Bool.and_eq_true] at h
    exact s.withdrawBoth_reselects (Selector.core_of_staged h.1.1)
  · exact .refl s

theorem State.buildOne_reselects : s.reselects s.buildOne := by
  by_cases hbuild : s.sel.build = none
  · rcases hnext : s.nextFrame with _ | ⟨f, bins⟩
    · rw [State.buildOne_of_nothing hnext]
      exact .refl s
    · have hmay := State.mayBuild_of_nextFrame hnext
      have hside := s.buildOne_sameAside
      by_cases hstage : s.sel.stage = none
      · rw [State.buildOne_stages hbuild hstage hnext] at hside ⊢
        exact ⟨rfl, hside, .inr ⟨Selector.core_eq_none.2 (.inl hstage), .inr ⟨f, rfl, hmay⟩⟩, .inl rfl, fun _ _ => nofun⟩
      · rw [State.buildOne_builds hbuild hstage hnext] at hside ⊢
        exact ⟨rfl, hside, .inl rfl, .inr (.inr ⟨f, rfl, hmay⟩), fun _ _ => hstage⟩
  · rw [State.buildOne_of_built hbuild]
    exact .refl s

theorem State.selectorSettle_reselects : s.reselects s.selectorSettle := by
  unfold State.selectorSettle State.buildAll
  split
  · exact ((s.drainFirst_reselects.trans (State.rebuildTest_reselects _)).trans (State.buildOne_reselects _)).trans
      (State.buildOne_reselects _)
  · exact .refl s

theorem State.hear_reselects (told : Told) : s.reselects (s.hear told) :=
  ((s.withdraw_reselects _ _).trans (State.preempt_reselects _ _)).trans (State.selectorSettle_reselects _)

theorem State.enterMute_reselects : s.reselects s.enterMute :=
  (s.withdraw_reselects _ _).trans (State.selectorSettle_reselects _)

end

end Sys2Proof.Machine
end

section
/-! PROOFS. A running selector is settled once it has run its tests and builds (R125, R126, R138). -/

namespace Sys2Proof.Machine

/-! ### Nothing to build -/

section
variable {s : State}

/-- With nothing to build no entry may fill a frame. -/
theorem State.not_mayFill_of_nextFrame (h : s.nextFrame = none) (hrole : s.role = .bin) :
    ∀ e ∈ s.table, ¬ s.mayFill e := fun e he hfill => by
  have hadmits := State.nextFrame_eq_none.1 h
  simp only [State.admits, hrole, Bool.or_eq_false_iff, Bool.not_eq_false', List.isEmpty_iff] at hadmits
  have := State.mem_admittedEntries.2 ⟨he, hfill⟩
  rw [hadmits.2] at this
  cases this

/-- With nothing to build every listed item is announced. -/
theorem State.announces_of_nextFrame (h : s.nextFrame = none) (hrole : s.role = .gateway)
    (hmute : s.mon.standing ≠ .mute) : ∀ i ∈ s.gw.drainList, s.sel.announces i := fun i hi => by
  have hadmits := State.nextFrame_eq_none.1 h
  simp only [State.admits, hrole, Bool.or_eq_false_iff, Bool.not_eq_false', List.isEmpty_iff] at hadmits
  refine Selector.carriesItem_iff.1 ?_
  by_contra hcarries
  have := State.mem_admittedItems.2 ⟨hmute, hi, by simpa using hcarries⟩
  rw [hadmits.1] at this
  cases this

/-- With nothing to build the pending solicit is carried. -/
theorem State.carries_of_nextFrame (h : s.nextFrame = none) (hrole : s.role = .gateway)
    (hactive : s.mon.standing = .active) {p : PendingSolicit} (hp : s.gw.solicit = some p) :
    ∃ f ∈ s.sel.frames, ∃ target, f.payload = .solicit target p.serial := by
  have hadmits := State.nextFrame_eq_none.1 h
  simp only [State.admits, hrole, Bool.or_eq_false_iff, Option.isSome_eq_false_iff, Option.isNone_iff_eq_none] at hadmits
  have hcarries : s.sel.carriesSolicit p = true := by
    by_contra hcarries
    have := State.admittedSolicit_eq_some.2 ⟨hactive, hp, by simpa using hcarries⟩
    rw [hadmits.2] at this
    cases this
  simp only [Selector.carriesSolicit, List.any_eq_true] at hcarries
  obtain ⟨f, hf, hmatch⟩ := hcarries
  refine ⟨f, hf, ?_⟩
  rcases f with ⟨key, es | is | ⟨target, n⟩⟩
  · simp at hmatch
  · simp at hmatch
  · exact ⟨target, by simpa using hmatch⟩

/-- A selector with nothing to build that is BUILT or has STAGE in order is settled. -/
theorem State.settled_of {t : State}
    (hbuild : t.running = true → t.sel.build = none → t.nextFrame = none)
    (hstaged : t.running = true → t.sel.stageCond = some .staged → t.stageEligible = false → t.nextFrame = none)
    (hsolicit : t.running = true → ∀ f target n, t.sel.stage = some { frame := f, cond := .staged } →
      f.payload = .solicit target n → t.gw.drainList = []) : t.settled := by
  refine fun hrun => ⟨fun hrole hidle => State.not_mayFill_of_nextFrame ?_ hrole, fun hrole =>
    ⟨fun hb hm => State.announces_of_nextFrame (hbuild hrun hb) hrole hm,
      fun hb ha p hp => State.carries_of_nextFrame (hbuild hrun hb) hrole ha hp, hsolicit hrun⟩⟩
  exact hidle.elim (hbuild hrun) fun ⟨hc, he⟩ => hstaged hrun hc he

theorem Selector.stageCond_eq_staged {sel : Selector} :
    sel.stageCond = some .staged ↔ ∃ f, sel.stage = some { frame := f, cond := .staged } := by
  rcases h : sel.stage with _ | ⟨f, cond⟩ <;> simp [Selector.stageCond, h]

/-! ### Two builds leave nothing to build -/

theorem State.buildOne_build_none (h : s.buildOne.sel.build = none) (hstage : s.sel.stage ≠ none) :
    s.buildOne.nextFrame = none := by
  by_cases hbuild : s.sel.build = none
  · rcases hnext : s.nextFrame with _ | ⟨f, bins⟩
    · rwa [State.buildOne_of_nothing hnext]
    · rw [State.buildOne_builds hbuild hstage hnext] at h
      cases h
  · rw [State.buildOne_of_built hbuild] at h
    exact absurd h hbuild

/-- BUILD is EMPTY after building only where nothing is left to build (R125). -/
theorem State.buildAll_build_none (h : s.buildAll.sel.build = none) : s.buildAll.nextFrame = none := by
  unfold State.buildAll at h ⊢
  by_cases hstage : s.buildOne.sel.stage = none
  · have hnext : s.nextFrame = none := by
      rcases hnext : s.nextFrame with _ | ⟨f, bins⟩
      · rfl
      · exfalso
        by_cases hbuild : s.sel.build = none
        · by_cases hs : s.sel.stage = none
          · rw [State.buildOne_stages hbuild hs hnext] at hstage
            cases hstage
          · rw [State.buildOne_builds hbuild hs hnext] at hstage
            exact hs hstage
        · rw [State.buildOne_of_built hbuild, State.buildOne_of_built hbuild] at h
          exact hbuild h
    rw [State.buildOne_of_nothing hnext, State.buildOne_of_nothing hnext]
    exact hnext
  · exact State.buildOne_build_none h hstage

theorem State.buildOne_stage_some (h : s.sel.stage ≠ none) : s.buildOne.sel.stage = s.sel.stage := by
  by_cases hbuild : s.sel.build = none
  · rcases hnext : s.nextFrame with _ | ⟨f, bins⟩
    · rw [State.buildOne_of_nothing hnext]
    · rw [State.buildOne_builds hbuild h hnext]
  · rw [State.buildOne_of_built hbuild]

/-- Building stages a frame only where both slots are EMPTY, and then the next one. -/
theorem State.buildAll_stage :
    s.buildAll.sel.stage = s.sel.stage ∨
      s.sel.stage = none ∧ s.sel.build = none ∧ ∃ f bins, s.nextFrame = some (f, bins) ∧
        s.buildAll.sel.stage = some { frame := f, cond := .staged } := by
  unfold State.buildAll
  by_cases hstage : s.sel.stage = none
  · by_cases hbuild : s.sel.build = none
    · rcases hnext : s.nextFrame with _ | ⟨f, bins⟩
      · rw [State.buildOne_of_nothing hnext, State.buildOne_of_nothing hnext]
        exact .inl rfl
      · refine .inr ⟨hstage, hbuild, f, bins, rfl, ?_⟩
        have hsome : s.buildOne.sel.stage = some { frame := f, cond := .staged } := by
          rw [State.buildOne_stages hbuild hstage hnext]
        rw [State.buildOne_stage_some (by rw [hsome]; nofun), hsome]
    · rw [State.buildOne_of_built hbuild, State.buildOne_of_built hbuild]
      exact .inl rfl
  · rw [State.buildOne_stage_some (by rwa [State.buildOne_stage_some hstage]), State.buildOne_stage_some hstage]
    exact .inl rfl

theorem State.buildAll_of_nothing (h : s.nextFrame = none) : s.buildAll = s := by
  rw [State.buildAll, State.buildOne_of_nothing h, State.buildOne_of_nothing h]

theorem State.buildAll_reselects (s : State) : s.reselects s.buildAll :=
  s.buildOne_reselects.trans (State.buildOne_reselects _)

/-! ### The tests on STAGE -/

/-- After R126's test a STAGED SOLICIT frame stands only while nothing is listed. -/
theorem State.drainFirst_solicit {f : FrameRec} {target : Target} {n : Nat}
    (hstage : s.drainFirst.sel.stage = some { frame := f, cond := .staged }) (hf : f.payload = .solicit target n) :
    s.gw.drainList = [] := by
  unfold State.drainFirst at hstage
  split at hstage
  · cases hstage
  · next h =>
    rw [Selector.staged_eq_some.2 hstage] at h
    simpa [FrameRec.isSolicit, hf] using h

/-- R138's test keeps STAGE or empties both slots. -/
theorem State.rebuildTest_cases :
    s.rebuildTest = s ∧ (∀ f, s.sel.stage = some { frame := f, cond := .staged } → s.eligible f = false →
      s.nextFrame = none) ∨
    s.rebuildTest = s.withdrawBoth ∧ s.sel.staged.isSome = true := by
  unfold State.rebuildTest
  split
  · next h =>
    simp only [Bool.and_eq_true] at h
    exact .inr ⟨rfl, h.1.1⟩
  · next h =>
    refine .inl ⟨rfl, fun f hf hnot => State.nextFrame_eq_none.2 ?_⟩
    rw [Selector.staged_eq_some.2 hf, State.stageEligible_of_staged hf, hnot] at h
    simpa using h

/-- An item is carried by no frame while both slots are EMPTY. -/
theorem State.admittedItems_of_empty (hmute : s.mon.standing ≠ .mute) (hbuild : s.sel.build = none)
    (hstage : s.sel.stage = none) : s.admittedItems = s.gw.drainList := by
  have hcarries : ∀ i, s.sel.carriesItem i = false := fun i => by
    simp [Selector.carriesItem, Selector.frames, hbuild, hstage]
  cases h : s.mon.standing <;> simp_all [State.admittedItems]

/-- A SOLICIT frame is newly staged only while nothing is listed (R126). -/
theorem State.nextFrame_solicit {f : FrameRec} {bins : List BinId} {target : Target} {n : Nat}
    (h : s.nextFrame = some (f, bins)) (hf : f.payload = .solicit target n) (hbuild : s.sel.build = none)
    (hstage : s.sel.stage = none) : s.gw.drainList = [] := by
  rcases s.nextFrame_cases h with ⟨-, e, -, -, rfl⟩ | ⟨-, -, lead, rest, -, -, rfl⟩ | ⟨-, -, -, rfl⟩ |
    ⟨-, hitems, -, p, hp, rfl⟩
  · cases hf
  · cases hf
  · cases hf
  · rw [← State.admittedItems_of_empty (by rw [(State.admittedSolicit_eq_some.1 hp).1]; nofun) hbuild hstage, hitems]

end

/-- Whatever it finds, a running selector that has run its tests and builds is settled. -/
theorem State.selectorSettle_settled (s : State) : s.selectorSettle.settled := by
  cases hrun : s.running with
  | false => exact fun h => absurd (h.symm.trans (s.selectorSettle_keeps.2.1.trans hrun)) (by simp)
  | true =>
    rw [State.selectorSettle, if_pos hrun]
    refine State.settled_of (fun _ => State.buildAll_build_none) (fun _ hcond hnot => ?_) fun _ f target n hf hpayload => ?_
    · obtain ⟨f, hf⟩ := Selector.stageCond_eq_staged.1 hcond
      rw [State.stageEligible_of_staged hf, (State.buildAll_reselects _).eligible] at hnot
      rcases State.buildAll_stage (s := s.drainFirst.rebuildTest) with hsame | ⟨-, -, g, bins, hnext, hg⟩
      · rw [hsame] at hf
        rcases State.rebuildTest_cases (s := s.drainFirst) with ⟨h, hnothing⟩ | ⟨h, -⟩
        · rw [h] at hf hnot ⊢
          have hnone := hnothing f hf hnot
          rwa [State.buildAll_of_nothing hnone]
        · rw [h] at hf
          cases hf
      · rw [hg] at hf
        cases hf
        rw [(State.mayBuild_of_nextFrame hnext).1] at hnot
        cases hnot
    · rw [(State.buildAll_reselects _).gw, (State.rebuildTest_reselects _).gw, s.drainFirst_reselects.gw]
      rcases State.buildAll_stage (s := s.drainFirst.rebuildTest) with hsame | ⟨hstage, hbuild, g, bins, hnext, hg⟩
      · rw [hsame] at hf
        rcases State.rebuildTest_cases (s := s.drainFirst) with ⟨h, -⟩ | ⟨h, -⟩
        · rw [h] at hf
          exact State.drainFirst_solicit hf hpayload
        · rw [h] at hf
          cases hf
      · rw [hg] at hf
        cases hf
        have := State.nextFrame_solicit hnext hpayload hbuild hstage
        rwa [(State.rebuildTest_reselects _).gw, s.drainFirst_reselects.gw] at this

theorem State.hear_settled (s : State) (told : Told) : (s.hear told).settled := State.selectorSettle_settled _

end Sys2Proof.Machine
end

section
/-! PROOFS. The slots beside the engine (R122, R127), operation by operation: the committed or sending frame stands with
the engine's state, and the selector and the engine leave each other settled. -/

namespace Sys2Proof.Machine

/-! ### The frame in STAGE and the engine's state -/

/-- The COMMITTED or SENDING frame, if there is one, goes with the engine's state. -/
def Engine.agrees (e : Engine) (core : Option StageSlot) : Prop :=
  (core.map (fun x => x.cond) = some .committed ↔ e.state = .waking ∨ (e.state = .field ∧ e.part.contends = true)) ∧
    (core.map (fun x => x.cond) = some .sending ↔ e.state = .sending ∨ e.state = .awaitEcho) ∧
    (e.state = .field → e.part.contends = true →
      e.part = (core.map (fun x => FieldPart.contender x.frame.key x.frame.isFill)).getD .listener)

/-- The engine is in none of the states of an own frame. -/
def Engine.idle (e : Engine) : Prop := e.state ≠ .waking ∧ e.state ≠ .field ∧ e.state ≠ .sending ∧ e.state ≠ .awaitEcho

theorem Selector.core_cond {sel : Selector} {x : StageSlot} (h : sel.core = some x) :
    sel.stage = some x ∧ x.cond ≠ .staged := by
  simpa [Selector.core, Option.filter_eq_some_iff] using h

theorem Selector.core_of_cond {sel : Selector} {x : StageSlot} (h : sel.stage = some x) (hx : x.cond ≠ .staged) :
    sel.core = some x := by
  simp [Selector.core, h, Option.filter_eq_some_iff, hx]

theorem Selector.stageCond_core {sel : Selector} {cond : StageCond} (h : cond ≠ .staged) :
    sel.stageCond = some cond ↔ sel.core.map (fun x => x.cond) = some cond := by
  rcases hs : sel.stage with _ | ⟨f, c⟩
  · simp [Selector.core, Selector.stageCond, hs]
  · cases c <;> simp [Selector.core, Selector.stageCond, hs, h.symm]

theorem State.slotsOk_iff {s : State} : s.slotsOk ↔ s.sel.ordered ∧ s.eng.agrees s.sel.core := by
  have hpart : s.sel.stageCond = some .committed → s.sel.fieldPart =
      (s.sel.core.map (fun x => FieldPart.contender x.frame.key x.frame.isFill)).getD .listener := by
    rcases hs : s.sel.stage with _ | ⟨f, c⟩
    · simp [Selector.stageCond, hs]
    · cases c with
      | committed => exact fun _ => by rw [Selector.core_of_cond hs nofun, Selector.fieldPart, hs]; rfl
      | staged => simp [Selector.stageCond, hs]
      | sending => simp [Selector.stageCond, hs]
  unfold Engine.agrees
  rw [← Selector.stageCond_core (by decide), ← Selector.stageCond_core (by decide)]
  refine ⟨fun ⟨hb, hc, hsend, hp⟩ => ⟨hb, hc, hsend, fun hf hk => ?_⟩, fun ⟨hb, hc, hsend, hp⟩ => ⟨hb, hc, hsend,
    fun hf hk => ?_⟩⟩
  · rw [hp hf hk, hpart (hc.2 (.inr ⟨hf, hk⟩))]
  · rw [hp hf hk, hpart (hc.2 (.inr ⟨hf, hk⟩))]

theorem Engine.agrees_of_idle {e : Engine} {sel : Selector} (h : e.idle) : e.agrees sel.core ↔ sel.core = none := by
  obtain ⟨hw, hf, hs, ha⟩ := h
  simp only [Engine.agrees, hw, hf, hs, ha, false_and, or_false, iff_false, IsEmpty.forall_iff, and_true]
  rcases hcore : sel.core with _ | x
  · simp
  · have := (Selector.core_cond hcore).2
    cases hx : x.cond <;> simp_all

theorem State.slotsOk_of_idle {s : State} (h : s.eng.idle) : s.slotsOk ↔ s.sel.ordered ∧ s.sel.core = none := by
  rw [State.slotsOk_iff, Engine.agrees_of_idle h]

theorem State.core_of_slotsOk {s : State} (h : s.slotsOk) (hidle : s.eng.idle) : s.sel.core = none :=
  ((State.slotsOk_of_idle hidle).1 h).2

theorem Engine.idle_of_mem {e : Engine} (h : e.state ∈ [EngineState.off, .doze, .sample, .awake, .receiving, .echoing]) :
    e.idle := by
  simp only [List.mem_cons, List.not_mem_nil, or_false] at h
  rcases h with h | h | h | h | h | h <;> exact ⟨by rw [h]; nofun, by rw [h]; nofun, by rw [h]; nofun, by rw [h]; nofun⟩

/-- From one idle state to another the slots stand as they were. -/
theorem State.slotsOk_idle_step {s t : State} (h : s.slotsOk) (hs : s.eng.idle) (ht : t.eng.idle)
    (hbuild : t.sel.build = s.sel.build) (hstage : t.sel.stage = s.sel.stage) : t.slotsOk := by
  rw [State.slotsOk_of_idle ht, Selector.ordered, Selector.core, hbuild, hstage]
  exact (State.slotsOk_of_idle hs).1 h

theorem State.reselects.slotsOk {s t : State} (h : s.reselects t) (hs : s.slotsOk) : t.slotsOk := by
  rw [State.slotsOk_iff] at hs ⊢
  rw [h.core, h.eng]
  exact ⟨h.ordered hs.1, hs.2⟩

section
variable {s : State}

theorem State.commit_sel (s : State) :
    (s.commit = s ∧ s.sel.staged = none) ∨
      ∃ f, s.sel.stage = some { frame := f, cond := .staged } ∧
        s.commit = { s with sel := { s.sel with stage := some { frame := f, cond := .committed } } } := by
  unfold State.commit Selector.staged
  rcases h : s.sel.stage with _ | ⟨f, cond⟩
  · exact .inl ⟨rfl, rfl⟩
  · cases cond
    · exact .inr ⟨f, rfl, rfl⟩
    · exact .inl ⟨rfl, rfl⟩
    · exact .inl ⟨rfl, rfl⟩

theorem State.commit_of_staged {f : FrameRec} (h : s.sel.stage = some { frame := f, cond := .staged }) :
    s.commit = { s with sel := { s.sel with stage := some { frame := f, cond := .committed } } } := by
  simp only [State.commit, h, if_true]

theorem State.enterWaking_of_staged {f : FrameRec} (h : s.sel.stage = some { frame := f, cond := .staged }) :
    s.enterWaking = { s with
      sel := { s.sel with stage := some { frame := f, cond := .committed } },
      eng := { s.eng with state := .waking, key := true, txd := some false } } := by
  rw [State.enterWaking, State.commit_of_staged h]
  rfl

theorem State.enterWaking_slotsOk {f : FrameRec} (h : s.sel.stage = some { frame := f, cond := .staged }) :
    s.enterWaking.slotsOk := by
  rw [State.slotsOk_iff, State.enterWaking_of_staged h]
  exact ⟨fun _ => nofun, by simp [Engine.agrees, Selector.core]⟩

/-- What the engine does of itself keeps the slots in accord (R6, R8). -/
theorem State.engineSettle_slotsOk (h : s.slotsOk) : s.engineSettle.slotsOk := by
  rcases s.engineSettle_cases with k | ⟨hawake, -, helig, -, k⟩ | ⟨hawake, -, -, -, -, -, k⟩ <;> rw [k]
  · exact h
  · obtain ⟨f, hf, -⟩ := State.stageEligible_iff.1 helig
    exact State.enterWaking_slotsOk hf
  · exact State.slotsOk_idle_step h (Engine.idle_of_mem (by simp [hawake])) (Engine.idle_of_mem (by simp [Engine.enterDoze]))
      rfl rfl

/-- A field begins with the frame COMMITTED now or before, or with the station listening (R10, R23). -/
theorem State.beginField_slotsOk (h : s.slotsOk) (hstate : s.eng.state = .awake ∨ s.eng.state = .waking) :
    s.beginField.slotsOk := by
  rw [State.slotsOk_iff] at h ⊢
  unfold State.beginField
  by_cases helig : s.stageEligible = true
  · obtain ⟨f, hf, -⟩ := State.stageEligible_iff.1 helig
    rw [if_pos helig, State.commit_of_staged hf]
    refine ⟨fun _ => nofun, ?_⟩
    simp [Engine.agrees, Selector.core, Selector.fieldPart, Engine.keying, FieldPart.contends]
    rfl
  · rw [if_neg helig]
    refine ⟨h.1, ?_⟩
    rcases hstate with hstate | hstate
    · have hcore := (Engine.agrees_of_idle (Engine.idle_of_mem (by simp [hstate]))).1 h.2
      have hpart : s.sel.fieldPart = .listener := by
        rcases Selector.core_eq_none.1 hcore with hs | ⟨f, hs⟩ <;> simp [Selector.fieldPart, hs]
      simp [Engine.agrees, hcore, hpart, Engine.keying, FieldPart.contends]
    · have hcond := h.2.1.2 (.inl hstate)
      rw [← Selector.stageCond_core (by decide)] at hcond
      rcases hs : s.sel.stage with _ | ⟨f, cond⟩
      · simp [Selector.stageCond, hs] at hcond
      · obtain rfl : cond = .committed := by simpa [Selector.stageCond, hs] using hcond
        have hcore := Selector.core_of_cond hs nofun
        simp [Engine.agrees, hcore, Selector.fieldPart, Engine.keying, FieldPart.contends, hs]

/-! ### The loss of a field -/

/-- What a COMMITTED frame that lost becomes before building runs: STAGED again, or withdrawn with BUILD (R127). -/
def State.afterLoss (s : State) (f : FrameRec) : State :=
  if s.withdrawnAtLoss f then s.withdrawBoth
  else { s with sel := { s.sel with stage := some { frame := f, cond := .staged } } }

theorem State.fieldLost_of_committed {f : FrameRec} (h : s.sel.stage = some { frame := f, cond := .committed }) :
    s.fieldLost = (s.afterLoss f).selectorSettle := by
  simp only [State.fieldLost, h, if_true, State.afterLoss]

theorem State.fieldLost_of_not (h : s.sel.stageCond ≠ some .committed) : s.fieldLost = s := by
  rcases hs : s.sel.stage with _ | ⟨f, cond⟩
  · simp [State.fieldLost, hs]
  · have hcond : cond ≠ .committed := fun hc => h (by simp [Selector.stageCond, hs, hc])
    simp [State.fieldLost, hs, hcond]

theorem Selector.stageCond_eq_committed {sel : Selector} :
    sel.stageCond = some .committed ↔ ∃ f, sel.stage = some { frame := f, cond := .committed } := by
  rcases h : sel.stage with _ | ⟨f, cond⟩ <;> simp [Selector.stageCond, h]

theorem Selector.stageCond_eq_sending {sel : Selector} :
    sel.stageCond = some .sending ↔ ∃ f, sel.stage = some { frame := f, cond := .sending } := by
  rcases h : sel.stage with _ | ⟨f, cond⟩ <;> simp [Selector.stageCond, h]

theorem State.afterLoss_eng (f : FrameRec) : (s.afterLoss f).eng = s.eng := by
  unfold State.afterLoss
  split <;> rfl

theorem State.afterLoss_core (f : FrameRec) : (s.afterLoss f).sel.core = none := by
  unfold State.afterLoss
  split
  · exact Selector.core_eq_none.2 (.inl rfl)
  · exact Selector.core_eq_none.2 (.inr ⟨f, rfl⟩)

theorem State.afterLoss_ordered (f : FrameRec) : (s.afterLoss f).sel.ordered := by
  unfold State.afterLoss
  split
  · exact fun h => absurd rfl h
  · exact fun _ => nofun

/-- Behind a loss the slots hold no COMMITTED frame, and are in order (R127). -/
theorem State.fieldLost_core (hordered : s.sel.ordered) (hsend : s.sel.stageCond ≠ some .sending) :
    s.fieldLost.sel.ordered ∧ s.fieldLost.sel.core = none := by
  by_cases h : s.sel.stageCond = some .committed
  · obtain ⟨f, hf⟩ := Selector.stageCond_eq_committed.1 h
    have hre := State.selectorSettle_reselects (s.afterLoss f)
    rw [State.fieldLost_of_committed hf]
    exact ⟨hre.ordered (State.afterLoss_ordered f), hre.core.trans (State.afterLoss_core f)⟩
  · rw [State.fieldLost_of_not h]
    refine ⟨hordered, Selector.core_eq_none.2 ?_⟩
    rcases hs : s.sel.stage with _ | ⟨f, cond⟩
    · exact .inl rfl
    · cases cond
      · exact .inr ⟨f, rfl⟩
      · exact absurd (by simp [Selector.stageCond, hs]) h
      · exact absurd (by simp [Selector.stageCond, hs]) hsend

/-- A contender that loses keys no more, and its frame is COMMITTED no more (R25, R127). -/
theorem State.loseField_slotsOk (h : s.slotsOk) (hstate : s.eng.state = .field) : s.loseField.slotsOk := by
  have hsend : s.sel.stageCond ≠ some .sending := fun k => by
    rcases h.2.2.1.1 k with hf | hf <;> rw [hstate] at hf <;> cases hf
  obtain ⟨hordered, hcore⟩ := State.fieldLost_core
    (s := { s with eng := { s.eng with part := .lost, lost := bump Config.count32Max s.eng.lost } }) h.1 hsend
  rw [State.slotsOk_iff, State.loseField, hcore]
  refine ⟨hordered, ?_⟩
  simp [Engine.agrees, hstate, FieldPart.contends]

end

end Sys2Proof.Machine
end

section
/-! PROOFS. Everything a command can do, said once: one constructor an effect, with the guard it has, and the lemma that
every command has one of them. What a port transaction leaves on SDO is set aside. -/

namespace Sys2Proof.Machine

/-- The two states differ in what SDO carries, at most. -/
def State.butSdo (u t : State) : Prop :=
  t = { u with port := { u.port with sdo := t.port.sdo, resultAt := t.port.resultAt } }

/-- The sample of these bytes, taken (R57 to R60). -/
def State.taken (range : Nat) (flags : Byte) (s : State) : Estimator × Bool :=
  s.est.takeSample s.cfg s.clock range (sampleKind flags (kindOf s.cfg.kindCode))

/-- The own report that the sample just taken issues, with what it means to the selector (R70). -/
def State.sampleIssue (range : Nat) (flags : Byte) (s : State) : State × Told :=
  State.issueNext s.clock (s.taken range flags).2 { s with est := (s.taken range flags).1 } .nothing

/-- The engine in one slot of the field, before a loss (R24 to R27). -/
def Engine.inSlot (carrier : Bool) (e : Engine) : Engine :=
  ({ e with
    slot := e.slot + 1,
    kindObs := if e.slot = Config.kindSlot ∧ e.part.keys e.slot = false then some carrier else e.kindObs }).keying
    (e.part.keys e.slot)

/-- What a command does to the state, but for SDO. -/
inductive Does : Instr → State → State → Prop
  | nothing (c s) : Does c s s
  | start {args s} (hrun : s.running = false) (hlen : args.length = 43)
      (hfield : (readRecord args).refusedField = none) :
      Does (.start args) s (s.startRunning (appliedConfig args) (readRecord args).noticeMask)
  | restart {args n s} (hrun : s.running = true) : Does (.restart args n) s (s.restartRunning n)
  | rejoin {args s} (hrun : s.running = true) (hmute : s.mon.standing = .mute) :
      Does (.rejoin args) s { s with mon := { s.mon with armed := true } }
  | sample {args s} (range flags) (hrun : s.running = true) (hrole : s.role = .bin) :
      Does (.postSample args) s { s with est := (s.taken range flags).1 }
  | issue {args s} (range flags) (hrun : s.running = true) (hrole : s.role = .bin) :
      Does (.postSample args) s ((s.sampleIssue range flags).1.hear (s.sampleIssue range flags).2).engineSettle
  | solicit {args s} (bin mask) {maxClass} (hmax : maxClass ≤ 255) (hrun : s.running = true) (hrole : s.role = .gateway) :
      Does (.solicit args) s (s.solicitAct bin mask maxClass).1
  | handOut {args s e} (hrun : s.running = true) (hrole : s.role = .gateway)
      (hhead : s.gw.queue.head?.bind s.entryOf = some e) :
      Does (.exportNext args) s { s with gw := { s.gw with inHand := some (e.report.binId, e.report.seq) } }
  | handNone {args s} (hrun : s.running = true) (hrole : s.role = .gateway) :
      Does (.exportNext args) s { s with gw := { s.gw with inHand := none } }
  | complete {s b r} (hhand : s.gw.inHand = some (b, r)) :
      Does .exportNextCompletion s
        (({ s with port := { s.port with resultAt := none } }).deliver b r).selectorSettle.engineSettle
  | cutShort {clocked s} : Does (.exportCutShort clocked) s { s with gw := { s.gw with inHand := none } }
  | clear {args s} (set) (hrun : s.running = true) :
      Does (.clearNotices args) s { s with port := { s.port with flags := s.port.flags &&& ~~~set } }
  | setMask {args s} (mask) : Does (.setNoticeMask args) s { s with port := { s.port with mask := mask } }
  | hardReset {s} :
      Does .hardReset s { State.reset with
        pending := s.pending, eng := { Engine.reset with carrier := s.eng.carrier, rxd := s.eng.rxd } }
  | release {s} :
      Does .resetRelease s
        { s with clock := 0, boundaryDue := false, port := { s.port with resetn := true, ready := false } }
  | ready {s} : Does .portReady s { s with port := { s.port with ready := true } }
  | tick {s} (hclock : s.clock < Config.clockMax) :
      Does .stationClockTick s
        { s with clock := s.clock + 1, boundaryDue := s.boundaryDue || decide ((s.clock + 1) % 60 = 0) }
  | noBoundary {s} (hrun : s.running = false) : Does .minuteBoundary s { s with boundaryDue := false }
  | boundary {s} (hrun : s.running = true) (hdue : s.boundaryDue = true) :
      Does .minuteBoundary s (((State.sweep { s with boundaryDue := false }).1.hear
        (State.sweep { s with boundaryDue := false }).2).countBoundary.countProbe).engineSettle
  | refill {s} (hrun : s.running = true) (hrole : s.role = .bin) : Does .allowanceRefill s s.refill.engineSettle
  | probe {s} (hrun : s.running = true) (hmute : s.mon.standing = .mute) :
      Does .probeTimerExpiry s s.selectorSettle.engineSettle
  | listenExpiry {s} (hstate : s.eng.state = .doze) :
      Does .listenTimerExpiry s { s with eng := { s.eng with state := .sample, listen := none, radioEn := true } }
  | carrierSeen {s} (hstate : s.eng.state = .sample) : Does .sampleCarrierSeen s (s.frameEnd true)
  | windowAwake {s} (hstate : s.eng.state = .sample) (helig : s.stageEligible = true) :
      Does .sampleWindowEnd s (s.frameEnd false)
  | windowDoze {s} (hstate : s.eng.state = .sample) :
      Does .sampleWindowEnd s { s with eng := ({ s.eng with carrier := false }).enterDoze s.cfg.listenPeriod }
  | lingerExpiry {s} (hlinger : s.eng.linger ≠ none) :
      Does .lingerExpiry s (State.engineSettle { s with eng := { s.eng with linger := none, lingerExpired := true } })
  | riseAwake {s} (hstate : s.eng.state = .awake) :
      Does .carrierRise s { s with eng := { s.eng with
        carrier := true, idleGap := 0, watch := { running := true, plain := 0, recognised := false } } }
  | rise {s} : Does .carrierRise s { s with eng := { s.eng with carrier := true } }
  | recognised {s} (hstate : s.eng.state = .awake) :
      Does .preambleRecognised s { s with eng := { s.eng with
        watch := { s.eng.watch with plain := Config.preambleTime, recognised := true } } }
  | rxdAwake {s} (hstate : s.eng.state = .awake) :
      Does .rxdLevelChange s
        { s with eng := { s.eng with rxd := !s.eng.rxd, watch := { s.eng.watch with plain := 0 } } }
  | rxd {s} : Does .rxdLevelChange s { s with eng := { s.eng with rxd := !s.eng.rxd } }
  | fallField {s} (hstate : s.eng.state = .awake) : Does .carrierFall s s.beginField
  | fallAwake {s} (hstate : s.eng.state = .awake) :
      Does .carrierFall s
        (State.engineSettle { s with eng := { s.eng with carrier := false, idleGap := 0, watch := .clear } })
  | fall {s} (hnot : ¬ (s.eng.state = .awake ∧ s.eng.carrier = true)) :
      Does .carrierFall s { s with eng := { s.eng with carrier := false } }
  | gap {s} (hstate : s.eng.state = .awake) :
      Does .idleGapReached s
        (State.engineSettle { s with eng := { s.eng with idleGap := max s.eng.idleGap s.mon.standing.gap } })
  | wakeEndHigh {s} (hstate : s.eng.state = .waking) :
      Does (.wakeLengthEnd true) s { s with eng := ({ s.eng with carrier := true }).keying false }
  | wakeEndLow {s} (hstate : s.eng.state = .waking) : Does (.wakeLengthEnd false) s s.beginField
  | wakingFall {s} (hstate : s.eng.state = .waking) : Does .wakingCarrierFall s s.beginField
  | wakingCap {s} (hstate : s.eng.state = .waking) :
      Does .wakingCap s (State.fieldLost { s with eng := s.eng.enterAwake true }).engineSettle
  | slot {s carrier} (hstate : s.eng.state = .field) :
      Does (.fieldSlot carrier) s { s with eng := s.eng.inSlot carrier }
  | slotLost {s carrier} (hstate : s.eng.state = .field) (hcontends : s.eng.part.contends = true)
      (hlistens : s.eng.part.keys s.eng.slot = false) :
      Does (.fieldSlot carrier) s (State.loseField { s with eng := s.eng.inSlot carrier })
  | contentionLost {s} (hstate : s.eng.state = .field) (hcontends : s.eng.part.contends = true) (hkey : s.eng.key = false) :
      Does .contentionLost s (State.loseField { s with eng := { s.eng with
        kindObs := if s.eng.slot = Config.fieldSlots then some true else s.eng.kindObs } })
  | won {s x} (hstate : s.eng.state = .field) (hcontends : s.eng.part.contends = true) (hstage : s.sel.stage = some x) :
      Does .fieldEnd s
        { s.fieldWon with eng := s.fieldWon.eng.enterSending (x.frame.body s.cfg.stationId s.clock) }
  | receiving {s} (hstate : s.eng.state = .field) (hnot : s.eng.part.contends = false ∨ s.sel.stage = none) :
      Does .fieldEnd s { s with eng := s.eng.enterReceiving }
  | closingMark {s} (hstate : s.eng.state = .sending) :
      Does .closingMarkSent s { s with eng := ({ s.eng with
        state := .awaitEcho, onAir := none, sent := bump Config.count32Max s.eng.sent }).keying false }
  | openingMark {rxd s} (hstate : s.eng.state = .receiving) :
      Does (.openingMarkFound rxd) s { s with eng := { s.eng with onAir := some .taking } }
  | markWait {carrier s} (hstate : s.eng.state = .receiving) :
      Does (.markWaitExpiry carrier) s
        (State.engineSettle { s with eng := ({ s.eng with kindObs := none }).enterAwake carrier })
  | goodFrame {rxd first s f} (hstate : s.eng.state = .receiving)
      (hjudge : judge rxd s.eng.kindObs s.clock = .good f) : Does (.goodFrame rxd first) s (s.goodFrame f first)
  | badFrame {rxd carrier s} (hstate : s.eng.state = .receiving) :
      Does (.badFrame rxd carrier) s (State.frameEnd carrier
        { s.monitorBad with eng := { s.monitorBad.eng with kindObs := none } }).engineSettle
  | echoSlotEnd {carrier s} (hstate : s.eng.state = .echoing) :
      Does (.echoSlotEnd carrier) s (s.frameEnd carrier).engineSettle
  | awaitEchoEnd {echo carrier first s} (hstate : s.eng.state = .awaitEcho) :
      Does (.awaitEchoEnd echo carrier first) s ((s.takeOutcome echo first).frameEnd carrier).engineSettle
  | tailEnd {s} (htail : s.eng.tail ≠ []) :
      Does .abortTailEnd s { s with eng := { s.eng with tail := [], radioEn := false, key := false } }
  | tailEndLeave {s} (htail : s.eng.tail ≠ []) (hrun : s.running = true) :
      Does .abortTailEnd s
        (State.leaveOff { s with eng := { s.eng with tail := [], radioEn := false, key := false } })
  | merge {s m} (hmerging : s.pair.merging = some m) :
      Does .mergeStep s
        (State.engineSettle (State.hear (s.mergePart m).2
          { (s.mergePart m).1 with pair := (s.mergePart m).1.pair.advance m }))

/-! ### Every command does one of them -/

theorem State.butSdo_refl (s : State) : s.butSdo s := rfl

theorem State.serve_butSdo (c : PortCommand) (args : List Byte) (act : State → State × List Byte) (s : State) :
    s.butSdo (s.serve c args act) ∨
      s.port.ready = true ∧ c.check args s = none ∧ (act s).1.butSdo (s.serve c args act) := by
  rcases s.serve_cases c args act with ⟨-, h⟩ | ⟨-, code, -, h⟩ | ⟨hready, hcheck, h⟩ <;> rw [h]
  · exact .inl rfl
  · exact .inl rfl
  · exact .inr ⟨hready, hcheck, rfl⟩

section
variable {s t : State} {args : List Byte}

/-- A command of the port that only reads does nothing. -/
theorem does_of_read {c : PortCommand} {i : Instr} {result : State → List Byte}
    (h : t = s.serve c args (fun s => (s, result s))) : ∃ u, Does i s u ∧ u.butSdo t := by
  subst h
  rcases s.serve_butSdo c args (fun s => (s, result s)) with h | ⟨-, -, h⟩ <;> exact ⟨s, .nothing i s, h⟩

/-- A command of the port whose action is one of the effects. -/
theorem does_of_serve {c : PortCommand} {i : Instr} {act : State → State × List Byte} (h : t = s.serve c args act)
    (hact : c.check args s = none → Does i s (act s).1) : ∃ u, Does i s u ∧ u.butSdo t := by
  subst h
  rcases s.serve_butSdo c args act with h | ⟨-, hcheck, h⟩
  · exact ⟨s, .nothing i s, h⟩
  · exact ⟨_, hact hcheck, h⟩

theorem running_of_check {c : PortCommand} (hc : c.unconfigured = false) (h : c.check args s = none) :
    s.running = true := by
  obtain ⟨-, hrun, -⟩ := (PortCommand.check_eq_none c args s).1 h
  simpa [hc] using hrun

theorem does_port {i : Instr} (hi : (portRow i).isSome = true) (h : exec i s = .next t) :
    ∃ u, Does i s u ∧ u.butSdo t := by
  cases i with
  | readStatus args => exact does_of_read (Host.Outcome.next.inj h).symm
  | readOwn args => exact does_of_read (Host.Outcome.next.inj h).symm
  | readEntry args => exact does_of_read (Host.Outcome.next.inj h).symm
  | readSlot args => exact does_of_read (Host.Outcome.next.inj h).symm
  | start args =>
    refine does_of_serve (Host.Outcome.next.inj h).symm fun hcheck => ?_
    unfold State.startAct
    dsimp only
    split
    · exact .nothing _ _
    · next hrun =>
      split
      · exact .nothing _ _
      · next hfield =>
        exact .start (by simpa using hrun) ((PortCommand.check_eq_none _ _ _).1 hcheck).1 hfield
  | restart args n =>
    refine does_of_serve (Host.Outcome.next.inj h).symm fun _ => ?_
    unfold State.restartAct
    dsimp only
    split
    · next hrun => exact .restart hrun
    · exact .nothing _ _
  | rejoin args =>
    refine does_of_serve (Host.Outcome.next.inj h).symm fun hcheck => ?_
    unfold State.rejoinAct
    split
    · next hmute => exact .rejoin (running_of_check rfl hcheck) hmute
    · exact .nothing _ _
  | postSample args =>
    refine does_of_serve (Host.Outcome.next.inj h).symm fun hcheck => ?_
    obtain ⟨hrun, hrole⟩ := PortCommand.check_role _ _ _ rfl rfl hcheck
    unfold State.sampleAct
    dsimp only
    split
    · exact .issue _ _ hrun hrole
    · exact .sample _ _ hrun hrole
  | solicit args =>
    refine does_of_serve (Host.Outcome.next.inj h).symm fun hcheck => ?_
    obtain ⟨hrun, hrole⟩ := PortCommand.check_role _ _ _ rfl rfl hcheck
    have hmax : fieldAt args 6 1 < 256 := fieldAt_lt args 6 1
    exact .solicit _ _ (by omega) hrun hrole
  | exportNext args =>
    refine does_of_serve (Host.Outcome.next.inj h).symm fun hcheck => ?_
    obtain ⟨hrun, hrole⟩ := PortCommand.check_role _ _ _ rfl rfl hcheck
    unfold State.exportAct
    split
    · next hhead => exact .handOut hrun hrole hhead
    · exact .handNone hrun hrole
  | clearNotices args =>
    exact does_of_serve (Host.Outcome.next.inj h).symm fun hcheck => .clear _ (running_of_check rfl hcheck)
  | setNoticeMask args => exact does_of_serve (Host.Outcome.next.inj h).symm fun _ => .setMask _
  | _ => simp [portRow] at hi

theorem does_of_eq {i : Instr} {u : State} (h : Host.Outcome.next u = (.next t : Host.Outcome State Fault Refusal))
    (hdoes : Does i s u) : ∃ u, Does i s u ∧ u.butSdo t := by
  obtain rfl := Host.Outcome.next.inj h
  exact ⟨u, hdoes, rfl⟩

theorem does_transactionAbandoned {place : Abandon} (h : exec (.transactionAbandoned place) s = .next t) :
    ∃ u, Does (.transactionAbandoned place) s u ∧ u.butSdo t := by
  refine ⟨s, .nothing _ _, ?_⟩
  cases place with
  | inCode => exact (Host.Outcome.next.inj h) ▸ rfl
  | inCount code => exact (Host.Outcome.next.inj h) ▸ rfl
  | inArgs code count taken =>
    rw [exec_transactionAbandoned, execTransactionAbandoned] at h
    split at h <;> exact (Host.Outcome.next.inj h) ▸ rfl
  | afterEffect clocked =>
    rw [exec_transactionAbandoned, execTransactionAbandoned] at h
    split at h
    · exact (Host.Outcome.next.inj h) ▸ rfl
    · rw [Port.selRises_keeps] at h
      exact (Host.Outcome.next.inj h) ▸ rfl

/-- Every command has one of the effects. -/
theorem exec_does {i : Instr} (h : exec i s = .next t) : ∃ u, Does i s u ∧ u.butSdo t := by
  cases i with
  | readStatus args => exact does_port rfl h
  | start args => exact does_port rfl h
  | restart args n => exact does_port rfl h
  | rejoin args => exact does_port rfl h
  | postSample args => exact does_port rfl h
  | readOwn args => exact does_port rfl h
  | readEntry args => exact does_port rfl h
  | readSlot args => exact does_port rfl h
  | solicit args => exact does_port rfl h
  | exportNext args => exact does_port rfl h
  | clearNotices args => exact does_port rfl h
  | setNoticeMask args => exact does_port rfl h
  | exportNextCompletion =>
    rw [exec_exportNextCompletion, execExportNextCompletion] at h
    dsimp only at h
    split at h
    · next hhand => exact does_of_eq h (.complete hhand)
    · exact ⟨s, .nothing _ _, (Host.Outcome.next.inj h) ▸ rfl⟩
  | exportCutShort clocked =>
    refine ⟨_, .cutShort, ?_⟩
    rw [exec_exportCutShort, execExportCutShort, Port.selRises_keeps] at h
    exact (Host.Outcome.next.inj h) ▸ rfl
  | unknownCommand code args =>
    refine ⟨s, .nothing _ _, ?_⟩
    rw [exec_unknownCommand, execUnknownCommand] at h
    (repeat' split at h) <;> exact (Host.Outcome.next.inj h) ▸ rfl
  | transactionAbandoned place => exact does_transactionAbandoned h
  | hardReset => exact does_of_eq h .hardReset
  | resetRelease =>
    rw [exec_resetRelease, execResetRelease] at h
    split at h
    · exact does_of_eq h (.nothing _ _)
    · exact does_of_eq h .release
  | portReady =>
    rw [exec_portReady, execPortReady] at h
    split at h
    · exact does_of_eq h .ready
    · exact does_of_eq h (.nothing _ _)
  | stationClockTick =>
    rw [exec_stationClockTick, execStationClockTick] at h
    split at h
    · next hc => exact does_of_eq h (.tick hc.2)
    · exact does_of_eq h (.nothing _ _)
  | minuteBoundary =>
    rw [exec_minuteBoundary, execMinuteBoundary] at h
    dsimp only at h
    split at h
    · next hdue =>
      split at h
      · next hrun => exact does_of_eq h (.boundary hrun hdue)
      · next hrun => exact does_of_eq h (.noBoundary (by simpa using hrun))
    · exact does_of_eq h (.nothing _ _)
  | allowanceRefill =>
    rw [exec_allowanceRefill, execAllowanceRefill] at h
    split at h
    · next hbin =>
      have hbin := hbin.1
      simp only [State.isBin, Bool.and_eq_true, beq_iff_eq] at hbin
      exact does_of_eq h (.refill hbin.1 hbin.2)
    · exact does_of_eq h (.nothing _ _)
  | probeTimerExpiry =>
    rw [exec_probeTimerExpiry, execProbeTimerExpiry] at h
    split at h
    · next hmute => exact does_of_eq h (.probe hmute.1 hmute.2.1)
    · exact does_of_eq h (.nothing _ _)
  | listenTimerExpiry =>
    rw [exec_listenTimerExpiry, execListenTimerExpiry] at h
    split at h
    · next hstate => exact does_of_eq h (.listenExpiry hstate.1)
    · exact does_of_eq h (.nothing _ _)
  | sampleCarrierSeen =>
    rw [exec_sampleCarrierSeen, execSampleCarrierSeen] at h
    split at h
    · next hstate => exact does_of_eq h (.carrierSeen hstate)
    · exact does_of_eq h (.nothing _ _)
  | sampleWindowEnd =>
    rw [exec_sampleWindowEnd, execSampleWindowEnd] at h
    split at h
    · next hstate =>
      split at h
      · next helig => exact does_of_eq h (.windowAwake hstate helig)
      · exact does_of_eq h (.windowDoze hstate)
    · exact does_of_eq h (.nothing _ _)
  | lingerExpiry =>
    rw [exec_lingerExpiry, execLingerExpiry] at h
    split at h
    · next hlinger => exact does_of_eq h (.lingerExpiry (Option.isSome_iff_ne_none.1 hlinger))
    · exact does_of_eq h (.nothing _ _)
  | carrierRise =>
    rw [exec_carrierRise, execCarrierRise] at h
    split at h
    · next hstate => exact does_of_eq h (.riseAwake hstate.1)
    · exact does_of_eq h .rise
  | preambleRecognised =>
    rw [exec_preambleRecognised, execPreambleRecognised] at h
    split at h
    · next hstate => exact does_of_eq h (.recognised hstate.1)
    · exact does_of_eq h (.nothing _ _)
  | carrierFall =>
    rw [exec_carrierFall, execCarrierFall] at h
    split at h
    · next hstate =>
      split at h
      · exact does_of_eq h (.fallField hstate.1)
      · exact does_of_eq h (.fallAwake hstate.1)
    · next hnot => exact does_of_eq h (.fall hnot)
  | idleGapReached =>
    rw [exec_idleGapReached, execIdleGapReached] at h
    split at h
    · next hstate => exact does_of_eq h (.gap hstate.1)
    · exact does_of_eq h (.nothing _ _)
  | wakeLengthEnd carrier =>
    rw [exec_wakeLengthEnd, execWakeLengthEnd] at h
    split at h
    · next hstate =>
      cases carrier with
      | true => exact does_of_eq h (.wakeEndHigh hstate.1)
      | false => exact does_of_eq h (.wakeEndLow hstate.1)
    · exact does_of_eq h (.nothing _ _)
  | wakingCarrierFall =>
    rw [exec_wakingCarrierFall, execWakingCarrierFall] at h
    split at h
    · next hstate => exact does_of_eq h (.wakingFall hstate.1)
    · exact does_of_eq h (.nothing _ _)
  | wakingCap =>
    rw [exec_wakingCap, execWakingCap] at h
    split at h
    · next hstate => exact does_of_eq h (.wakingCap hstate.1)
    · exact does_of_eq h (.nothing _ _)
  | fieldSlot carrier =>
    rw [exec_fieldSlot, execFieldSlot] at h
    dsimp only at h
    split at h
    · next hstate =>
      split at h
      · next hlost =>
        simp only [Bool.and_eq_true, Bool.not_eq_true'] at hlost
        exact does_of_eq h (.slotLost hstate.1 hlost.1.1 hlost.1.2)
      · exact does_of_eq h (.slot hstate.1)
    · exact does_of_eq h (.nothing _ _)
  | contentionLost =>
    rw [exec_contentionLost, execContentionLost] at h
    split at h
    · next hstate => exact does_of_eq h (.contentionLost hstate.1 hstate.2.2.1 hstate.2.2.2)
    · exact does_of_eq h (.nothing _ _)
  | fieldEnd =>
    rw [exec_fieldEnd, execFieldEnd] at h
    split at h
    · next hstate =>
      cases hcontends : s.eng.part.contends with
      | false =>
        rw [hcontends] at h
        exact does_of_eq h (.receiving hstate.1 (.inl hcontends))
      | true =>
        rcases hstage : s.sel.stage with _ | x
        · rw [hcontends, hstage] at h
          exact does_of_eq h (.receiving hstate.1 (.inr hstage))
        · rw [hcontends, hstage] at h
          exact does_of_eq h (.won hstate.1 hcontends hstage)
    · exact does_of_eq h (.nothing _ _)
  | closingMarkSent =>
    rw [exec_closingMarkSent, execClosingMarkSent] at h
    split at h
    · next hstate => exact does_of_eq h (.closingMark hstate)
    · exact does_of_eq h (.nothing _ _)
  | openingMarkFound rxd =>
    rw [exec_openingMarkFound, execOpeningMarkFound] at h
    split at h
    · next hstate => exact does_of_eq h (.openingMark hstate.1)
    · exact does_of_eq h (.nothing _ _)
  | markWaitExpiry carrier =>
    rw [exec_markWaitExpiry, execMarkWaitExpiry] at h
    split at h
    · next hstate => exact does_of_eq h (.markWait hstate.1)
    · exact does_of_eq h (.nothing _ _)
  | goodFrame rxd monitorFirst =>
    rw [exec_goodFrame, execGoodFrame] at h
    split at h
    · next hstate =>
      split at h
      · next hjudge => exact does_of_eq h (.goodFrame hstate.1 hjudge)
      · exact does_of_eq h (.nothing _ _)
    · exact does_of_eq h (.nothing _ _)
  | badFrame rxd carrier =>
    rw [exec_badFrame, execBadFrame] at h
    split at h
    · next hstate => exact does_of_eq h (.badFrame hstate.1)
    · exact does_of_eq h (.nothing _ _)
  | echoSlotEnd carrier =>
    rw [exec_echoSlotEnd, execEchoSlotEnd] at h
    split at h
    · next hstate => exact does_of_eq h (.echoSlotEnd hstate)
    · exact does_of_eq h (.nothing _ _)
  | awaitEchoEnd echo carrier monitorFirst =>
    rw [exec_awaitEchoEnd, execAwaitEchoEnd] at h
    split at h
    · next hstate => exact does_of_eq h (.awaitEchoEnd hstate)
    · exact does_of_eq h (.nothing _ _)
  | abortTailEnd =>
    rw [exec_abortTailEnd, execAbortTailEnd] at h
    dsimp only at h
    split at h
    · exact does_of_eq h (.nothing _ _)
    · next htail =>
      have htail : s.eng.tail ≠ [] := by simpa using htail
      split at h
      · next hrun => exact does_of_eq h (.tailEndLeave htail hrun)
      · exact does_of_eq h (.tailEnd htail)
  | mergeStep =>
    rw [exec_mergeStep, execMergeStep, State.mergeOnce] at h
    rcases hmerging : s.pair.merging with _ | m
    · rw [hmerging] at h
      exact does_of_eq h (.nothing _ _)
    · rw [hmerging] at h
      exact does_of_eq h (.merge hmerging)
  | rxdLevelChange =>
    rw [exec_rxdLevelChange, execRxdLevelChange] at h
    split at h
    · next hstate => exact does_of_eq h (.rxdAwake hstate.1)
    · exact does_of_eq h .rxd

/-- What every effect of a command keeps is kept by a step, if it looks neither at SDO nor at the waiting commands. -/
theorem step_induction {P Q : State → Prop} (hsdo : ∀ u t : State, u.butSdo t → Q u → Q t)
    (hpending : ∀ (s : State) rest, P s → P { s with pending := rest }) (hidle : P s → Q s)
    (hdoes : ∀ (c : Instr) (s u : State), P s → Does c s u → Q u) (hs : P s) (h : step s = .next t) : Q t := by
  unfold step at h
  split at h
  · obtain rfl := Host.Outcome.next.inj h
    exact hidle hs
  · next c rest _ =>
    obtain ⟨u, hu, hut⟩ := exec_does h
    exact hsdo u t hut (hdoes c _ u (hpending s rest hs) hu)

end

end Sys2Proof.Machine
end

section
/-! PROOFS. The slots, the settled selector and the settled engine through every step (O57). -/

namespace Sys2Proof.Machine

/-! ### The monitor's operations at the slots -/

/-- A STAGED probe without its mark, where MUTE is left (R136). -/
def State.unprobed (s : State) : State :=
  match s.sel.stage with
  | some { frame := { key := key, payload := .fill es true }, cond := .staged } =>
    { s with sel := { s.sel with stage := some { frame := { key := key, payload := .fill es false }, cond := .staged } } }
  | _ => s

section
variable (s : State)

theorem State.leaveMute_eq : s.leaveMute = s.unprobed.selectorSettle := by
  unfold State.leaveMute State.unprobed
  rcases s.sel.stage with _ | ⟨⟨key, ⟨es, _ | _⟩ | is | ⟨g, n⟩⟩, _ | _ | _⟩ <;> rfl

theorem State.unprobed_cases :
    s.unprobed = s ∨ ∃ key es, s.sel.stage = some ⟨⟨key, .fill es true⟩, .staged⟩ ∧
      s.unprobed = { s with sel := { s.sel with stage := some ⟨⟨key, .fill es false⟩, .staged⟩ } } := by
  unfold State.unprobed
  split
  · next key es h => exact .inr ⟨key, es, h, rfl⟩
  · exact .inl rfl

theorem State.unprobed_eq : s.unprobed = { s with sel := { s.sel with stage := s.unprobed.sel.stage } } := by
  rcases s.unprobed_cases with h | ⟨key, es, -, h⟩ <;> rw [h]

theorem State.unprobed_core : s.unprobed.sel.core = s.sel.core := by
  rcases s.unprobed_cases with h | ⟨key, es, hs, h⟩ <;> rw [h]
  rw [Selector.core_eq_none.2 (.inr ⟨_, hs⟩), Selector.core_eq_none.2 (.inr ⟨_, rfl⟩)]

theorem State.unprobed_ordered (h : s.sel.ordered) : s.unprobed.sel.ordered := by
  rcases s.unprobed_cases with k | ⟨key, es, hs, k⟩ <;> rw [k]
  · exact h
  · exact fun _ => nofun

/-- The monitor takes a new state: nothing else moves while the standing stands; else STANDING is raised, and the
selector withdraws, loses the probe's mark, or settles (R136, R138, R144 to R149). -/
theorem State.setMonitor_cases (m : Monitor) :
    (m.standing = s.mon.standing ∧ s.setMonitor m = { s with mon := m }) ∨
    (m.standing ≠ s.mon.standing ∧ m.standing = .mute ∧
      s.setMonitor m = (State.raise .standing { s with mon := m }).enterMute) ∨
    (m.standing ≠ s.mon.standing ∧ m.standing ≠ .mute ∧ s.mon.standing = .mute ∧
      s.setMonitor m = (State.raise .standing { s with mon := m }).unprobed.selectorSettle) ∨
    (m.standing ≠ s.mon.standing ∧ m.standing ≠ .mute ∧ s.mon.standing ≠ .mute ∧
      s.setMonitor m = (State.raise .standing { s with mon := m }).selectorSettle) := by
  unfold State.setMonitor
  dsimp only
  by_cases h : m.standing = s.mon.standing
  · exact .inl ⟨h, if_pos h⟩
  · rw [if_neg h]
    by_cases hm : m.standing = .mute
    · exact .inr (.inl ⟨h, hm, if_pos hm⟩)
    · rw [if_neg hm]
      by_cases hs : s.mon.standing = .mute
      · rw [if_pos hs]
        exact .inr (.inr (.inl ⟨h, hm, hs, State.leaveMute_eq _⟩))
      · rw [if_neg hs]
        exact .inr (.inr (.inr ⟨h, hm, hs, rfl⟩))

theorem State.setMonitor_core (m : Monitor) : (s.setMonitor m).sel.core = s.sel.core := by
  rcases s.setMonitor_cases m with ⟨-, h⟩ | ⟨-, -, h⟩ | ⟨-, -, -, h⟩ | ⟨-, -, -, h⟩ <;> rw [h]
  · exact (State.enterMute_reselects _).core
  · exact (State.selectorSettle_reselects _).core.trans (State.unprobed_core _)
  · exact (State.selectorSettle_reselects _).core

theorem State.setMonitor_ordered (m : Monitor) (h : s.sel.ordered) : (s.setMonitor m).sel.ordered := by
  rcases s.setMonitor_cases m with ⟨-, k⟩ | ⟨-, -, k⟩ | ⟨-, -, -, k⟩ | ⟨-, -, -, k⟩ <;> rw [k]
  · exact h
  · exact (State.enterMute_reselects _).ordered h
  · exact (State.selectorSettle_reselects _).ordered (State.unprobed_ordered _ h)
  · exact (State.selectorSettle_reselects _).ordered h

/-- The echo outcome leaves STAGE EMPTY or STAGED and the slots in order (R135). -/
theorem State.echoOutcome_of_sending {f : FrameRec} (echoed : Bool)
    (h : s.sel.stage = some { frame := f, cond := .sending }) :
    s.echoOutcome echoed = ((s.applyOutcome echoed f).moveUp).selectorSettle := by
  simp only [State.echoOutcome, h, if_true]

theorem State.echoOutcome_of_not (echoed : Bool) (h : s.sel.stageCond ≠ some .sending) : s.echoOutcome echoed = s := by
  rcases hs : s.sel.stage with _ | ⟨f, cond⟩
  · simp [State.echoOutcome, hs]
  · have hcond : cond ≠ .sending := fun hc => h (by simp [Selector.stageCond, hs, hc])
    simp [State.echoOutcome, hs, hcond]

theorem State.moveUp_sel :
    s.moveUp.sel.build = none ∧
      (s.sel.build = none ∧ s.moveUp.sel.stage = none ∨
        ∃ f, s.sel.build = some f ∧ s.moveUp.sel.stage = some { frame := f, cond := .staged }) := by
  unfold State.moveUp
  rcases h : s.sel.build with _ | f
  · exact ⟨h, .inl ⟨rfl, rfl⟩⟩
  · exact ⟨rfl, .inr ⟨f, rfl, rfl⟩⟩

theorem State.moveUp_core : s.moveUp.sel.core = none := by
  rcases s.moveUp_sel.2 with ⟨-, h⟩ | ⟨f, -, h⟩
  · exact Selector.core_eq_none.2 (.inl h)
  · exact Selector.core_eq_none.2 (.inr ⟨f, h⟩)

theorem State.echoOutcome_core {f : FrameRec} (echoed : Bool)
    (h : s.sel.stage = some { frame := f, cond := .sending }) :
    (s.echoOutcome echoed).sel.ordered ∧ (s.echoOutcome echoed).sel.core = none := by
  rw [s.echoOutcome_of_sending echoed h]
  have hre := State.selectorSettle_reselects (s.applyOutcome echoed f).moveUp
  exact ⟨hre.ordered fun hb => absurd (State.moveUp_sel _).1 hb, hre.core.trans (State.moveUp_core _)⟩

theorem State.takeOutcome_core {f : FrameRec} (echoed first : Bool)
    (h : s.sel.stage = some { frame := f, cond := .sending }) :
    (s.takeOutcome echoed first).sel.ordered ∧ (s.takeOutcome echoed first).sel.core = none := by
  unfold State.takeOutcome
  split
  · have hcore : (s.monitorOutcome echoed).sel.core = some { frame := f, cond := .sending } :=
      (s.setMonitor_core _).trans (Selector.core_of_cond h nofun)
    exact State.echoOutcome_core _ echoed (Selector.core_cond hcore).1
  · obtain ⟨hordered, hcore⟩ := s.echoOutcome_core echoed h
    exact ⟨State.setMonitor_ordered _ _ hordered, (State.setMonitor_core _ _).trans hcore⟩

/-! ### The merge at the slots -/

theorem State.insert_sel (e : Entry) : (s.insert e).1.sel = s.sel := by simp

/-- Applying a part moves neither the slots nor the engine. -/
theorem State.mergePart_same (m : Merging) :
    (s.mergePart m).1.sel.build = s.sel.build ∧ (s.mergePart m).1.sel.stage = s.sel.stage ∧
      (s.mergePart m).1.sel.allowance = s.sel.allowance ∧ (s.mergePart m).1.eng = s.eng ∧
      (s.mergePart m).1.mon.standing = s.mon.standing ∧ (s.mergePart m).1.running = s.running ∧
      (s.mergePart m).1.config = s.config :=
  ⟨s.mergePart_moves m .build (by simp), s.mergePart_moves m .stage (by simp), s.mergePart_moves m .allowance (by simp),
    s.mergePart_moves m .engine (by simp), s.mergePart_moves m .standing (by simp), s.mergePart_moves m .running (by simp),
    s.mergePart_moves m .config (by simp)⟩

/-- The issue of an own report moves neither the slots nor the engine. -/
theorem State.sampleIssue_same (range : Nat) (flags : Byte) :
    (s.sampleIssue range flags).1.sel.build = s.sel.build ∧ (s.sampleIssue range flags).1.sel.stage = s.sel.stage ∧
      (s.sampleIssue range flags).1.sel.allowance = s.sel.allowance ∧ (s.sampleIssue range flags).1.eng = s.eng ∧
      (s.sampleIssue range flags).1.mon.standing = s.mon.standing ∧
      (s.sampleIssue range flags).1.running = s.running ∧ (s.sampleIssue range flags).1.config = s.config := by
  have hmoves := State.issueOwn_moves { s with est := (s.taken range flags).1 } s.clock (s.taken range flags).2
    (s.taken range flags).1.nextSeq ((s.taken range flags).1.nextSeq + 1) .nothing
  exact ⟨hmoves .build (by simp), hmoves .stage (by simp), hmoves .allowance (by simp), hmoves .engine (by simp),
    hmoves .standing (by simp), hmoves .running (by simp), hmoves .config (by simp)⟩

/-! ### The slots through every effect -/

theorem State.slotsOk_congr {s t : State} (h : s.slotsOk) (hbuild : t.sel.build = s.sel.build)
    (hstage : t.sel.stage = s.sel.stage) (heng : t.eng = s.eng) : t.slotsOk := by
  rw [State.slotsOk_iff, Selector.ordered, Selector.core] at h ⊢
  rwa [hbuild, hstage, heng]

theorem State.frameEnd_eng (c : Bool) : (s.frameEnd c).eng.state = .awake := by simp [State.frameEnd, Engine.enterAwake]

/-- Back in AWAKE with no frame COMMITTED or SENDING the slots are in accord (R6, R8). -/
theorem State.awake_slotsOk {s : State} (hstate : s.eng.state = .awake) (hordered : s.sel.ordered)
    (hcore : s.sel.core = none) : s.engineSettle.slotsOk :=
  State.engineSettle_slotsOk ((State.slotsOk_of_idle (Engine.idle_of_mem (by simp [hstate]))).2 ⟨hordered, hcore⟩)

/-- From one idle state of the engine to AWAKE. -/
theorem State.slotsOk_to_awake {s t : State} (h : s.slotsOk) (hs : s.eng.idle) (ht : t.eng.state = .awake)
    (hbuild : t.sel.build = s.sel.build) (hstage : t.sel.stage = s.sel.stage) : t.engineSettle.slotsOk :=
  State.engineSettle_slotsOk (State.slotsOk_idle_step h hs (Engine.idle_of_mem (by simp [ht])) hbuild hstage)

theorem State.startEngine_idle {c : HeldConfig} (h : s.eng.state = .off) : (s.startEngine c).idle := by
  unfold State.startEngine
  (repeat' split)
  · exact Engine.idle_of_mem (by simp [Engine.enterDoze])
  · exact Engine.idle_of_mem (by simp [Engine.enterAwake])
  · exact Engine.idle_of_mem (by simp [h])

theorem State.deliver_reselects (b : BinId) (r : Seq) :
    ∃ u : State, u.sel = s.sel ∧ u.eng = s.eng ∧ u.mon = s.mon ∧ u.running = s.running ∧ u.config = s.config ∧
      u.reselects (s.deliver b r) := by
  unfold State.deliver
  extract_lets drain still gw listed left handed
  have hhanded : handed.sel = s.sel ∧ handed.eng = s.eng ∧ handed.mon = s.mon ∧ handed.running = s.running ∧
      handed.config = s.config := by
    unfold handed
    split <;> exact ⟨rfl, rfl, rfl, rfl, rfl⟩
  obtain ⟨hsel, heng, hmon, hrun, hcfg⟩ := hhanded
  refine ⟨handed, hsel, heng, hmon, hrun, hcfg, ?_⟩
  split
  · exact handed.withdrawWhere_reselects _
  · exact .refl _

theorem State.solicitAct_eq (bin mask : BinId) (maxClass : Nat) :
    ∃ u : State, u.sel = s.sel ∧ u.eng = s.eng ∧ u.mon = s.mon ∧ u.running = s.running ∧ u.config = s.config ∧
      ∃ v : State, u.reselects v ∧ (s.solicitAct bin mask maxClass).1 = v.selectorSettle.engineSettle := by
  unfold State.solicitAct
  extract_lets new gw made cleared
  refine ⟨made, rfl, rfl, rfl, rfl, rfl, cleared, ?_, rfl⟩
  unfold cleared
  split
  · exact made.withdrawWhere_reselects _
  · exact .refl _

theorem does_slotsOk {c : Instr} {s u : State} (h : Does c s u) (hs : s.slotsOk) (hclear : s.clearedOk)
    (hlines : s.eng.linesOk) : u.slotsOk := by
  induction h with
  | nothing c s => exact hs
  | @start args s hrun hlen hfield =>
    rw [State.startRunning_eq]
    obtain ⟨hoff, -, -, -, -, hsel, -⟩ := hclear.2 hrun
    rw [State.slotsOk_of_idle (s.startEngine_idle hoff), Selector.ordered, Selector.core]
    simp [hsel, Selector.reset]
  | @restart args n s hrun =>
    have hidle : (s.restartRunning n).eng.idle := by
      have hoff : (s.restartRunning n).eng.state = .off := by
        change (s.eng.restart n).state = .off
        unfold Engine.restart
        split
        · assumption
        · rfl
        · rfl
      exact Engine.idle_of_mem (by simp [hoff])
    exact (State.slotsOk_of_idle hidle).2 ⟨fun hb => absurd rfl hb, rfl⟩
  | issue range flags hrun hrole =>
    obtain ⟨hbuild, hstage, -, heng, -⟩ := State.sampleIssue_same _ range flags
    exact State.engineSettle_slotsOk ((State.hear_reselects _ _).slotsOk (State.slotsOk_congr hs hbuild hstage heng))
  | @solicit args s bin mask maxClass hmax hrun hrole =>
    obtain ⟨u, hsel, heng, -, -, -, v, huv, h⟩ := s.solicitAct_eq bin mask maxClass
    rw [h]
    have hu : u.slotsOk := State.slotsOk_congr hs (by rw [hsel]) (by rw [hsel]) heng
    exact State.engineSettle_slotsOk ((State.selectorSettle_reselects _).slotsOk (huv.slotsOk hu))
  | @complete s b r hhand =>
    obtain ⟨u, hsel, heng, -, -, -, huv⟩ := State.deliver_reselects { s with port := { s.port with resultAt := none } } b r
    have hu : u.slotsOk := State.slotsOk_congr hs (by rw [hsel]) (by rw [hsel]) heng
    exact State.engineSettle_slotsOk ((State.selectorSettle_reselects _).slotsOk (huv.slotsOk hu))
  | hardReset => exact (State.slotsOk_of_idle (Engine.idle_of_mem (by simp [Engine.reset]))).2 ⟨fun hb => absurd rfl hb, rfl⟩
  | @boundary s hrun hdue =>
    refine State.engineSettle_slotsOk ?_
    have hheard := (State.hear_reselects (State.sweep { s with boundaryDue := false }).1
      (State.sweep { s with boundaryDue := false }).2).slotsOk hs
    refine State.slotsOk_congr hheard ?_ ?_ ?_ <;>
      (unfold State.countProbe State.countBoundary; (repeat' split) <;> rfl)
  | @refill s hrun hrole =>
    refine State.engineSettle_slotsOk ((State.selectorSettle_reselects _).slotsOk ?_)
    exact State.slotsOk_congr hs rfl rfl rfl
  | probe hrun hmute => exact State.engineSettle_slotsOk ((State.selectorSettle_reselects _).slotsOk hs)
  | listenExpiry hstate =>
    exact State.slotsOk_idle_step hs (Engine.idle_of_mem (by simp [hstate])) (Engine.idle_of_mem (by simp)) rfl rfl
  | @carrierSeen s hstate =>
    exact State.slotsOk_idle_step hs (Engine.idle_of_mem (by simp [hstate]))
      (Engine.idle_of_mem (by simp [State.frameEnd_eng])) (by simp) (by simp)
  | @windowAwake s hstate helig =>
    exact State.slotsOk_idle_step hs (Engine.idle_of_mem (by simp [hstate]))
      (Engine.idle_of_mem (by simp [State.frameEnd_eng])) (by simp) (by simp)
  | windowDoze hstate =>
    exact State.slotsOk_idle_step hs (Engine.idle_of_mem (by simp [hstate]))
      (Engine.idle_of_mem (by simp [Engine.enterDoze])) rfl rfl
  | lingerExpiry hlinger => exact State.engineSettle_slotsOk hs
  | riseAwake hstate => exact hs
  | rise => exact hs
  | recognised hstate => exact hs
  | rxdAwake hstate => exact hs
  | rxd => exact hs
  | fallField hstate => exact State.beginField_slotsOk hs (.inl hstate)
  | fallAwake hstate => exact State.engineSettle_slotsOk hs
  | fall => exact hs
  | gap hstate => exact State.engineSettle_slotsOk hs
  | wakeEndHigh hstate => exact hs
  | wakeEndLow hstate => exact State.beginField_slotsOk hs (.inr hstate)
  | wakingFall hstate => exact State.beginField_slotsOk hs (.inr hstate)
  | @wakingCap s hstate =>
    have hsend : s.sel.stageCond ≠ some .sending := fun k => by
      rcases hs.2.2.1.1 k with hf | hf <;> rw [hstate] at hf <;> cases hf
    obtain ⟨hordered, hcore⟩ := State.fieldLost_core (s := { s with eng := s.eng.enterAwake true }) hs.1 hsend
    exact State.awake_slotsOk (by simp [Engine.enterAwake]) hordered hcore
  | slot hstate => exact hs
  | @slotLost s carrier hstate hcontends =>
    exact State.loseField_slotsOk (s := { s with eng := s.eng.inSlot carrier }) hs hstate
  | @contentionLost s hstate hcontends =>
    exact State.loseField_slotsOk (s := { s with eng := { s.eng with
      kindObs := if s.eng.slot = Config.fieldSlots then some true else s.eng.kindObs } }) hs hstate
  | @won s x hstate hcontends hstage =>
    have hwon : s.fieldWon.sel.stage = some { x with cond := .sending } := by
      simp only [State.fieldWon, hstage]
      split <;> rfl
    rw [State.slotsOk_iff]
    refine ⟨fun _ => by simp [hwon], ?_⟩
    rw [Selector.core_of_cond hwon nofun]
    simp [Engine.agrees, Engine.enterSending]
  | @receiving s hstate hnot =>
    have hcommitted : s.sel.stageCond ≠ some .committed := fun k => by
      rcases hs.2.1.1 k with hf | ⟨-, hk⟩
      · rw [hstate] at hf
        cases hf
      · rcases hnot with hnot | hnone
        · rw [hnot] at hk
          cases hk
        · obtain ⟨f, hf⟩ := Selector.stageCond_eq_committed.1 k
          rw [hnone] at hf
          cases hf
    have hsend : s.sel.stageCond ≠ some .sending := fun k => by
      rcases hs.2.2.1.1 k with hf | hf <;> rw [hstate] at hf <;> cases hf
    have hcore := (State.fieldLost_core (s := s) hs.1 hsend).2
    rw [State.fieldLost_of_not hcommitted] at hcore
    exact (State.slotsOk_of_idle (Engine.idle_of_mem (by simp [Engine.enterReceiving, Engine.keying]))).2 ⟨hs.1, hcore⟩
  | @closingMark s hstate =>
    rw [State.slotsOk_iff] at hs ⊢
    refine ⟨hs.1, ?_⟩
    have hagrees := hs.2
    simp only [Engine.agrees, hstate, reduceCtorEq, false_and, or_false, iff_false, IsEmpty.forall_iff, and_true,
      iff_true] at hagrees
    simpa [Engine.agrees, Engine.keying] using hagrees
  | openingMark hstate => exact hs
  | markWait hstate => exact State.slotsOk_to_awake hs (Engine.idle_of_mem (by simp [hstate])) rfl rfl rfl
  | @goodFrame rxd first s f hstate hjudge =>
    have hidle := Engine.idle_of_mem (e := s.eng) (by simp [hstate])
    obtain ⟨hordered, hcore⟩ := (State.slotsOk_of_idle hidle).1 hs
    refine (State.slotsOk_of_idle (Engine.idle_of_mem (by simp [State.goodFrame, Engine.enterEchoing]))).2 ⟨?_, ?_⟩
    · exact State.setMonitor_ordered _ _ (by simpa using hordered)
    · exact (State.setMonitor_core _ _).trans (by simpa using hcore)
  | @badFrame rxd carrier s hstate =>
    have hidle := Engine.idle_of_mem (e := s.eng) (by simp [hstate])
    obtain ⟨hordered, hcore⟩ := (State.slotsOk_of_idle hidle).1 hs
    refine State.awake_slotsOk (State.frameEnd_eng _ _) ?_ ?_
    · simpa [State.monitorBad] using State.setMonitor_ordered _ s.mon.bad hordered
    · simpa [State.monitorBad] using (State.setMonitor_core _ s.mon.bad).trans hcore
  | @echoSlotEnd carrier s hstate =>
    exact State.slotsOk_to_awake hs (Engine.idle_of_mem (by simp [hstate])) (State.frameEnd_eng _ _) (by simp) (by simp)
  | @awaitEchoEnd echo carrier first s hstate =>
    obtain ⟨f, hf⟩ := Selector.stageCond_eq_sending.1 (hs.2.2.1.2 (.inr hstate))
    obtain ⟨hordered, hcore⟩ := s.takeOutcome_core echo first hf
    exact State.awake_slotsOk (State.frameEnd_eng _ _) (by simpa using hordered) (by simpa using hcore)
  | tailEnd htail => exact hs
  | @tailEndLeave s htail hrun =>
    have hidle := Engine.idle_of_mem (e := s.eng) (by simp [hlines.1 htail])
    refine State.slotsOk_idle_step hs hidle ?_ (by simp) (by simp)
    unfold State.leaveOff
    split
    · exact Engine.idle_of_mem (by simp [Engine.enterDoze])
    · exact Engine.idle_of_mem (by simp [Engine.enterAwake])
  | @merge s m hmerging =>
    obtain ⟨hbuild, hstage, -, heng, -⟩ := s.mergePart_same m
    refine State.engineSettle_slotsOk ((State.hear_reselects _ _).slotsOk ?_)
    exact State.slotsOk_congr hs hbuild hstage heng
  | _ => exact hs

end

end Sys2Proof.Machine
end

section
/-! PROOFS. The settled selector and the settled engine through every step (R6, R8, R125, R126, R138). -/

namespace Sys2Proof.Machine

/-! ### The settled selector -/

/-- A settled selector stays settled while nothing it looks at moves, and when its STAGED frame is COMMITTED or its frame
SENDING, which takes no candidate in. -/
theorem State.settled.mono {s t : State} (h : s.settled) (hrun : t.running = s.running) (hcfg : t.config = s.config)
    (hstanding : t.mon.standing = s.mon.standing) (hbuild : t.sel.build = s.sel.build) (htable : t.table = s.table)
    (hdrain : t.gw.drainList = s.gw.drainList) (hsolicit : t.gw.solicit = s.gw.solicit)
    (hstage : t.sel.stage = s.sel.stage ∧ t.sel.allowance = s.sel.allowance ∨
      t.sel.allowance ≤ s.sel.allowance ∧ ∃ x cond, s.sel.stage = some x ∧ cond ≠ .staged ∧
        t.sel.stage = some { x with cond := cond }) : t.settled := by
  have hrole : t.role = s.role := by rw [State.role, State.cfg, hcfg]; rfl
  have hframes : t.sel.frames = s.sel.frames := by
    rcases hstage with ⟨hs, -⟩ | ⟨-, x, cond, hs, -, ht⟩
    · rw [Selector.frames, hs, hbuild, Selector.frames]
    · rw [Selector.frames, ht, hbuild, Selector.frames, hs]
      rfl
  have hfill : ∀ e, t.mayFill e → s.mayFill e := fun e => by
    have hle : t.sel.allowance ≤ s.sel.allowance := hstage.elim (fun k => k.2.le) (fun k => k.1)
    unfold State.mayFill
    rw [hstanding]
    exact fun ⟨ho, hp, hm, ha⟩ => ⟨ho, hp, hm, ha.imp_right fun k => k.imp_right fun k => ⟨k.1, k.2.trans hle⟩⟩
  have hsame : t.sel.stageCond = some .staged → t.sel.stage = s.sel.stage ∧ t.sel.allowance = s.sel.allowance := fun hc => by
    rcases hstage with hs | ⟨-, x, cond, -, hne, ht⟩
    · exact hs
    · obtain ⟨f, hf⟩ := Selector.stageCond_eq_staged.1 hc
      rw [ht] at hf
      exact absurd (congrArg StageSlot.cond (Option.some.inj hf)) hne
  intro hr
  obtain ⟨hbin, hgw⟩ := h (hrun ▸ hr)
  refine ⟨fun hb hidle e he hm => hbin (hrole ▸ hb) (hbuild ▸ hidle.imp_right fun ⟨hc, hel⟩ => ?_) e (htable ▸ he)
    (hfill e hm), fun hg => ?_⟩
  · obtain ⟨hs, ha⟩ := hsame hc
    rw [Selector.stageCond, hs] at hc
    refine ⟨hc, ?_⟩
    rw [← hel, State.stageEligible, State.stageEligible, Selector.staged, Selector.staged, hs]
    split
    · exact (State.eligible_congr hstanding ha _).symm
    · rfl
  · obtain ⟨hitems, hsol, hfirst⟩ := hgw (hrole ▸ hg)
    rw [hbuild, hstanding, hdrain, hsolicit, hframes]
    refine ⟨fun hb hm i hi => ?_, hsol, fun f g n hf => hfirst f g n ?_⟩
    · rw [Selector.announces, hframes]
      exact hitems hb hm i hi
    · rw [← (hsame (Selector.stageCond_eq_staged.2 ⟨f, hf⟩)).1, hf]

section
variable {s : State}

theorem State.commit_settled (h : s.settled) : s.commit.settled := by
  rcases s.commit_sel with ⟨k, -⟩ | ⟨f, hf, k⟩ <;> rw [k]
  · exact h
  · exact h.mono rfl rfl rfl rfl rfl rfl rfl (.inr ⟨le_rfl, _, .committed, hf, nofun, rfl⟩)

theorem State.engineSettle_settled (h : s.settled) : s.engineSettle.settled := by
  rcases s.engineSettle_cases with k | ⟨-, -, -, -, k⟩ | ⟨-, -, -, -, -, -, k⟩ <;> rw [k]
  · exact h
  · exact State.commit_settled h
  · exact h

theorem State.beginField_settled (h : s.settled) : s.beginField.settled := by
  unfold State.beginField
  change (if s.stageEligible then s.commit else s).settled
  split
  · exact State.commit_settled h
  · exact h

theorem State.fieldLost_settled (h : s.settled) : s.fieldLost.settled := by
  by_cases hc : s.sel.stageCond = some .committed
  · obtain ⟨f, hf⟩ := Selector.stageCond_eq_committed.1 hc
    rw [State.fieldLost_of_committed hf]
    exact State.selectorSettle_settled _
  · rwa [State.fieldLost_of_not hc]

theorem State.setMonitor_settled (m : Monitor) (h : s.settled) : (s.setMonitor m).settled := by
  rcases s.setMonitor_cases m with ⟨hsame, k⟩ | ⟨-, -, k⟩ | ⟨-, -, -, k⟩ | ⟨-, -, -, k⟩ <;> rw [k]
  · exact h.mono rfl rfl hsame rfl rfl rfl rfl (.inl ⟨rfl, rfl⟩)
  all_goals exact State.selectorSettle_settled _

theorem State.echoOutcome_settled (echoed : Bool) (h : s.settled) : (s.echoOutcome echoed).settled := by
  by_cases hc : s.sel.stageCond = some .sending
  · obtain ⟨f, hf⟩ := Selector.stageCond_eq_sending.1 hc
    rw [s.echoOutcome_of_sending echoed hf]
    exact State.selectorSettle_settled _
  · rwa [s.echoOutcome_of_not echoed hc]

theorem State.takeOutcome_settled (echoed first : Bool) (h : s.settled) : (s.takeOutcome echoed first).settled := by
  unfold State.takeOutcome
  split
  · exact State.echoOutcome_settled _ (State.setMonitor_settled _ h)
  · exact State.setMonitor_settled _ (State.echoOutcome_settled _ h)

theorem State.startLinger_settled (h : s.settled) : s.startLinger.settled := by
  unfold State.startLinger
  split <;> exact h

theorem State.frameEnd_settled (carrier : Bool) (h : s.settled) : (s.frameEnd carrier).settled :=
  State.startLinger_settled (s := { s with eng := s.eng.enterAwake carrier }) h

theorem State.leaveOff_settled (h : s.settled) : s.leaveOff.settled := by
  unfold State.leaveOff
  split <;> exact h

/-- What a won field leaves of the slots and counts: the frame SENDING, and no more allowance than before (R130). -/
theorem State.fieldWon_sel {x : StageSlot} (h : s.sel.stage = some x) :
    s.fieldWon.sel.stage = some { x with cond := .sending } ∧ s.fieldWon.sel.build = s.sel.build ∧
      s.fieldWon.sel.allowance ≤ s.sel.allowance ∧ s.fieldWon.sel.refillCount = s.sel.refillCount ∧
      s.fieldWon.table = s.table ∧ s.fieldWon.mon.standing = s.mon.standing := by
  unfold State.fieldWon State.spend
  rw [h]
  dsimp only
  (repeat' split) <;> exact ⟨rfl, rfl, by simp, rfl, rfl, rfl⟩

end

/-- A START from UNCONFIGURED finds nothing OWED, listed or pending (R178). -/
theorem State.startRunning_settled {s : State} (c : HeldConfig) (mask : FlagSet) (hrun : s.running = false)
    (hclear : s.clearedOk) : (s.startRunning c mask).settled := by
  obtain ⟨-, -, -, htable, -, hsel, -, -, -, hdrain, hsolicit, -⟩ := hclear.2 hrun
  rw [State.startRunning_eq]
  refine fun _ => ⟨fun _ _ e he hfill => ?_, fun _ => ⟨fun _ _ i hi => ?_, fun _ _ p hp => ?_, fun f g n hf => ?_⟩⟩
  · simp only [prepareTable] at he
    obtain ⟨x, hx, rfl⟩ := List.mem_map.1 he
    have hx : x ∈ s.table := by
      split at hx
      · exact List.mem_of_mem_filter hx
      · exact hx
    exact (htable x hx).2.1 hfill.1
  · simp [hdrain] at hi
  · simp [hsolicit] at hp
  · simp [hsel, Selector.reset] at hf

theorem does_settled {c : Instr} {s u : State} (h : Does c s u) (hs : s.settled) (hclear : s.clearedOk) : u.settled := by
  induction h with
  | @start args s hrun hlen hfield => exact State.startRunning_settled _ _ hrun hclear
  | restart hrun => exact fun k => absurd k (by simp [State.restartRunning])
  | hardReset => exact fun k => absurd k (by simp [State.reset])
  | issue => exact State.engineSettle_settled (State.hear_settled _ _)
  | @solicit args s bin mask maxClass hmax hrun hrole =>
    obtain ⟨-, -, -, -, -, -, v, -, h⟩ := s.solicitAct_eq bin mask maxClass
    rw [h]
    exact State.engineSettle_settled (State.selectorSettle_settled _)
  | complete hhand => exact State.engineSettle_settled (State.selectorSettle_settled _)
  | noBoundary hrun => exact hs
  | @boundary s hrun hdue =>
    refine State.engineSettle_settled ?_
    have hheard := State.hear_settled (State.sweep { s with boundaryDue := false }).1
      (State.sweep { s with boundaryDue := false }).2
    refine hheard.mono ?_ ?_ ?_ ?_ ?_ ?_ ?_ (.inl ⟨?_, ?_⟩) <;>
      (unfold State.countProbe State.countBoundary; (repeat' split) <;> rfl)
  | refill => exact State.engineSettle_settled (State.selectorSettle_settled _)
  | probe => exact State.engineSettle_settled (State.selectorSettle_settled _)
  | carrierSeen => exact State.frameEnd_settled _ hs
  | windowAwake => exact State.frameEnd_settled _ hs
  | lingerExpiry => exact State.engineSettle_settled hs
  | fallField => exact State.beginField_settled hs
  | fallAwake => exact State.engineSettle_settled hs
  | gap => exact State.engineSettle_settled hs
  | wakeEndLow => exact State.beginField_settled hs
  | wakingFall => exact State.beginField_settled hs
  | wakingCap => exact State.engineSettle_settled (State.fieldLost_settled hs)
  | @slotLost s carrier => exact State.fieldLost_settled (s := { s with eng := _ }) hs
  | @contentionLost s => exact State.fieldLost_settled (s := { s with eng := _ }) hs
  | @won s x hstate hcontends hstage =>
    obtain ⟨hx, hbuild, hle, -, htable, hstanding⟩ := State.fieldWon_sel hstage
    exact hs.mono (by simp) (by simp) hstanding hbuild htable (by simp) (by simp)
      (.inr ⟨hle, x, .sending, hstage, nofun, hx⟩)
  | markWait => exact State.engineSettle_settled hs
  | @goodFrame rxd first s f =>
    have hhanded : (s.handOver f).settled := hs.mono (by simp) (by simp) (by simp) (by simp) (by simp) (by simp) (by simp)
      (.inl ⟨by simp, by simp⟩)
    exact State.setMonitor_settled ((s.handOver f).mon.good (decide (f.sender = s.cfg.stationId))) hhanded
  | @badFrame rxd carrier s =>
    exact State.engineSettle_settled (State.frameEnd_settled (s := { s.monitorBad with eng := _ }) _
      (State.setMonitor_settled s.mon.bad hs))
  | echoSlotEnd => exact State.engineSettle_settled (State.frameEnd_settled _ hs)
  | awaitEchoEnd => exact State.engineSettle_settled (State.frameEnd_settled _ (State.takeOutcome_settled _ _ hs))
  | @tailEndLeave s => exact State.leaveOff_settled (s := { s with eng := _ }) hs
  | merge => exact State.engineSettle_settled (State.hear_settled _ _)
  | _ => exact hs

/-! ### The settled engine -/

theorem Standing.gap_eq (m : Standing) : m.gap = m.requires := by cases m <;> rfl

/-- What the engine does of itself leaves it settled (R6, R8). -/
theorem State.engineSettle_engineSettled (s : State) : s.engineSettle.engineSettled := by
  unfold State.engineSettle
  split
  · next hawake =>
    split
    · next helig =>
      split
      · exact fun k => absurd k (by simp [State.enterWaking])
      · next hgap =>
        exact fun _ _ => ⟨fun _ => by rw [← Standing.gap_eq]; omega, fun k => by rw [helig] at k; cases k⟩
    · next helig =>
      split
      · exact fun k => absurd k (by simp [Engine.enterDoze])
      · next hstay =>
        refine fun _ _ => ⟨fun k => absurd k helig, fun _ hrole hlinger => ?_⟩
        by_contra hrec
        exact hstay ⟨hrole, hlinger, by simpa using hrec⟩
  · next hnot => exact fun ha hc => absurd ⟨ha, hc⟩ hnot

/-- An engine elsewhere than in AWAKE, or with CARRIER high, has nothing to do of itself. -/
theorem State.engineSettled_of {s : State} (h : s.eng.state ≠ .awake ∨ s.eng.carrier = true) : s.engineSettled :=
  fun ha hc => h.elim (fun k => absurd ha k) fun k => by rw [hc] at k; cases k

/-- Nothing the settled engine looks at has moved. -/
theorem State.engineSettled.mono {s t : State} (h : s.engineSettled) (heng : t.eng = s.eng) (hcfg : t.config = s.config)
    (hstanding : t.mon.standing = s.mon.standing) (hstage : t.sel.stage = s.sel.stage)
    (hallowance : t.sel.allowance = s.sel.allowance) : t.engineSettled := by
  have hrole : t.role = s.role := by rw [State.role, State.cfg, hcfg]; rfl
  have helig : t.stageEligible = s.stageEligible := by
    rw [State.stageEligible, State.stageEligible, Selector.staged, Selector.staged, hstage]
    split
    · exact State.eligible_congr hstanding hallowance _
    · rfl
  rw [State.engineSettled, heng, helig, hrole, hstanding]
  exact h

/-- Newly in AWAKE, with no measure and no eligible frame unless there is one (R5). -/
theorem State.engineSettled_fresh {s : State} (hgap : s.eng.idleGap = 0)
    (h : s.stageEligible = true ∨ s.eng.lingerExpired = false ∨ s.role = .gateway) : s.engineSettled := by
  refine fun _ _ => ⟨fun _ => ?_, fun hnot hrole hlinger => ?_⟩
  · rw [hgap, Standing.requires]
    split <;> decide
  · rw [hnot, hlinger, hrole] at h
    simp at h

theorem State.leaveOff_engineSettled (s : State) : s.leaveOff.engineSettled := by
  unfold State.leaveOff
  split
  · exact State.engineSettled_of (.inl (by simp [Engine.enterDoze]))
  · next hrole => exact State.engineSettled_fresh rfl (.inr (.inr hrole))

theorem does_engineSettled {c : Instr} {s u : State} (h : Does c s u) (hs : s.engineSettled) (hclear : s.clearedOk) :
    u.engineSettled := by
  induction h with
  | @start args s hrun hlen hfield =>
    have hoff := (hclear.2 hrun).1
    rw [State.startRunning_eq]
    unfold State.startEngine
    split
    · split
      · exact State.engineSettled_of (.inl (by simp [Engine.enterDoze]))
      · next hrole => exact State.engineSettled_fresh rfl (.inr (.inr hrole))
    · exact State.engineSettled_of (.inl (by simp [hoff]))
  | @restart args n s hrun =>
    refine State.engineSettled_of (.inl ?_)
    change (s.eng.restart n).state ≠ .awake
    unfold Engine.restart
    split
    · next hoff => simp [hoff]
    · exact nofun
    · exact nofun
  | hardReset => exact State.engineSettled_of (.inl (by simp [Engine.reset]))
  | issue => exact State.engineSettle_engineSettled _
  | @solicit args s bin mask maxClass hmax hrun hrole =>
    obtain ⟨-, -, -, -, -, -, v, -, h⟩ := s.solicitAct_eq bin mask maxClass
    rw [h]
    exact State.engineSettle_engineSettled _
  | complete hhand => exact State.engineSettle_engineSettled _
  | boundary => exact State.engineSettle_engineSettled _
  | refill => exact State.engineSettle_engineSettled _
  | probe => exact State.engineSettle_engineSettled _
  | listenExpiry => exact State.engineSettled_of (.inl nofun)
  | @carrierSeen s => exact State.engineSettled_of (.inr (by simp [State.frameEnd, Engine.enterAwake]))
  | @windowAwake s hstate helig =>
    refine State.engineSettled_fresh ?_ (.inl ?_)
    · unfold State.frameEnd State.startLinger
      split <;> rfl
    · unfold State.frameEnd State.startLinger
      split <;> exact helig
  | windowDoze => exact State.engineSettled_of (.inl nofun)
  | lingerExpiry => exact State.engineSettle_engineSettled _
  | riseAwake => exact State.engineSettled_of (.inr rfl)
  | rise => exact State.engineSettled_of (.inr rfl)
  | recognised => exact fun ha hc => ⟨(hs ha hc).1, fun _ _ _ => rfl⟩
  | fallField => exact State.engineSettled_of (.inl nofun)
  | fallAwake => exact State.engineSettle_engineSettled _
  | @fall s hnot =>
    refine fun ha _ => hs ha ?_
    by_contra hc
    exact hnot ⟨ha, by simpa using hc⟩
  | gap => exact State.engineSettle_engineSettled _
  | @wakeEndHigh s hstate => exact State.engineSettled_of (.inr rfl)
  | wakeEndLow => exact State.engineSettled_of (.inl nofun)
  | wakingFall => exact State.engineSettled_of (.inl nofun)
  | wakingCap => exact State.engineSettle_engineSettled _
  | @slot s carrier hstate => exact State.engineSettled_of (.inl (by simp [Engine.inSlot, hstate]))
  | @slotLost s carrier hstate => exact State.engineSettled_of (.inl (by simp [State.loseField, Engine.inSlot, hstate]))
  | @contentionLost s hstate => exact State.engineSettled_of (.inl (by simp [State.loseField, hstate]))
  | won => exact State.engineSettled_of (.inl nofun)
  | receiving => exact State.engineSettled_of (.inl nofun)
  | closingMark => exact State.engineSettled_of (.inl nofun)
  | @openingMark rxd s hstate => exact State.engineSettled_of (.inl (by simp [hstate]))
  | markWait => exact State.engineSettle_engineSettled _
  | @goodFrame rxd first s f => exact State.engineSettled_of (.inl nofun)
  | badFrame => exact State.engineSettle_engineSettled _
  | echoSlotEnd => exact State.engineSettle_engineSettled _
  | awaitEchoEnd => exact State.engineSettle_engineSettled _
  | tailEndLeave => exact State.leaveOff_engineSettled _
  | merge => exact State.engineSettle_engineSettled _
  | _ => exact hs

/-! ### The engine behind the selector -/

/-- What the engine does of itself in `u` is what it does in the step from `s`, whose engine and standing `u` has. -/
theorem State.engineFollows_of {s u : State} (heng : u.eng = s.eng) (hstanding : u.mon.standing = s.mon.standing)
    (hcfg : u.config = s.config) : s.engineFollows u.engineSettle := by
  rcases u.engineSettle_cases with h | ⟨hawake, hcarrier, helig, hgap, h⟩ |
    ⟨hawake, hcarrier, helig, hrole, hlinger, hrec, h⟩ <;> rw [h]
  · exact .inl heng
  · obtain ⟨f, hf, hel⟩ := State.stageEligible_iff.1 helig
    rw [State.enterWaking_of_staged hf]
    rw [heng] at hawake hcarrier hgap
    rw [hstanding, Standing.gap_eq] at hgap
    exact .inr ⟨hawake, hcarrier, .inl ⟨hgap, by rw [← heng], f, rfl, hel⟩⟩
  · rw [heng] at hawake hcarrier hlinger hrec
    have hc : u.cfg = s.cfg := by rw [State.cfg, hcfg]; rfl
    refine .inr ⟨hawake, hcarrier, .inr ⟨?_, hlinger, hrec, helig, ?_⟩⟩
    · rw [State.role, ← hc]
      exact hrole
    · rw [hc, heng]
      rfl

theorem does_engineFollows {c : Instr} {s u : State} (hc : reachesEngineBySelector c) (h : Does c s u) :
    s.engineFollows u := by
  cases h with
  | issue range flags =>
    obtain ⟨-, -, -, heng, hstanding, -, hcfg⟩ := s.sampleIssue_same range flags
    exact State.engineFollows_of (by simpa using heng) (by simpa using hstanding) (by simpa using hcfg)
  | solicit bin mask hmax hrun hrole =>
    rename_i maxClass
    obtain ⟨u, -, heng, hmon, -, hcfg, v, huv, h⟩ := s.solicitAct_eq bin mask maxClass
    rw [h]
    exact State.engineFollows_of (by simp [huv.eng, heng]) (by simp [huv.mon, hmon]) (by simp [huv.config, hcfg])
  | complete hhand =>
    rename_i b r
    obtain ⟨u, -, heng, hmon, -, hcfg, huv⟩ := State.deliver_reselects { s with port := { s.port with resultAt := none } } b r
    exact State.engineFollows_of (by simp [huv.eng, heng]) (by simp [huv.mon, hmon]) (by simp [huv.config, hcfg])
  | boundary =>
    refine State.engineFollows_of ?_ ?_ ?_ <;>
      (unfold State.countProbe State.countBoundary; (repeat' split) <;> simp [State.sweep])
  | refill => exact State.engineFollows_of (by simp) (by simp) (by simp)
  | probe => exact State.engineFollows_of (by simp) (by simp) (by simp)
  | merge hmerging =>
    rename_i m
    obtain ⟨-, -, -, heng, hstanding, -, hcfg⟩ := s.mergePart_same m
    exact State.engineFollows_of (by simpa using heng) (by simpa using hstanding) (by simpa using hcfg)
  | nothing => exact .inl rfl
  | sample => exact .inl rfl
  | noBoundary => exact .inl rfl
  | _ => simp [reachesEngineBySelector] at hc

end Sys2Proof.Machine
end

section
open Sys2Proof Sys2Proof.Machine

/-- Settles O57: each effect of a command keeps the slots in accord with the engine, and leaves selector and engine
settled. -/
theorem slotsInvariant : Obligations.SlotsInvariant := by
  refine ⟨fun s t hs hclear hlines h => ?_, fun s t hs hclear h => ?_, fun s t hs hclear h => ?_, fun c s t hc h => ?_⟩
  · exact step_induction (P := fun s => s.slotsOk ∧ s.clearedOk ∧ s.eng.linesOk) (Q := State.slotsOk)
      (fun u t hut hu => by rw [hut]; exact hu) (fun s _ h => h) (fun h => h.1)
      (fun c s u ⟨hs, hclear, hlines⟩ hdoes => does_slotsOk hdoes hs hclear hlines) ⟨hs, hclear, hlines⟩ h
  · exact step_induction (P := fun s => s.settled ∧ s.clearedOk) (Q := State.settled)
      (fun u t hut hu => by rw [hut]; exact hu) (fun s _ h => h) (fun h => h.1)
      (fun c s u ⟨hs, hclear⟩ hdoes => does_settled hdoes hs hclear) ⟨hs, hclear⟩ h
  · exact step_induction (P := fun s => s.engineSettled ∧ s.clearedOk) (Q := State.engineSettled)
      (fun u t hut hu => by rw [hut]; exact hu) (fun s _ h => h) (fun h => h.1)
      (fun c s u ⟨hs, hclear⟩ hdoes => does_engineSettled hdoes hs hclear) ⟨hs, hclear⟩ h
  · obtain ⟨u, hu, hut⟩ := exec_does h
    have hfollows := does_engineFollows hc hu
    rw [hut]
    exact hfollows

end

section
/-! PROOFS. The radio lines beside the engine's state, and the cleared blocks, through every step (O55). -/

namespace Sys2Proof.Machine

/-! ### The radio lines (R1, R2) -/

section
variable {e : Engine}

theorem Engine.linesOk.tail_eq_nil (h : e.linesOk) (hstate : e.state ≠ .off) : e.tail = [] :=
  by_contra fun hne => hstate (h.1 hne)

theorem Engine.enterOff_linesOk (tail : List Bool) : (e.enterOff tail).linesOk := by
  cases tail <;> simp [Engine.linesOk, Engine.enterOff]

theorem Engine.enterDoze_linesOk (period : Nat) (h : e.tail = []) : (e.enterDoze period).linesOk := by
  simp [Engine.linesOk, Engine.enterDoze, h]

theorem Engine.enterAwake_linesOk (carrier : Bool) (h : e.tail = []) : (e.enterAwake carrier).linesOk := by
  simp [Engine.linesOk, Engine.enterAwake, h]

/-- In WAKING, a field and ECHOING the engine keys plain carrier or nothing. -/
theorem Engine.keying_linesOk (on : Bool) (htail : e.tail = []) (hradio : e.radioEn = true)
    (hstate : e.state ∈ [EngineState.waking, .field, .echoing]) : (e.keying on).linesOk := by
  simp only [List.mem_cons, List.not_mem_nil, or_false] at hstate
  rcases hstate with h | h | h <;> cases on <;> simp [Engine.linesOk, Engine.keying, htail, hradio, h]

theorem Engine.linesOk.radioEn (h : e.linesOk) (hoff : e.state ≠ .off) (hdoze : e.state ≠ .doze) : e.radioEn = true :=
  h.2.1.2 (.inl ⟨hoff, hdoze⟩)

/-- The lines stand with everything else of the engine that is not theirs. -/
theorem Engine.linesOk.congr {e' : Engine} (h : e.linesOk) (hstate : e'.state = e.state) (htail : e'.tail = e.tail)
    (hradio : e'.radioEn = e.radioEn) (hkey : e'.key = e.key) (htxd : e'.txd = e.txd) : e'.linesOk := by
  unfold Engine.linesOk
  rwa [hstate, htail, hradio, hkey, htxd]

end

section
variable {s : State}

theorem State.startLinger_linesOk (h : s.eng.linesOk) : s.startLinger.eng.linesOk := by
  unfold State.startLinger
  split
  · exact h.congr rfl rfl rfl rfl rfl
  · exact h

theorem State.frameEnd_linesOk (carrier : Bool) (h : s.eng.tail = []) : (s.frameEnd carrier).eng.linesOk :=
  State.startLinger_linesOk (Engine.enterAwake_linesOk carrier h)

theorem State.enterWaking_linesOk (h : s.eng.linesOk) (hstate : s.eng.state = .awake) : s.enterWaking.eng.linesOk := by
  refine Engine.keying_linesOk true ?_ ?_ (by simp)
  · simpa using h.tail_eq_nil (by simp [hstate])
  · simpa using h.radioEn (by simp [hstate]) (by simp [hstate])

theorem State.engineSettle_linesOk (h : s.eng.linesOk) : s.engineSettle.eng.linesOk := by
  rcases s.engineSettle_cases with k | ⟨hawake, -, -, -, k⟩ | ⟨hawake, -, -, -, -, -, k⟩ <;> rw [k]
  · exact h
  · exact State.enterWaking_linesOk h hawake
  · exact Engine.enterDoze_linesOk _ (h.tail_eq_nil (by simp [hawake]))

theorem State.beginField_linesOk (h : s.eng.linesOk) (hstate : s.eng.state ≠ .off) : s.beginField.eng.linesOk := by
  refine Engine.keying_linesOk false ?_ rfl (by simp)
  dsimp only
  split <;> simpa using h.tail_eq_nil hstate

theorem State.leaveOff_linesOk (h : s.eng.tail = []) : s.leaveOff.eng.linesOk := by
  unfold State.leaveOff
  split
  · exact Engine.enterDoze_linesOk _ h
  · exact Engine.enterAwake_linesOk _ h

theorem State.startEngine_linesOk {c : HeldConfig} (h : s.eng.linesOk) : (s.startEngine c).linesOk := by
  unfold State.startEngine
  split
  · next htail =>
    split
    · exact Engine.enterDoze_linesOk _ htail
    · exact Engine.enterAwake_linesOk _ htail
  · exact h

theorem State.loseField_linesOk (h : s.eng.linesOk) : s.loseField.eng.linesOk := by
  simpa [State.loseField] using h.congr (e' := { s.eng with part := .lost, lost := bump Config.count32Max s.eng.lost })
    rfl rfl rfl rfl rfl

theorem does_linesOk {c : Instr} {s u : State} (h : Does c s u) (hs : s.eng.linesOk) : u.eng.linesOk := by
  induction h with
  | start hrun =>
    rw [State.startRunning_eq]
    exact State.startEngine_linesOk hs
  | @restart args n s hrun =>
    change (s.eng.restart n).linesOk
    unfold Engine.restart
    split
    · exact hs
    · exact Engine.enterOff_linesOk _
    · exact Engine.enterOff_linesOk _
  | @issue args s range flags =>
    refine State.engineSettle_linesOk ?_
    rwa [(State.hear_reselects _ _).eng, (s.sampleIssue_same range flags).2.2.2.1]
  | @solicit args s bin mask maxClass =>
    obtain ⟨u, -, heng, -, -, -, v, huv, h⟩ := s.solicitAct_eq bin mask maxClass
    rw [h]
    refine State.engineSettle_linesOk ?_
    rwa [(State.selectorSettle_reselects _).eng, huv.eng, heng]
  | @complete s b r =>
    obtain ⟨u, -, heng, -, -, -, huv⟩ := State.deliver_reselects { s with port := { s.port with resultAt := none } } b r
    refine State.engineSettle_linesOk ?_
    rwa [(State.selectorSettle_reselects _).eng, huv.eng, heng]
  | hardReset => simp [Engine.linesOk, Engine.reset]
  | @boundary s =>
    refine State.engineSettle_linesOk ?_
    unfold State.countProbe State.countBoundary
    (repeat' split) <;> simpa [State.sweep] using hs
  | refill => exact State.engineSettle_linesOk (by simpa using hs)
  | probe => exact State.engineSettle_linesOk (by simpa using hs)
  | listenExpiry hstate =>
    have htail := hs.tail_eq_nil (by simp [hstate])
    have hkey := hs.2.2.2.1 (by simp [hstate])
    simp [Engine.linesOk, htail, hkey]
  | carrierSeen hstate => exact State.frameEnd_linesOk _ (hs.tail_eq_nil (by simp [hstate]))
  | windowAwake hstate => exact State.frameEnd_linesOk _ (hs.tail_eq_nil (by simp [hstate]))
  | windowDoze hstate => exact Engine.enterDoze_linesOk _ (hs.tail_eq_nil (by simp [hstate]))
  | lingerExpiry => exact State.engineSettle_linesOk hs
  | fallField hstate => exact State.beginField_linesOk hs (by simp [hstate])
  | fallAwake => exact State.engineSettle_linesOk hs
  | gap => exact State.engineSettle_linesOk hs
  | wakeEndHigh hstate =>
    exact Engine.keying_linesOk false (hs.tail_eq_nil (by simp [hstate])) (hs.radioEn (by simp [hstate]) (by simp [hstate]))
      (by simp [hstate])
  | wakeEndLow hstate => exact State.beginField_linesOk hs (by simp [hstate])
  | wakingFall hstate => exact State.beginField_linesOk hs (by simp [hstate])
  | @wakingCap s hstate =>
    refine State.engineSettle_linesOk ?_
    simpa using Engine.enterAwake_linesOk true (hs.tail_eq_nil (by simp [hstate]))
  | @slot s carrier hstate =>
    exact Engine.keying_linesOk _ (hs.tail_eq_nil (by simp [hstate])) (hs.radioEn (by simp [hstate]) (by simp [hstate]))
      (by simp [hstate])
  | @slotLost s carrier hstate =>
    refine State.loseField_linesOk ?_
    exact Engine.keying_linesOk _ (hs.tail_eq_nil (by simp [hstate])) (hs.radioEn (by simp [hstate]) (by simp [hstate]))
      (by simp [hstate])
  | contentionLost => exact State.loseField_linesOk (hs.congr rfl rfl rfl rfl rfl)
  | won hstate =>
    have htail := hs.tail_eq_nil (by simp [hstate])
    have hradio := hs.radioEn (by simp [hstate]) (by simp [hstate])
    simp [Engine.linesOk, Engine.enterSending, htail, hradio]
  | receiving hstate =>
    have htail := hs.tail_eq_nil (by simp [hstate])
    have hradio := hs.radioEn (by simp [hstate]) (by simp [hstate])
    simp [Engine.linesOk, Engine.enterReceiving, Engine.keying, htail, hradio]
  | closingMark hstate =>
    have htail := hs.tail_eq_nil (by simp [hstate])
    have hradio := hs.radioEn (by simp [hstate]) (by simp [hstate])
    simp [Engine.linesOk, Engine.keying, htail, hradio]
  | markWait hstate => exact State.engineSettle_linesOk (Engine.enterAwake_linesOk _ (hs.tail_eq_nil (by simp [hstate])))
  | @goodFrame rxd first s f hstate =>
    refine Engine.keying_linesOk _ ?_ ?_ (by simp)
    · simpa using hs.tail_eq_nil (by simp [hstate])
    · simpa using hs.radioEn (by simp [hstate]) (by simp [hstate])
  | badFrame hstate =>
    exact State.engineSettle_linesOk (State.frameEnd_linesOk _ (by simpa using hs.tail_eq_nil (by simp [hstate])))
  | echoSlotEnd hstate =>
    exact State.engineSettle_linesOk (State.frameEnd_linesOk _ (hs.tail_eq_nil (by simp [hstate])))
  | awaitEchoEnd hstate =>
    exact State.engineSettle_linesOk (State.frameEnd_linesOk _ (by simpa using hs.tail_eq_nil (by simp [hstate])))
  | tailEnd htail => simp [Engine.linesOk, hs.1 htail]
  | tailEndLeave => exact State.leaveOff_linesOk rfl
  | @merge s m =>
    refine State.engineSettle_linesOk ?_
    rw [(State.hear_reselects _ _).eng]
    exact (s.mergePart_same m).2.2.2.1 ▸ hs
  | _ => exact hs

end

/-! ### The cleared blocks (R2, R174, R178) -/

theorem Engine.offClear_of_state {e : Engine} (h : e.state ≠ .off) : e.offClear := fun k => absurd k h

section
variable {s : State}

/-- A station whose engine is not in OFF is RUNNING. -/
theorem State.clearedOk.running (h : s.clearedOk) (hstate : s.eng.state ≠ .off) : s.running = true := by
  by_contra hrun
  exact hstate (h.2 (by simpa using hrun)).1

/-- Of a running station nothing but its engine in OFF is to be clear. -/
theorem State.clearedOk_of_running (hrun : s.running = true) (h : s.eng.offClear) : s.clearedOk :=
  ⟨h, fun k => absurd (k.symm.trans hrun) (by simp)⟩

/-- What the engine does of itself does not take it to OFF. -/
theorem State.engineSettle_offClear (h : s.eng.offClear) : s.engineSettle.eng.offClear := by
  rcases s.engineSettle_cases with k | ⟨-, -, -, -, k⟩ | ⟨-, -, -, -, -, -, k⟩ <;> rw [k]
  · exact h
  · exact Engine.offClear_of_state (by simp [State.enterWaking])
  · exact Engine.offClear_of_state (by simp [Engine.enterDoze])

theorem State.engineSettle_clearedOk (hrun : s.running = true) (h : s.eng.offClear) : s.engineSettle.clearedOk :=
  State.clearedOk_of_running (by simpa using hrun) (State.engineSettle_offClear h)

theorem State.frameEnd_offClear (carrier : Bool) : (s.frameEnd carrier).eng.offClear :=
  Engine.offClear_of_state (by simp [State.frameEnd_eng])

theorem State.startEngine_offClear {c : HeldConfig} (h : s.eng.offClear) : (s.startEngine c).offClear := by
  unfold State.startEngine
  split
  · split
    · exact Engine.offClear_of_state (by simp [Engine.enterDoze])
    · exact Engine.offClear_of_state (by simp [Engine.enterAwake])
  · exact h

/-- RESTART of a running station clears every block (R178). -/
theorem State.restartRunning_clearedOk (n : Nat) (h : s.eng.offClear) : (s.restartRunning n).clearedOk := by
  have heng : (s.eng.restart n).state = .off ∧ (s.eng.restart n).offClear := by
    unfold Engine.restart
    split
    · next hoff => exact ⟨hoff, h⟩
    · exact ⟨rfl, fun _ => ⟨rfl, rfl, rfl, rfl, rfl, rfl, rfl⟩⟩
    · exact ⟨rfl, fun _ => ⟨rfl, rfl, rfl, rfl, rfl, rfl, rfl⟩⟩
  refine ⟨heng.2, fun _ => ⟨heng.1, rfl, rfl, fun e he => ?_, rfl, rfl, rfl, rfl, rfl, rfl, rfl, rfl⟩⟩
  obtain ⟨x, hx, rfl⟩ := List.mem_map.1 (show e ∈ restartTable s.table from he)
  have hown := (List.mem_filter.1 hx).2
  refine ⟨by simpa using hown, ?_, rfl, rfl, rfl⟩
  dsimp only
  split
  · nofun
  · assumption

theorem State.reset_clearedOk : State.reset.clearedOk :=
  ⟨fun _ => ⟨rfl, rfl, rfl, rfl, rfl, rfl, rfl⟩,
    fun _ => ⟨rfl, rfl, rfl, List.forall_mem_nil _, rfl, rfl, rfl, rfl, rfl, rfl, rfl, rfl⟩⟩

theorem does_clearedOk {c : Instr} {s u : State} (h : Does c s u) (hs : s.clearedOk) : u.clearedOk := by
  obtain ⟨hoff, hcleared⟩ := id hs
  induction h with
  | start hrun =>
    rw [State.startRunning_eq]
    exact State.clearedOk_of_running rfl (State.startEngine_offClear hoff)
  | restart hrun => exact State.restartRunning_clearedOk _ hoff
  | rejoin hrun => exact State.clearedOk_of_running hrun hoff
  | sample _ _ hrun => exact State.clearedOk_of_running hrun hoff
  | @issue args s range flags hrun =>
    obtain ⟨-, -, -, heng, -, hrun', -⟩ := s.sampleIssue_same range flags
    exact State.engineSettle_clearedOk (by simp [hrun', hrun]) (by simpa [heng] using hoff)
  | @solicit args s bin mask maxClass hmax hrun =>
    obtain ⟨u, -, heng, -, hrun', -, v, huv, h⟩ := s.solicitAct_eq bin mask maxClass
    rw [h]
    exact State.engineSettle_clearedOk (by simp [huv.running, hrun', hrun]) (by simpa [huv.eng, heng] using hoff)
  | handOut hrun => exact State.clearedOk_of_running hrun hoff
  | handNone hrun => exact State.clearedOk_of_running hrun hoff
  | @complete s b r hhand =>
    have hrun : s.running = true := by
      by_contra hrun
      obtain ⟨-, -, -, -, -, -, -, -, hnone, -⟩ := hcleared (by simpa using hrun)
      rw [hnone] at hhand
      cases hhand
    obtain ⟨u, -, heng, -, hrun', -, huv⟩ :=
      State.deliver_reselects { s with port := { s.port with resultAt := none } } b r
    have hsettled := (State.selectorSettle_reselects _).running.trans (huv.running.trans (hrun'.trans hrun))
    exact State.engineSettle_clearedOk hsettled (by simpa [huv.eng, heng] using hoff)
  | cutShort =>
    refine ⟨hoff, fun hrun => ?_⟩
    obtain ⟨hstate, hmerging, hwaiting, htable, hest, hsel, hmon, hqueue, -, hrest⟩ := hcleared hrun
    exact ⟨hstate, hmerging, hwaiting, htable, hest, hsel, hmon, hqueue, rfl, hrest⟩
  | clear _ hrun => exact State.clearedOk_of_running hrun hoff
  | hardReset => exact State.reset_clearedOk
  | boundary hrun =>
    refine State.engineSettle_clearedOk ?_ ?_ <;> unfold State.countProbe State.countBoundary <;> (repeat' split) <;>
      simpa [State.sweep]
  | refill hrun => exact State.engineSettle_clearedOk (by simpa using hrun) (by simpa using hoff)
  | probe hrun => exact State.engineSettle_clearedOk (by simpa using hrun) (by simpa using hoff)
  | listenExpiry hstate =>
    exact State.clearedOk_of_running (hs.running (by simp [hstate])) (Engine.offClear_of_state (by simp))
  | carrierSeen hstate =>
    exact State.clearedOk_of_running (by simpa using hs.running (by simp [hstate])) (State.frameEnd_offClear _)
  | windowAwake hstate =>
    exact State.clearedOk_of_running (by simpa using hs.running (by simp [hstate])) (State.frameEnd_offClear _)
  | windowDoze hstate =>
    exact State.clearedOk_of_running (hs.running (by simp [hstate])) (Engine.offClear_of_state (by simp [Engine.enterDoze]))
  | @lingerExpiry s hlinger =>
    have hstate : s.eng.state ≠ .off := fun h => by
      obtain ⟨-, hnone, -⟩ := hoff h
      exact hlinger hnone
    exact State.engineSettle_clearedOk (hs.running hstate) (Engine.offClear_of_state hstate)
  | riseAwake hstate =>
    exact State.clearedOk_of_running (hs.running (by simp [hstate])) (Engine.offClear_of_state (by simp [hstate]))
  | recognised hstate =>
    exact State.clearedOk_of_running (hs.running (by simp [hstate])) (Engine.offClear_of_state (by simp [hstate]))
  | rxdAwake hstate =>
    exact State.clearedOk_of_running (hs.running (by simp [hstate])) (Engine.offClear_of_state (by simp [hstate]))
  | fallField hstate =>
    exact State.clearedOk_of_running (by simpa using hs.running (by simp [hstate]))
      (Engine.offClear_of_state (by simp [State.beginField]))
  | fallAwake hstate =>
    exact State.engineSettle_clearedOk (hs.running (by simp [hstate])) (Engine.offClear_of_state (by simp [hstate]))
  | gap hstate =>
    exact State.engineSettle_clearedOk (hs.running (by simp [hstate])) (Engine.offClear_of_state (by simp [hstate]))
  | wakeEndHigh hstate =>
    exact State.clearedOk_of_running (hs.running (by simp [hstate])) (Engine.offClear_of_state (by simp [hstate]))
  | wakeEndLow hstate =>
    exact State.clearedOk_of_running (by simpa using hs.running (by simp [hstate]))
      (Engine.offClear_of_state (by simp [State.beginField]))
  | wakingFall hstate =>
    exact State.clearedOk_of_running (by simpa using hs.running (by simp [hstate]))
      (Engine.offClear_of_state (by simp [State.beginField]))
  | wakingCap hstate =>
    exact State.engineSettle_clearedOk (by simpa using hs.running (by simp [hstate]))
      (Engine.offClear_of_state (by simp [Engine.enterAwake]))
  | slot hstate =>
    exact State.clearedOk_of_running (hs.running (by simp [hstate]))
      (Engine.offClear_of_state (by simp [Engine.inSlot, hstate]))
  | slotLost hstate =>
    exact State.clearedOk_of_running (by simpa using hs.running (by simp [hstate]))
      (Engine.offClear_of_state (by simp [State.loseField, Engine.inSlot, hstate]))
  | contentionLost hstate =>
    exact State.clearedOk_of_running (by simpa using hs.running (by simp [hstate]))
      (Engine.offClear_of_state (by simp [State.loseField, hstate]))
  | won hstate =>
    exact State.clearedOk_of_running (by simpa using hs.running (by simp [hstate]))
      (Engine.offClear_of_state (by simp [Engine.enterSending]))
  | receiving hstate =>
    exact State.clearedOk_of_running (hs.running (by simp [hstate]))
      (Engine.offClear_of_state (by simp [Engine.enterReceiving]))
  | closingMark hstate =>
    exact State.clearedOk_of_running (hs.running (by simp [hstate])) (Engine.offClear_of_state (by simp))
  | openingMark hstate =>
    exact State.clearedOk_of_running (hs.running (by simp [hstate])) (Engine.offClear_of_state (by simp [hstate]))
  | markWait hstate =>
    exact State.engineSettle_clearedOk (hs.running (by simp [hstate]))
      (Engine.offClear_of_state (by simp [Engine.enterAwake]))
  | goodFrame hstate =>
    exact State.clearedOk_of_running (by simpa [State.goodFrame] using hs.running (by simp [hstate]))
      (Engine.offClear_of_state (by simp [State.goodFrame, Engine.enterEchoing]))
  | badFrame hstate =>
    exact State.engineSettle_clearedOk (by simpa using hs.running (by simp [hstate])) (State.frameEnd_offClear _)
  | echoSlotEnd hstate =>
    exact State.engineSettle_clearedOk (by simpa using hs.running (by simp [hstate])) (State.frameEnd_offClear _)
  | awaitEchoEnd hstate =>
    exact State.engineSettle_clearedOk (by simpa using hs.running (by simp [hstate])) (State.frameEnd_offClear _)
  | tailEndLeave htail hrun =>
    refine State.clearedOk_of_running (by simpa using hrun) (Engine.offClear_of_state ?_)
    unfold State.leaveOff
    split
    · simp [Engine.enterDoze]
    · simp [Engine.enterAwake]
  | @merge s m hmerging =>
    have hrun : s.running = true := by
      by_contra hrun
      obtain ⟨-, hnone, -⟩ := hcleared (by simpa using hrun)
      rw [hnone] at hmerging
      cases hmerging
    obtain ⟨-, -, -, heng, -, hrun', -⟩ := s.mergePart_same m
    exact State.engineSettle_clearedOk (by simp [hrun', hrun]) (by simpa [heng] using hoff)
  | _ => exact ⟨hoff, hcleared⟩

end

end Sys2Proof.Machine
end

section
open Sys2Proof Sys2Proof.Machine

/-- Settles O55: each effect of a command keeps the lines and the cleared blocks. -/
theorem linesAndClearedInvariant : Obligations.LinesAndClearedInvariant := by
  refine ⟨fun s t hs h => ?_, fun s t hs h => ?_⟩
  · exact step_induction (P := fun s => s.eng.linesOk) (Q := fun s => s.eng.linesOk)
      (fun u t hut hu => by rw [hut]; exact hu) (fun s _ h => h) id (fun c s u hs hdoes => does_linesOk hdoes hs) hs h
  · exact step_induction (P := State.clearedOk) (Q := State.clearedOk)
      (fun u t hut hu => by rw [hut]; exact hu) (fun s _ h => h) id (fun c s u hs hdoes => does_clearedOk hdoes hs) hs h

end

section
/-! PROOFS. The configuration a station holds, and the counts it bounds, through every step (O56); the reset state (O52). -/

namespace Sys2Proof.Machine

/-! ### The configuration START holds is in range (R175, R176) -/

section
variable (args : List Byte)

theorem appliedConfig_clamped_within {r : ConfigRow} (hr : r ∈ clampedRows (appliedConfig args))
    (hrole : r.binOnly = false ∨ (appliedConfig args).role = .bin) : within r.lo r.hi r.held = true := by
  have hheld := appliedConfig_clamped args hr hrole
  have hrange : r.lo ≤ r.hi :=
    clampedRows_lo_le_hi _ r hr (hrole.imp_right fun hbin => (appliedConfig_imminentHorizon_le args hbin).trans (by decide))
  have hdflt : r.lo ≤ r.dflt ∧ r.dflt ≤ r.hi := by
    have hall : ∀ r ∈ clampedRows (appliedConfig args), (r.binOnly = false ∨ (appliedConfig args).imminentHorizon ≤ 1440) →
        r.lo ≤ r.dflt ∧ r.dflt ≤ r.hi := by simp [clampedRows]
    exact hall r hr (hrole.imp_right (appliedConfig_imminentHorizon_le args))
  rw [within, decide_eq_true_iff, hheld]
  split
  · exact hdflt
  · omega

/-- The checked fields of an accepted record. -/
theorem accepted_fields (h : (readRecord args).refusedField = none) :
    if recordIsBin args then
      validBinId (appliedConfig args).stationId = true ∧ fieldAt args 4 1 ≤ 3 ∧
        (200 ≤ fieldAt args 5 2 ∧ fieldAt args 5 2 ≤ 4000) ∧
        50 ≤ fieldAt args 7 2 ∧ fieldAt args 7 2 + 100 ≤ fieldAt args 5 2
    else validGatewayId (appliedConfig args).stationId = true := by
  have hstation : (appliedConfig args).stationId = (readRecord args).stationId := rfl
  have hrecord : (readRecord args).role = fieldAt args 0 1 ∧ (readRecord args).bytes = args := ⟨rfl, rfl⟩
  simp only [RawRecord.refusedField, hrecord] at h
  rw [hstation]
  unfold recordIsBin
  split_ifs at h ⊢ with h1 h2 h3 h4 h5 h6 h7 h8 <;> simp_all

theorem appliedConfig_inRange (h : (readRecord args).refusedField = none) : (appliedConfig args).inRange = true := by
  have hclamped := fun r hr => appliedConfig_clamped_within args (r := r) hr
  have hfields := accepted_fields args h
  simp only [clampedRows, List.forall_mem_cons, true_or, forall_const] at hclamped
  obtain ⟨hdue, hh1, hh2, hdelta, hbeat, hwake, hlinger, hage, hhop, hsuppress, hsend, hcapacity, hrefill, hprobe, -⟩ :=
    hclamped
  rw [HeldConfig.inRange, hwake, hage, hsend, hprobe]
  have hrole := appliedConfig_role args
  cases hbin : recordIsBin args with
  | false =>
    rw [hbin] at hrole hfields
    rw [hrole]
    simpa using hfields
  | true =>
    rw [hbin] at hrole hfields
    simp only [if_true] at hrole hfields
    obtain ⟨hid, hkind, hempty, hfull, happart⟩ := hfields
    have hbinrole : (Bool.true = false ∨ (appliedConfig args).role = .bin) := .inr hrole
    have hlisten : [250, 500, 1000, 2000].contains (appliedConfig args).listenPeriod = true := by
      rw [appliedConfig_listen_of_bin args hrole]
      by_cases hzero : fieldAt args 21 2 = 0
      · rw [hzero]
        rfl
      · exact List.contains_iff_mem.2 (listenField_nearest _ hzero).1
    have hheld : (appliedConfig args).kindCode = fieldAt args 4 1 ∧ (appliedConfig args).emptyDist = fieldAt args 5 2 ∧
        (appliedConfig args).fullDist = fieldAt args 7 2 := ⟨rfl, rfl, rfl⟩
    obtain ⟨hk, he, hf⟩ := hheld
    have hdist : within 0 3 (fieldAt args 4 1) = true ∧ within 200 4000 (fieldAt args 5 2) = true ∧
        within 50 4000 (fieldAt args 7 2) = true := by
      simp only [within, decide_eq_true_iff]
      omega
    rw [hrole, HeldConfig.binInRange, hid, hk, he, hf, hdue hbinrole, hh1 hbinrole, hh2 hbinrole, hdelta hbinrole,
      hbeat hbinrole, hlisten, hlinger hbinrole, hhop hbinrole, hsuppress hbinrole, hcapacity hbinrole, hrefill hbinrole,
      hdist.1, hdist.2.1, hdist.2.2, decide_eq_true happart]
    rfl

end

/-! ### The counts the configuration bounds (R131, R141) -/

theorem Monitor.outcome_probeTimer (echoed autoRejoin : Bool) (probeInterval : Nat) (m : Monitor) :
    (m.outcome echoed autoRejoin probeInterval).probeTimer = m.probeTimer ∨
      (m.outcome echoed autoRejoin probeInterval).probeTimer = probeInterval := by
  unfold Monitor.outcome
  dsimp only
  split_ifs
  · exact .inl rfl
  · exact .inl rfl
  · exact .inl rfl
  · exact .inr rfl
  · exact .inl rfl

section
variable {s t : State}

/-- The monitor takes the outcome and the selector does not move it, in both orders of R136. -/
theorem State.takeOutcome_mon (echoed first : Bool) :
    (s.takeOutcome echoed first).mon = s.mon.outcome echoed s.cfg.autoRejoin s.cfg.probeInterval := by
  unfold State.takeOutcome
  split
  · simp [State.monitorOutcome]
  · simp [State.monitorOutcome, State.cfg]

/-- While the configuration stands, the bounds stand with the counts. -/
theorem State.configOk.of_counts (h : s.configOk) (hrun : t.running = s.running) (hconfig : t.config = s.config)
    (hallowance : t.sel.allowance ≤ s.sel.allowance ∨ t.sel.allowance ≤ s.cfg.capacity)
    (hrefill : t.sel.refillCount = s.sel.refillCount ∨ t.sel.refillCount ≤ s.cfg.refillInterval)
    (hprobe : t.mon.probeTimer ≤ s.mon.probeTimer ∨ t.mon.probeTimer ≤ s.cfg.probeInterval) : t.configOk := by
  obtain ⟨hsome, hrange, ha, hr, hp⟩ := h
  have hcfg : t.cfg = s.cfg := by rw [State.cfg, hconfig]; rfl
  refine ⟨by rwa [hrun, hconfig], by rwa [hconfig], ?_, ?_, ?_⟩ <;> rw [hcfg]
  · exact hallowance.elim (fun k => k.trans ha) id
  · exact hrefill.elim (fun k => k ▸ hr) id
  · exact hprobe.elim (fun k => k.trans hp) id

/-- What moves none of them keeps the bounds. -/
theorem State.configOk.congr (h : s.configOk) (hrun : t.running = s.running) (hconfig : t.config = s.config)
    (hallowance : t.sel.allowance = s.sel.allowance) (hrefill : t.sel.refillCount = s.sel.refillCount)
    (hprobe : t.mon.probeTimer = s.mon.probeTimer) : t.configOk :=
  h.of_counts hrun hconfig (.inl hallowance.le) (.inl hrefill) (.inl hprobe.le)

/-- Whatever moves only parts that are none of them keeps the bounds. -/
theorem State.configOk.movesOnly {ps : List Part} (h : s.configOk) (hmoves : s.movesOnly ps t)
    (hnot : Part.running ∉ ps ∧ Part.config ∉ ps ∧ Part.allowance ∉ ps ∧ Part.refillCount ∉ ps ∧ Part.probeTimer ∉ ps) :
    t.configOk := by
  obtain ⟨hrun, hconfig, hallowance, hrefill, hprobe⟩ := hnot
  exact h.congr (hmoves .running hrun) (hmoves .config hconfig) (hmoves .allowance hallowance)
    (hmoves .refillCount hrefill) (hmoves .probeTimer hprobe)

theorem State.engineSettle_configOk (h : s.configOk) : s.engineSettle.configOk :=
  h.movesOnly s.engineSettle_moves (by simp)

theorem State.frameEnd_configOk (carrier : Bool) (h : s.configOk) : (s.frameEnd carrier).configOk :=
  h.movesOnly (s.frameEnd_moves carrier) (by simp)

theorem State.restartRunning_configOk (n : Nat) (h : s.configOk) : (s.restartRunning n).configOk :=
  ⟨nofun, h.2.1, Nat.zero_le _, Nat.zero_le _, Nat.zero_le _⟩

theorem does_configOk {c : Instr} {s u : State} (h : Does c s u) (hs : s.configOk) (hclear : s.clearedOk) :
    u.configOk := by
  induction h with
  | @start args s hrun hlen hfield =>
    obtain ⟨-, -, -, -, -, -, hmon, -⟩ := hclear.2 hrun
    rw [State.startRunning_eq]
    refine ⟨fun _ => rfl, by simpa using appliedConfig_inRange args hfield, ?_, Nat.zero_le _, ?_⟩
    · change (if (appliedConfig args).role = .bin then _ else 0) ≤ (appliedConfig args).capacity
      split <;> simp
    · rw [hmon]
      exact Nat.zero_le _
  | restart => exact State.restartRunning_configOk _ hs
  | @issue args s range flags =>
    obtain ⟨-, -, hallowance, -, -, hrun, hconfig⟩ := s.sampleIssue_same range flags
    have hmoves := State.issueOwn_moves { s with est := (s.taken range flags).1 } s.clock (s.taken range flags).2
      (s.taken range flags).1.nextSeq ((s.taken range flags).1.nextSeq + 1) .nothing
    have hissued : (s.sampleIssue range flags).1.configOk :=
      hs.congr hrun hconfig hallowance (hmoves .refillCount (by simp)) (hmoves .probeTimer (by simp))
    exact State.engineSettle_configOk (hissued.movesOnly (State.hear_moves _ _) (by simp))
  | @solicit args s bin mask maxClass => exact hs.movesOnly (s.solicitAct_moves bin mask maxClass) (by simp [movedBy])
  | @complete s b r =>
    have hdelivered := State.deliver_moves { s with port := { s.port with resultAt := none } } b r
    have hsent := State.configOk.movesOnly (s := { s with port := { s.port with resultAt := none } }) hs hdelivered
      (by simp [movedBy])
    exact State.engineSettle_configOk (hsent.movesOnly (State.selectorSettle_moves _) (by simp))
  | hardReset => exact ⟨nofun, nofun, le_rfl, le_rfl, le_rfl⟩
  | @boundary s hrun hdue =>
    refine State.engineSettle_configOk ?_
    have hswept : (State.sweep { s with boundaryDue := false }).1.configOk := hs
    have hheard := hswept.movesOnly (State.hear_moves _ (State.sweep { s with boundaryDue := false }).2) (by simp)
    refine hheard.of_counts ?_ ?_ ?_ ?_ ?_ <;>
      unfold State.countProbe State.countBoundary bump <;> (repeat' split) <;> simp
  | @refill s =>
    refine State.engineSettle_configOk (hs.of_counts (by simp) (by simp) (.inr ?_) (.inr ?_) (.inl ?_)) <;>
      simp [State.refill]
  | probe => exact State.engineSettle_configOk (hs.movesOnly (State.selectorSettle_moves _) (by simp))
  | carrierSeen => exact State.frameEnd_configOk _ hs
  | windowAwake => exact State.frameEnd_configOk _ hs
  | lingerExpiry => exact State.engineSettle_configOk hs
  | fallField => exact hs.movesOnly (State.beginField_moves _) (by simp)
  | fallAwake => exact State.engineSettle_configOk hs
  | gap => exact State.engineSettle_configOk hs
  | wakeEndLow => exact hs.movesOnly (State.beginField_moves _) (by simp)
  | wakingFall => exact hs.movesOnly (State.beginField_moves _) (by simp)
  | @wakingCap s =>
    have hlost : ({ s with eng := s.eng.enterAwake true } : State).fieldLost.configOk :=
      State.configOk.movesOnly (s := { s with eng := s.eng.enterAwake true }) hs (State.fieldLost_moves _) (by simp)
    exact State.engineSettle_configOk hlost
  | @slotLost s carrier =>
    exact State.configOk.movesOnly (s := { s with eng := s.eng.inSlot carrier }) hs (State.loseField_moves _) (by simp)
  | @contentionLost s =>
    exact State.configOk.movesOnly (s := { s with eng := { s.eng with
      kindObs := if s.eng.slot = Config.fieldSlots then some true else s.eng.kindObs } }) hs (State.loseField_moves _)
      (by simp)
  | @won s x hstate hcontends hstage =>
    have hwon : s.fieldWon.configOk := by
      refine hs.of_counts (by simp) (by simp) (.inl ?_) (.inl ?_) ?_ <;> unfold State.fieldWon State.spend <;>
        simp only [hstage] <;> split <;> split <;> simp
    exact hwon
  | markWait => exact State.engineSettle_configOk hs
  | goodFrame => exact hs.movesOnly (State.goodFrame_moves _ _ _) (by simp)
  | @badFrame rxd carrier s =>
    have hbad : s.monitorBad.configOk := hs.movesOnly s.monitorBad_moves (by simp)
    exact State.engineSettle_configOk (State.frameEnd_configOk _ hbad)
  | echoSlotEnd => exact State.engineSettle_configOk (State.frameEnd_configOk _ hs)
  | @awaitEchoEnd echo carrier first s =>
    have hmoves := s.takeOutcome_moves echo first
    refine State.engineSettle_configOk (State.frameEnd_configOk _ (hs.of_counts (by simp) (by simp)
      (.inl (hmoves .allowance (by simp)).le) (.inl (hmoves .refillCount (by simp))) ?_))
    rw [State.takeOutcome_mon]
    exact (Monitor.outcome_probeTimer echo s.cfg.autoRejoin s.cfg.probeInterval s.mon).imp Eq.le Eq.le
  | @tailEndLeave s =>
    exact State.configOk.movesOnly (s := { s with eng := { s.eng with tail := [], radioEn := false, key := false } }) hs
      (State.leaveOff_moves _) (by simp)
  | @merge s m =>
    have hmerged : (s.mergePart m).1.configOk := hs.movesOnly (s.mergePart_moves m) (by simp)
    exact State.engineSettle_configOk (State.configOk.movesOnly
      (s := { (s.mergePart m).1 with pair := (s.mergePart m).1.pair.advance m }) hmerged (State.hear_moves _ _) (by simp))
  | _ => exact hs

end

end Sys2Proof.Machine
end

section
open Sys2Proof Sys2Proof.Machine

/-- Settles O56: each effect of a command keeps the configuration in range and the counts within it. -/
theorem configInvariant : Obligations.ConfigInvariant := fun _ _ hs hclear h =>
  step_induction (P := fun s => s.configOk ∧ s.clearedOk) (Q := State.configOk)
    (fun u t hut hu => by rw [hut]; exact hu) (fun s _ h => h) (fun h => h.1)
    (fun c s u ⟨hs, hclear⟩ hdoes => does_configOk hdoes hs hclear) ⟨hs, hclear⟩ h

/-- Settles O52: everything is clear and empty after hard reset. -/
theorem resetMeetsTheInvariants : Obligations.ResetMeetsTheInvariants := by
  have hlines : Engine.reset.linesOk := by simp [Engine.linesOk, Engine.reset]
  have hslots : State.reset.slotsOk :=
    (State.slotsOk_of_idle (Engine.idle_of_mem (by simp [State.reset, Engine.reset]))).2 ⟨fun hb => absurd rfl hb, rfl⟩
  have htable : ∀ e, e ∉ State.reset.table := fun _ => List.not_mem_nil
  have hstate : State.reset.eng.state ≠ .awake := nofun
  have hrun : State.reset.running ≠ true := nofun
  have hvalues : State.reset.valuesOk := by
    refine ⟨fun e he => absurd he (htable e), fun _ => nofun, fun _ => nofun, ?_, ?_, ?_, fun _ => nofun⟩
    · simp [State.reset, Estimator.reset, Estimator.inRange]
    · simp [State.reset, Gateway.reset, Gateway.inRange]
    · simp [State.reset, State.countersInRange, Engine.reset, ReceivePair.reset, Gateway.reset]
  have hmon : State.reset.mon.ok := by simp [State.reset, Monitor.reset, Monitor.ok, Config.recoveryGoal, Config.muteCount]
  have hconfig : State.reset.configOk := ⟨nofun, fun _ => nofun, le_rfl, le_rfl, le_rfl⟩
  have hgateway : State.reset.gatewayOk :=
    ⟨List.nodup_nil, Nat.zero_le _, List.nodup_nil, nofun, fun _ => ⟨rfl, rfl, rfl, rfl, fun _ => nofun⟩⟩
  exact ⟨⟨⟨.nil, fun e he => absurd he (htable e)⟩, fun e he => absurd he (htable e)⟩, hvalues, hmon, hlines, State.reset_clearedOk,
    hconfig, hslots, fun h => absurd h hrun, fun e he => absurd he (htable e), fun _ e he => absurd he (htable e),
    hgateway, fun h => absurd h hrun, fun h => absurd h hrun, fun h => absurd h hstate⟩

end

section
/-! PROOFS. What the merge and the issue of an own report do to the table, as one relation between states and what is told
to the selector: one constructor a change of an entry, closed under steps one behind the other (R73, R74, R88, R107 to
R119). -/

namespace Sys2Proof.Machine

/-- The merge and the issue of an own report move the table, the estimator, the queue, the refusal count and the flags by
these changes; `rs` are the report entries that may be heard, received at second `rxTime`. -/
inductive State.alters (rs : List RxEntry) (rxTime : Nat) : State → Told → State → Told → Prop
  | refl (s told) : alters rs rxTime s told s told
  | trans {s t u told told' told''} : alters rs rxTime s told t told' → alters rs rxTime t told' u told'' →
      alters rs rxTime s told u told''
  | raised {s told} (n) : alters rs rxTime s told (s.raise n) told
  | sequence {s told} (n) : alters rs rxTime s told { s with est := { s.est with nextSeq := n } } told
  | issued {s told f} (emptied seq next) (hrole : s.role = .bin) (hfigures : s.est.figures = some f) :
      alters rs rxTime s told (s.issueOwn s.clock emptied seq next told).1 (s.issueOwn s.clock emptied seq next told).2
  | heardAgain {s told e} (he : e ∈ s.table) (howed : e.owing = .owed) :
      alters rs rxTime s told (s.alter e (Entry.hearAgain s.cfg.suppressCount) told).1
        (s.alter e (Entry.hearAgain s.cfg.suppressCount) told).2
  | repaired {s told e} (he : e ∈ s.table) (hrole : s.role = .bin) (hheld : e.owing = .held)
      (hsent : e.sent < s.cfg.sendLimit) (hhops : e.report.binId = s.cfg.stationId ∨ e.hops < s.cfg.hopLimit) :
      alters rs rxTime s told (s.alter e (fun x => { x with owing := .owed }) told).1
        (s.alter e (fun x => { x with owing := .owed }) told).2
  | ownSolicited {s told e} (he : e ∈ s.table) (hrole : s.role = .bin) (hown : e.report.binId = s.cfg.stationId) :
      alters rs rxTime s told (s.alter e Entry.solicited told).1 (s.alter e Entry.solicited told).2
  | relayed {s told} (g) (hrole : s.role = .bin) :
      alters rs rxTime s told (s.solicitRelayed g told).1 (s.solicitRelayed g told).2
  | superseded {s told r e} (hr : r ∈ rs) (he : e ∈ s.table) (hbin : r.report.binId = e.report.binId)
      (hnot : s.role = .bin → e.report.binId ≠ s.cfg.stationId) :
      alters rs rxTime s told (s.supersede r rxTime e told).1 (s.supersede r rxTime e told).2
  | inserted {s told r} (hr : r ∈ rs) (habsent : ∀ e ∈ s.table, e.report.binId ≠ r.report.binId)
      (hnot : s.role = .bin → r.report.binId ≠ s.cfg.stationId) :
      alters rs rxTime s told (s.mergeAbsentBin r rxTime told).1 (s.mergeAbsentBin r rxTime told).2
  | drained {s told e} (he : e ∈ s.table) (hnot : e.owing ≠ .drained) :
      alters rs rxTime s told
        (({ s with table := changeEntry e.report.binId (fun x => { x with owing := .drained }) s.table }).queueLeave
          e.report.binId) (told.changed e)

section
variable {rs : List RxEntry} {rxTime : Nat} {s t : State} {told told' : Told}

theorem State.mem_of_entryOf {b : BinId} {e : Entry} (h : s.entryOf b = some e) : e ∈ s.table ∧ e.report.binId = b :=
  ⟨List.mem_of_find?_eq_some h, by simpa using List.find?_some h⟩

theorem State.isBin_iff : s.isBin = true ↔ s.running = true ∧ s.role = .bin := by simp [State.isBin]

theorem State.isGateway_iff : s.isGateway = true ↔ s.running = true ∧ s.role = .gateway := by simp [State.isGateway]

theorem State.issueOwn_alters (emptied : Bool) (seq next : Seq) (hrole : s.role = .bin) :
    State.alters rs rxTime s told (s.issueOwn s.clock emptied seq next told).1
      (s.issueOwn s.clock emptied seq next told).2 := by
  rcases hfigures : s.est.figures with _ | f
  · unfold State.issueOwn
    rw [hfigures]
    exact .refl s told
  · exact .issued emptied seq next hrole hfigures

theorem State.sequenceJump_alters (heard : Seq) (hrole : s.role = .bin) :
    State.alters rs rxTime s told (s.sequenceJump heard told).1 (s.sequenceJump heard told).2 := by
  have hmoved : State.alters rs rxTime s told
      (({ s with est := { s.est with nextSeq := heard + 1 } } : State).raise .seqJump) told :=
    .trans (.sequence _) (.raised _)
  unfold State.sequenceJump
  dsimp only
  split <;> exact .trans hmoved (State.issueOwn_alters _ _ _ hrole)

theorem State.mergeOwnBin_alters (heard : Seq) (hrole : s.role = .bin) :
    State.alters rs rxTime s told (s.mergeOwnBin heard told).1 (s.mergeOwnBin heard told).2 := by
  unfold State.mergeOwnBin
  split
  · exact State.sequenceJump_alters heard hrole
  · exact .refl s told
  · split
    · next e he =>
      split
      · next howed => exact .heardAgain (s.ownEntry_mem he).1 howed
      · exact .refl s told
    · exact .refl s told
  · split
    · next e he =>
      obtain ⟨hmem, hid, -⟩ := s.ownEntry_mem he
      split
      · next h => exact .repaired hmem hrole h.1 h.2 (.inl hid)
      · exact .refl s told
    · exact .refl s told

theorem State.mergeHeldBin_alters {r : RxEntry} {e : Entry} (hr : r ∈ rs) (he : e ∈ s.table)
    (hbin : r.report.binId = e.report.binId) (hnot : s.role = .bin → e.report.binId ≠ s.cfg.stationId) :
    State.alters rs rxTime s told (s.mergeHeldBin r rxTime e told).1 (s.mergeHeldBin r rxTime e told).2 := by
  unfold State.mergeHeldBin
  split
  · exact .superseded hr he hbin hnot
  · exact .refl s told
  · split
    · next howed => exact .heardAgain he howed
    · exact .refl s told
  · split
    · next h =>
      obtain ⟨hrole, hheld, hsent, hhops⟩ := h
      exact .repaired he hrole hheld hsent (.inr hhops)
    · exact .refl s told

theorem State.mergeEntry_alters {r : RxEntry} (hr : r ∈ rs) :
    State.alters rs rxTime s told (s.mergeEntry r rxTime told).1 (s.mergeEntry r rxTime told).2 := by
  unfold State.mergeEntry
  split
  · exact .refl s told
  · split
    · next h => exact State.mergeOwnBin_alters _ h.1
    · next hnot =>
      have hother : s.role = .bin → r.report.binId ≠ s.cfg.stationId := fun hrole hid => hnot ⟨hrole, hid⟩
      split
      · next e he =>
        obtain ⟨hmem, hid⟩ := State.mem_of_entryOf he
        exact State.mergeHeldBin_alters hr hmem hid.symm (hid ▸ hother)
      · next hnone => exact .inserted hr (State.entryOf_eq_none.1 hnone) hother

theorem State.solicitOwn_alters (hrole : s.role = .bin) :
    State.alters rs rxTime s told (s.solicitOwn told).1 (s.solicitOwn told).2 := by
  unfold State.solicitOwn
  dsimp only
  split
  · exact .trans (.raised _) (State.issueOwn_alters (s := s.raise .solicited) _ _ _ hrole)
  · split
    · next e he =>
      obtain ⟨hmem, hid, -⟩ := s.ownEntry_mem he
      exact .trans (.raised .solicited) (.ownSolicited (s := s.raise .solicited) hmem hrole hid)
    · exact .raised _

/-- What is not moved by any of the changes: life, configuration, clock, engine, pair, slots, monitor, drain list. -/
theorem State.alters.keeps (h : State.alters rs rxTime s told t told') :
    t.running = s.running ∧ t.config = s.config ∧ t.clock = s.clock ∧ t.eng = s.eng ∧ t.pair = s.pair ∧ t.sel = s.sel ∧
      t.mon = s.mon := by
  induction h with
  | refl | raised | sequence | heardAgain | repaired | ownSolicited | relayed | drained =>
    exact ⟨rfl, rfl, rfl, rfl, rfl, rfl, rfl⟩
  | trans _ _ ih ih' =>
    obtain ⟨h1, h2, h3, h4, h5, h6, h7⟩ := ih
    obtain ⟨k1, k2, k3, k4, k5, k6, k7⟩ := ih'
    exact ⟨k1.trans h1, k2.trans h2, k3.trans h3, k4.trans h4, k5.trans h5, k6.trans h6, k7.trans h7⟩
  | issued emptied seq next hrole hfigures =>
    unfold State.issueOwn
    rw [hfigures]
    dsimp only
    split <;> simp
  | superseded => simp [State.supersede]
  | inserted =>
    unfold State.mergeAbsentBin
    dsimp only
    (repeat' split) <;> simp

theorem State.mergeTarget_alters (g : Target) :
    State.alters rs rxTime s told (s.mergeTarget g told).1 (s.mergeTarget g told).2 := by
  unfold State.mergeTarget
  split
  · exact .refl s told
  · next hgateway =>
    have hrole : s.role = .bin := by cases h : s.role <;> simp_all
    dsimp only
    split
    · have hown := State.solicitOwn_alters (rs := rs) (rxTime := rxTime) (told := told) hrole
      refine .trans hown (.relayed g ?_)
      obtain ⟨-, hconfig, -⟩ := hown.keeps
      rw [State.role, State.cfg, hconfig]
      exact hrole
    · exact .relayed g hrole

theorem State.mergeItem_alters (i : RxItem) :
    State.alters rs rxTime s told (s.mergeItem i told).1 (s.mergeItem i told).2 := by
  unfold State.mergeItem
  split
  · exact .refl s told
  · split
    · exact .refl s told
    · next e he =>
      obtain ⟨hmem, hid⟩ := State.mem_of_entryOf he
      split
      · next h =>
        rw [← hid]
        exact .drained hmem h.1
      · exact .refl s told

/-- Whatever part is merged, it is these changes that it makes. -/
theorem State.mergePart_alters (m : Merging) :
    State.alters m.frame.parts.entries m.frame.rxTime s .nothing (s.mergePart m).1 (s.mergePart m).2 := by
  unfold State.mergePart RxParts.entries
  rcases m.frame.parts with es | t | items <;> dsimp only
  · split
    · next r hr => exact State.mergeEntry_alters (List.mem_of_getElem? hr)
    · exact .refl s _
  · exact State.mergeTarget_alters _
  · split
    · exact State.mergeItem_alters _
    · exact .refl s _

theorem State.sampleIssue_alters (range : Nat) (flags : Byte) (hrole : s.role = .bin) :
    State.alters [] 0 { s with est := (s.taken range flags).1 } .nothing (s.sampleIssue range flags).1
      (s.sampleIssue range flags).2 :=
  State.issueOwn_alters (s := { s with est := (s.taken range flags).1 }) _ _ _ hrole

end

end Sys2Proof.Machine
end

section
/-! PROOFS. The carry table through every step: what each effect makes of its entries, and that the table keeps its form
(O53). -/

namespace Sys2Proof.Machine

/-! ### What an effect makes of the table -/

/-- The state with an export completed, before the selector withdraws anything for it (R158, R161). -/
def State.handed (b : BinId) (r : Seq) (s : State) : State :=
  let still := s.table.any (fun e => e.report.binId == b && e.report.seq == r)
  { s with
    table := if still then changeEntry b Entry.delivered s.table else s.table,
    gw := { s.gw with
      inHand := none, drainList := (enterDrainList b r s.gw.drainList).1,
      drainDrop := if (enterDrainList b r s.gw.drainList).2.1 then bump Config.count16Max s.gw.drainDrop else s.gw.drainDrop,
      queue := if still then s.gw.queue.filter (fun x => x != b) else s.gw.queue } }

/-- The state with the new solicit pending, before the selector withdraws anything for it (R163). -/
def State.made (bin mask : BinId) (maxClass : Nat) (s : State) : State :=
  { s with gw := { s.gw with
      solicit := some { binId := bin, mask := mask, maxClass := maxClass, sent := 0, serial := s.gw.nextSerial },
      nextSerial := s.gw.nextSerial + 1 } }

section
variable {s t : State}

theorem State.solicitAct_made (bin mask : BinId) (maxClass : Nat) :
    ∃ v : State, (s.made bin mask maxClass).reselects v ∧
      (s.solicitAct bin mask maxClass).1 = v.selectorSettle.engineSettle := by
  refine ⟨if s.gw.solicit.isSome then (s.made bin mask maxClass).withdrawWhere FrameRec.isSolicit
    else s.made bin mask maxClass, ?_, rfl⟩
  split
  · exact State.withdrawWhere_reselects _ _
  · exact .refl _

theorem State.deliver_eq (b : BinId) (r : Seq) :
    s.deliver b r =
      if (enterDrainList b r s.gw.drainList).2.2 then (s.handed b r).withdrawWhere FrameRec.isDrain else s.handed b r := by
  have hhanded : ∀ still : Bool,
      (if still = true then { (State.queueLeave b { s with gw := { s.gw with
          inHand := none, drainList := (enterDrainList b r s.gw.drainList).1,
          drainDrop := if (enterDrainList b r s.gw.drainList).2.1 then bump Config.count16Max s.gw.drainDrop
            else s.gw.drainDrop } }) with table := changeEntry b Entry.delivered s.table }
        else { s with gw := { s.gw with
          inHand := none, drainList := (enterDrainList b r s.gw.drainList).1,
          drainDrop := if (enterDrainList b r s.gw.drainList).2.1 then bump Config.count16Max s.gw.drainDrop
            else s.gw.drainDrop } }) =
      ({ s with
        table := if still then changeEntry b Entry.delivered s.table else s.table,
        gw := { s.gw with
          inHand := none, drainList := (enterDrainList b r s.gw.drainList).1,
          drainDrop := if (enterDrainList b r s.gw.drainList).2.1 then bump Config.count16Max s.gw.drainDrop
            else s.gw.drainDrop,
          queue := if still then s.gw.queue.filter (fun x => x != b) else s.gw.queue } } : State) := fun still => by
    cases still <;> rfl
  unfold State.deliver State.handed
  dsimp only
  rw [hhanded]

theorem State.handed_table (b : BinId) (r : Seq) :
    (s.handed b r).table = s.table ∨
      (s.handed b r).table = s.table.map (fun e => if e.report.binId = b then e.delivered else e) := by
  unfold State.handed
  dsimp only
  split
  · exact .inr rfl
  · exact .inl rfl

theorem State.handed_reselects (b : BinId) (r : Seq) : (s.handed b r).reselects (s.deliver b r) := by
  rw [State.deliver_eq]
  split
  · exact State.withdrawWhere_reselects _ _
  · exact .refl _

theorem State.setMonitor_sameAside (m : Monitor) : samePlacesAside (s.setMonitor m).table s.table := by
  rcases s.setMonitor_cases m with ⟨-, h⟩ | ⟨-, -, h⟩ | ⟨-, -, -, h⟩ | ⟨-, -, -, h⟩ <;> rw [h]
  · rfl
  · exact (State.enterMute_reselects _).table
  · refine samePlacesAside_trans (State.selectorSettle_sameAside _) ?_
    rw [State.unprobed_eq]
    rfl
  · exact State.selectorSettle_sameAside _

theorem State.moveUp_sameAside : samePlacesAside s.moveUp.table s.table := by
  unfold State.moveUp
  split
  · rfl
  · unfold samePlacesAside
    rw [List.map_map]
    refine List.map_congr_left fun e _ => ?_
    simp only [Function.comp]
    split <;> rfl

/-- What an echo outcome makes of the entries (R132). -/
def outcomeTable (echoed : Bool) (sendLimit : Nat) (f : FrameRec) (t : List Entry) : List Entry :=
  t.map (fun e => if e.matchedBy f.refs then e.sentOnce echoed sendLimit else e)

theorem outcomeTable_of_not_fill {f : FrameRec} (hf : f.refs = []) (echoed : Bool) (sendLimit : Nat) (t : List Entry) :
    outcomeTable echoed sendLimit f t = t := by
  simp [outcomeTable, hf, Entry.matchedBy]

theorem State.applyOutcome_table (echoed : Bool) (f : FrameRec) :
    samePlacesAside (s.applyOutcome echoed f).table (outcomeTable echoed s.cfg.sendLimit f s.table) := by
  unfold State.applyOutcome
  split
  · unfold State.fillOutcome
    dsimp only
    split <;> rfl
  · next hf =>
    rw [outcomeTable_of_not_fill (by simp [FrameRec.refs, hf])]
    unfold State.drainOutcome
    dsimp only
    (repeat' split)
    · rfl
    · exact (State.withdrawWhere_reselects _ _).table
    · exact (State.withdrawWhere_reselects _ _).table
  · next hf =>
    rw [outcomeTable_of_not_fill (by simp [FrameRec.refs, hf])]
    unfold State.solicitOutcome
    dsimp only
    (repeat' split)
    · rfl
    · rfl
    · exact (State.withdrawWhere_reselects _ _).table
    · rfl

theorem outcomeTable_sameAside {t u : List Entry} (echoed : Bool) (sendLimit : Nat) (f : FrameRec)
    (h : samePlacesAside t u) :
    samePlacesAside (outcomeTable echoed sendLimit f t) (outcomeTable echoed sendLimit f u) := by
  refine samePlacesAside_map (fun e p => ?_) h
  have hmatched : ({ e with placed := p } : Entry).matchedBy f.refs = e.matchedBy f.refs := rfl
  rw [hmatched]
  split <;> rfl

theorem State.echoOutcome_table (echoed : Bool) {f : FrameRec} (hf : s.sel.stage = some { frame := f, cond := .sending }) :
    samePlacesAside (s.echoOutcome echoed).table (outcomeTable echoed s.cfg.sendLimit f s.table) := by
  rw [s.echoOutcome_of_sending echoed hf]
  exact samePlacesAside_trans (State.selectorSettle_sameAside _)
    (samePlacesAside_trans State.moveUp_sameAside (State.applyOutcome_table _ _))

theorem State.cfg_congr (h : t.config = s.config) : t.cfg = s.cfg := by rw [State.cfg, h]; rfl

/-- In both orders of R136 the entries take the outcome of the SENDING frame, and else move in placement alone. -/
theorem State.takeOutcome_table (echoed first : Bool) {f : FrameRec}
    (hf : s.sel.stage = some { frame := f, cond := .sending }) :
    samePlacesAside (s.takeOutcome echoed first).table (outcomeTable echoed s.cfg.sendLimit f s.table) := by
  unfold State.takeOutcome
  split
  · have hcore : (s.monitorOutcome echoed).sel.core = some { frame := f, cond := .sending } :=
      (s.setMonitor_core _).trans (Selector.core_of_cond hf nofun)
    have hcfg : (s.monitorOutcome echoed).cfg = s.cfg := State.cfg_congr (by simp)
    refine samePlacesAside_trans (State.echoOutcome_table echoed (Selector.core_cond hcore).1) ?_
    rw [hcfg]
    exact outcomeTable_sameAside _ _ _ (State.setMonitor_sameAside _)
  · exact samePlacesAside_trans (State.setMonitor_sameAside _) (State.echoOutcome_table echoed hf)

theorem State.takeOutcome_table_of_not (echoed first : Bool) (h : s.sel.stageCond ≠ some .sending) :
    samePlacesAside (s.takeOutcome echoed first).table s.table := by
  have hnot : (s.monitorOutcome echoed).sel.stageCond ≠ some .sending := by
    rw [ne_eq, Selector.stageCond_core (cond := .sending) nofun] at h ⊢
    rwa [State.monitorOutcome, State.setMonitor_core]
  unfold State.takeOutcome
  rw [State.echoOutcome_of_not _ _ h, State.echoOutcome_of_not _ _ hnot]
  split <;> exact State.setMonitor_sameAside _

theorem State.fieldLost_sameAside : samePlacesAside s.fieldLost.table s.table := by
  by_cases hc : s.sel.stageCond = some .committed
  · obtain ⟨f, hf⟩ := Selector.stageCond_eq_committed.1 hc
    rw [State.fieldLost_of_committed hf]
    refine samePlacesAside_trans (State.selectorSettle_sameAside _) ?_
    unfold State.afterLoss
    split
    · exact State.withdrawBoth_sameAside _
    · rfl
  · rw [State.fieldLost_of_not hc]
    rfl

theorem State.fieldWon_table : s.fieldWon.table = s.table := s.fieldWon_moves .table (by simp)

end

/-- The commands that may move more of the table than placements, or the life and configuration it goes with. -/
def altersTable : Instr → Bool
  | .start _ | .restart _ _ | .postSample _ | .exportNextCompletion | .hardReset | .minuteBoundary | .mergeStep
  | .awaitEchoEnd _ _ _ => true
  | _ => false

/-- Every other effect leaves life, configuration, and the entries but for their placement. -/
theorem Does.sameTable {c : Instr} {s u : State} (h : Does c s u) (hc : altersTable c = false) :
    u.running = s.running ∧ u.config = s.config ∧ samePlacesAside u.table s.table := by
  cases h with
  | solicit bin mask =>
    rename_i maxClass _ _ _
    obtain ⟨v, hv, h⟩ := s.solicitAct_made bin mask maxClass
    rw [h]
    refine ⟨by simp [hv.running, State.made], by simp [hv.config, State.made], ?_⟩
    rw [State.engineSettle_table]
    exact samePlacesAside_trans (State.selectorSettle_sameAside _) hv.table
  | refill => exact ⟨by simp, by simp, by simpa [State.refill] using State.selectorSettle_sameAside _⟩
  | probe => exact ⟨by simp, by simp, by simpa using State.selectorSettle_sameAside _⟩
  | carrierSeen | windowAwake | fallField | fallAwake | gap | wakeEndLow | wakingFall | lingerExpiry | markWait |
    echoSlotEnd | tailEndLeave =>
    exact ⟨by simp, by simp, by simp; rfl⟩
  | wakingCap => exact ⟨by simp, by simp, by simpa using State.fieldLost_sameAside⟩
  | slotLost => exact ⟨by simp, by simp, State.fieldLost_sameAside⟩
  | contentionLost => exact ⟨by simp, by simp, State.fieldLost_sameAside⟩
  | won => exact ⟨by simp, by simp, by simp [State.fieldWon_table]; rfl⟩
  | goodFrame =>
    exact ⟨by simp [State.goodFrame], by simp [State.goodFrame],
      samePlacesAside_trans (State.setMonitor_sameAside _) (by simp; rfl)⟩
  | badFrame => exact ⟨by simp, by simp, by simpa [State.monitorBad] using State.setMonitor_sameAside _⟩
  | start | restart | sample | issue | complete | hardReset | boundary | noBoundary | merge | awaitEchoEnd => cases hc
  | _ => exact ⟨rfl, rfl, rfl⟩

/-! ### The table keeps its form (R82, R84) -/

section
variable {s t : State}

theorem State.isBin_congr (hrun : t.running = s.running) (hconfig : t.config = s.config) : t.isBin = s.isBin := by
  rw [State.isBin, State.isBin, State.role, State.role, State.cfg_congr hconfig, hrun]

theorem State.isGateway_congr (hrun : t.running = s.running) (hconfig : t.config = s.config) :
    t.isGateway = s.isGateway := by
  rw [State.isGateway, State.isGateway, State.role, State.role, State.cfg_congr hconfig, hrun]

/-- A change of entries that leaves positions, bin ids and origins keeps the form. -/
theorem State.tableOk.map {f : Entry → Entry} (h : s.tableOk) (hrun : t.running = s.running)
    (hconfig : t.config = s.config) (htable : t.table = s.table.map f)
    (hf : ∀ e ∈ s.table, (f e).position = e.position ∧ (f e).report.binId = e.report.binId ∧ (f e).origin = e.origin) :
    t.tableOk := by
  obtain ⟨hwf, hown⟩ := h
  rw [State.tableOk, State.originsOk, htable, State.isBin_congr hrun hconfig, State.cfg_congr hconfig]
  refine ⟨tableWf_map (fun e he => ⟨(hf e he).1, (hf e he).2.1⟩) hwf, fun e he => ?_⟩
  obtain ⟨x, hx, rfl⟩ := List.mem_map.1 he
  obtain ⟨-, hbin, horigin⟩ := hf x hx
  rw [hbin, horigin]
  exact hown x hx

theorem State.tableOk.filter {p : Entry → Bool} (h : s.tableOk) (hrun : t.running = s.running)
    (hconfig : t.config = s.config) (htable : t.table = s.table.filter p) : t.tableOk := by
  rw [State.tableOk, State.originsOk, htable, State.isBin_congr hrun hconfig, State.cfg_congr hconfig]
  exact ⟨tableWf_filter p h.1, fun e he => h.2 e (List.mem_of_mem_filter he)⟩

theorem State.tableOk.aside (h : s.tableOk) (hrun : t.running = s.running) (hconfig : t.config = s.config)
    (htable : samePlacesAside t.table s.table) : t.tableOk := by
  rw [State.tableOk, State.originsOk, State.isBin_congr hrun hconfig, State.cfg_congr hconfig]
  exact ⟨tableWf_of_samePlacesAside htable h.1, forall_of_samePlacesAside (fun _ _ => id) htable h.2⟩

theorem State.tableOk.congr (h : s.tableOk) (hrun : t.running = s.running) (hconfig : t.config = s.config)
    (htable : t.table = s.table) : t.tableOk :=
  h.aside hrun hconfig (by rw [htable]; rfl)

theorem State.reselects.tableOk (h : s.reselects t) (hs : s.tableOk) : t.tableOk := hs.aside h.running h.config h.table

theorem State.engineSettle_tableOk (h : s.tableOk) : s.engineSettle.tableOk :=
  h.congr (by simp) (by simp) (by simp)

theorem State.insertPosition_lt {origin : Origin} {p : Nat} (h : tableWf s.table) (hp : s.insertPosition origin = some p) :
    p < Config.positions := by
  unfold State.insertPosition at hp
  split at hp
  · next hfree =>
    cases hp
    exact (lowestFree_eq_some.1 hfree).1
  · obtain ⟨v, hv, rfl⟩ := Option.map_eq_some_iff.1 hp
    refine h.2 v ?_
    rcases firstBy_cases (evictedBefore s.clock) (s.table.filter (s.evictable origin)) with ⟨-, hnone⟩ | ⟨x, hx, hsome⟩
    · rw [State.victim, hnone] at hv
      cases hv
    · rw [State.victim, hsome] at hv
      cases hv
      exact List.mem_of_mem_filter hx

/-- An insert of an absent bin's entry with the origin that goes with it keeps the form. -/
theorem State.insert_tableOk {e : Entry} (h : s.tableOk) (habsent : ∀ x ∈ s.table, x.report.binId ≠ e.report.binId)
    (horigin : e.origin = .own ↔ s.isBin = true ∧ e.report.binId = s.cfg.stationId) : (s.insert e).1.tableOk := by
  obtain ⟨hwf, hown⟩ := h
  rcases s.insert_cases e with ⟨p, hp, k⟩ | ⟨-, k⟩ <;> rw [k]
  · refine ⟨tableWf_placeEntry (State.insertPosition_lt hwf hp) (fun x hx => ?_) (tableWf_filter _ hwf), fun x hx => ?_⟩
    · obtain ⟨hmem, hne⟩ := List.mem_filter.1 hx
      exact ⟨by simpa using hne, habsent x hmem⟩
    · rcases mem_placeEntry.1 hx with rfl | hx
      · exact horigin
      · exact hown x (List.mem_of_mem_filter hx)
  · exact ⟨hwf, hown⟩

theorem HeldConfig.originOf_ne_own (c : HeldConfig) (b : BinId) : c.originOf b ≠ .own := by
  unfold HeldConfig.originOf
  split <;> nofun

/-- What the issue of an own report makes of the rest of the state (R73). -/
theorem State.issueOwn_cases {f : Figures} (emptied : Bool) (seq next : Seq) (told : Told) (hf : s.est.figures = some f) :
    ∃ u : State, u = (({ s with est := s.est.reported f s.clock next } : State).raise .ownIssued) ∧
      ((∃ own, s.ownEntry = some own ∧
        s.issueOwn s.clock emptied seq next told =
          ({ u with table := s.table.map (fun e => if e.report.binId = s.cfg.stationId then
              ownAt e.position (ownReport s.cfg s.clock emptied seq s.est f) s.clock else e) },
            (told.changed own).owed (ownEntryOf (ownReport s.cfg s.clock emptied seq s.est f) s.clock))) ∨
      (s.ownEntry = none ∧
        s.issueOwn s.clock emptied seq next told =
          ((u.insert (ownEntryOf (ownReport s.cfg s.clock emptied seq s.est f) s.clock)).1,
            if (u.insert (ownEntryOf (ownReport s.cfg s.clock emptied seq s.est f) s.clock)).2 then
              told.owed (ownEntryOf (ownReport s.cfg s.clock emptied seq s.est f) s.clock) else told))) := by
  refine ⟨_, rfl, ?_⟩
  unfold State.issueOwn
  rw [hf]
  dsimp only
  rcases hown : s.ownEntry with _ | own
  · exact .inr ⟨rfl, rfl⟩
  · exact .inl ⟨own, rfl, rfl⟩

theorem State.issueOwn_tableOk {f : Figures} {told : Told} (emptied : Bool) (seq next : Seq) (hbin : s.isBin = true)
    (hf : s.est.figures = some f) (h : s.tableOk) : (s.issueOwn s.clock emptied seq next told).1.tableOk := by
  obtain ⟨u, rfl, ⟨own, -, k⟩ | ⟨hnone, k⟩⟩ := State.issueOwn_cases emptied seq next told hf <;> rw [k]
  · refine h.map (f := fun e => if e.report.binId = s.cfg.stationId then
      ownAt e.position (ownReport s.cfg s.clock emptied seq s.est f) s.clock else e)
      rfl rfl rfl fun e he => ?_
    split
    · next hid => exact ⟨rfl, hid.symm, ((h.2 e he).2 ⟨hbin, hid⟩).symm⟩
    · exact ⟨rfl, rfl, rfl⟩
  · refine State.insert_tableOk (h.congr rfl rfl rfl) ?_ (iff_of_true rfl ⟨hbin, rfl⟩)
    rw [State.ownEntry, if_pos hbin] at hnone
    exact State.entryOf_eq_none.1 hnone

theorem State.alters.tableOk {rs : List RxEntry} {rxTime : Nat} {told told' : Told}
    (h : State.alters rs rxTime s told t told') (hs : s.tableOk) (hrun : s.running = true) : t.tableOk := by
  have hchange : ∀ {s : State} {e : Entry} {f : Entry → Entry} {told : Told},
      (∀ x, (f x).position = x.position ∧ (f x).report.binId = x.report.binId ∧ (f x).origin = x.origin) → s.tableOk →
      (s.alter e f told).1.tableOk := fun hf hs =>
    hs.map rfl rfl rfl fun x _ => by split <;> simp [hf]
  induction h with
  | refl | raised | sequence => exact hs
  | trans h _ ih ih' => exact ih' (ih hs hrun) (h.keeps.1.trans hrun)
  | issued emptied seq next hrole hfigures =>
    exact State.issueOwn_tableOk _ _ _ (State.isBin_iff.2 ⟨hrun, hrole⟩) hfigures hs
  | heardAgain | repaired | ownSolicited => exact hchange (fun _ => ⟨rfl, rfl, rfl⟩) hs
  | relayed g =>
    refine hs.map rfl rfl rfl fun x _ => ?_
    split <;> exact ⟨rfl, rfl, rfl⟩
  | @superseded s told r e hr he hbin hnot =>
    refine hs.map (f := fun x => if x.report.binId = e.report.binId then s.received r rxTime x.position x.origin else x)
      (by simp [State.supersede]) (by simp [State.supersede]) (by simp [State.supersede, changeEntry]) fun x _ => ?_
    split
    · next hid => exact ⟨rfl, hbin.trans hid.symm, rfl⟩
    · exact ⟨rfl, rfl, rfl⟩
  | @inserted s told r hr habsent hnot =>
    have hinsert := State.insert_tableOk (e := s.received r rxTime 0 (s.cfg.originOf r.report.binId)) hs habsent
      (iff_of_false (HeldConfig.originOf_ne_own _ _) fun ⟨hbin, hid⟩ => hnot (State.isBin_iff.1 hbin).2 hid)
    unfold State.mergeAbsentBin
    dsimp only
    split
    · exact hs
    · split
      · exact hinsert.congr (by simp) (by simp) (by simp)
      · exact hinsert
  | drained =>
    refine hs.map rfl rfl rfl fun x _ => ?_
    split <;> exact ⟨rfl, rfl, rfl⟩

theorem restartTable_tableOk (n : Nat) (h : s.tableOk) : (s.restartRunning n).tableOk := by
  refine ⟨tableWf_map (fun _ _ => ⟨rfl, rfl⟩) (tableWf_filter _ h.1), fun e he => ?_⟩
  obtain ⟨x, hx, rfl⟩ := List.mem_map.1 (show e ∈ restartTable s.table from he)
  exact iff_of_false (by simpa using (List.mem_filter.1 hx).2) fun k => by cases k.1

theorem State.startRunning_tableOk (c : HeldConfig) (mask : FlagSet) (h : s.tableOk) :
    (s.startRunning c mask).tableOk := by
  rw [State.startRunning_eq]
  have hprepared : prepareTable c s.table = (if c.role = .bin then s.table.filter (fun e => e.report.binId != c.stationId)
      else s.table).map fun e =>
        { e with origin := c.originOf e.report.binId, exported := if c.role = .bin then false else e.exported } := rfl
  refine ⟨?_, fun e he => ?_⟩
  · change tableWf (prepareTable c s.table)
    rw [hprepared]
    refine tableWf_map (fun _ _ => ⟨rfl, rfl⟩) ?_
    split
    · exact tableWf_filter _ h.1
    · exact h.1
  · obtain ⟨x, hx, rfl⟩ := List.mem_map.1 (hprepared ▸ (show e ∈ prepareTable c s.table from he))
    refine iff_of_false (HeldConfig.originOf_ne_own _ _) fun ⟨hbin, hid⟩ => ?_
    have hrole : c.role = .bin := (State.isBin_iff.1 hbin).2
    rw [if_pos hrole] at hx
    simpa [show x.report.binId = c.stationId from hid] using (List.mem_filter.1 hx).2

/-- A station with a frame MERGING is RUNNING. -/
theorem State.clearedOk.running_of_merging (h : s.clearedOk) {m : Merging} (hm : s.pair.merging = some m) :
    s.running = true := by
  by_contra hrun
  obtain ⟨-, hnone, -⟩ := h.2 (by simpa using hrun)
  rw [hnone] at hm
  cases hm

theorem does_tableOk {c : Instr} {s u : State} (h : Does c s u) (hs : s.tableOk) (hclear : s.clearedOk) : u.tableOk := by
  by_cases hc : altersTable c = false
  · obtain ⟨hrun, hconfig, htable⟩ := h.sameTable hc
    exact hs.aside hrun hconfig htable
  cases h with
  | start => exact State.startRunning_tableOk _ _ hs
  | restart => exact restartTable_tableOk _ hs
  | sample | nothing => exact hs
  | issue range flags hrun hrole =>
    have hissued := (s.sampleIssue_alters range flags hrole).tableOk hs hrun
    exact State.engineSettle_tableOk ((State.hear_reselects _ (s.sampleIssue range flags).2).tableOk hissued)
  | complete =>
    rename_i b r _
    have hhanded : (State.handed b r { s with port := { s.port with resultAt := none } }).tableOk := by
      rcases State.handed_table b r with h | h
      · exact State.tableOk.congr hs rfl rfl h
      · exact State.tableOk.map hs rfl rfl h fun e _ => by split <;> exact ⟨rfl, rfl, rfl⟩
    have hdelivered := (State.handed_reselects b r).tableOk hhanded
    exact State.engineSettle_tableOk ((State.selectorSettle_reselects _).tableOk hdelivered)
  | hardReset => exact ⟨⟨.nil, List.forall_mem_nil _⟩, List.forall_mem_nil _⟩
  | noBoundary hrun => exact hs
  | boundary =>
    have hswept : (State.sweep { s with boundaryDue := false }).1.tableOk := hs.filter rfl rfl rfl
    refine ((State.hear_reselects _ (State.sweep { s with boundaryDue := false }).2).tableOk hswept).congr ?_ ?_ ?_ <;>
      unfold State.countProbe State.countBoundary <;> (repeat' split) <;> simp
  | merge hmerging =>
    rename_i m
    have hrun := hclear.running_of_merging hmerging
    have hmerged := (s.mergePart_alters m).tableOk hs hrun
    exact State.engineSettle_tableOk ((State.hear_reselects _ (s.mergePart m).2).tableOk (s := { (s.mergePart m).1 with
      pair := (s.mergePart m).1.pair.advance m }) hmerged)
  | awaitEchoEnd hstate =>
    rename_i echoed carrier first
    refine State.tableOk.congr (s := s.takeOutcome echoed first) ?_ (by simp) (by simp) (by simp)
    by_cases hsend : s.sel.stageCond = some .sending
    · obtain ⟨f, hf⟩ := Selector.stageCond_eq_sending.1 hsend
      have houtcome : ({ s with table := outcomeTable echoed s.cfg.sendLimit f s.table } : State).tableOk :=
        hs.map rfl rfl rfl fun e _ => by split <;> exact ⟨rfl, rfl, rfl⟩
      exact houtcome.aside (by simp) (by simp) (State.takeOutcome_table echoed first hf)
    · exact hs.aside (by simp) (by simp) (State.takeOutcome_table_of_not echoed first hsend)
  | _ => simp [altersTable] at hc

end

end Sys2Proof.Machine
end

section
open Sys2Proof Sys2Proof.Machine

/-- Settles O53: each effect of a command keeps the table's form. -/
theorem tableInvariant : Obligations.TableInvariant := fun _ _ hs hclear h =>
  step_induction (P := fun s => s.tableOk ∧ s.clearedOk) (Q := State.tableOk)
    (fun u t hut hu => by rw [hut]; exact hu) (fun s _ h => h) (fun h => h.1)
    (fun c s u ⟨hs, hclear⟩ hdoes => does_tableOk hdoes hs hclear) ⟨hs, hclear⟩ h

end

section
/-! PROOFS. OWED entries stay below the send limit and the hop limit through every step (O59). -/

namespace Sys2Proof.Machine

section
variable {s t : State}

/-- What an OWED entry keeps to in the bin role (R86). -/
def HeldConfig.owedWithin (c : HeldConfig) (e : Entry) : Prop :=
  e.owing = .owed → e.sent < c.sendLimit ∧ (e.origin ≠ .own → e.hops < c.hopLimit)

theorem State.owedOk_iff : s.owedOk ↔ (s.role = .bin → ∀ e ∈ s.table, s.cfg.owedWithin e) := Iff.rfl

theorem State.role_congr (h : t.config = s.config) : t.role = s.role := by rw [State.role, State.cfg_congr h]; rfl

/-- A change of entries that keeps each within the limits. -/
theorem State.owedOk.map {f : Entry → Entry} (h : s.owedOk) (hconfig : t.config = s.config)
    (htable : t.table = s.table.map f)
    (hf : s.role = .bin → ∀ e ∈ s.table, s.cfg.owedWithin e → s.cfg.owedWithin (f e)) : t.owedOk := by
  rw [State.owedOk_iff, htable, State.role_congr hconfig, State.cfg_congr hconfig]
  intro hrole e he
  obtain ⟨x, hx, rfl⟩ := List.mem_map.1 he
  exact hf hrole x hx (h hrole x hx)

theorem State.owedOk.aside (h : s.owedOk) (hconfig : t.config = s.config) (htable : samePlacesAside t.table s.table) :
    t.owedOk := by
  rw [State.owedOk_iff, State.role_congr hconfig, State.cfg_congr hconfig]
  exact fun hrole => forall_of_samePlacesAside (fun _ _ => id) htable (h hrole)

theorem State.owedOk.congr (h : s.owedOk) (hconfig : t.config = s.config) (htable : t.table = s.table) : t.owedOk :=
  h.aside hconfig (by rw [htable]; rfl)

theorem State.reselects.owedOk (h : s.reselects t) (hs : s.owedOk) : t.owedOk := hs.aside h.config h.table

theorem State.engineSettle_owedOk (h : s.owedOk) : s.engineSettle.owedOk := h.congr (by simp) (by simp)

theorem State.insert_owedOk {e : Entry} (h : s.owedOk) (he : s.role = .bin → s.cfg.owedWithin e) :
    (s.insert e).1.owedOk := by
  rcases s.insert_cases e with ⟨p, -, k⟩ | ⟨-, k⟩ <;> rw [k]
  · intro hrole x hx
    rcases mem_placeEntry.1 hx with rfl | hx
    · exact he hrole
    · exact h hrole x (List.mem_of_mem_filter hx)
  · exact h

theorem ownAt_owedWithin {c : HeldConfig} (h : 0 < c.sendLimit) (p : Nat) (r : Report) (second : Nat) :
    c.owedWithin (ownAt p r second) := fun _ => ⟨h, fun k => absurd rfl k⟩

/-- A heard report is stored as OWED only below the hop limit (R112, R116). -/
theorem State.received_owedWithin (h : 0 < s.cfg.sendLimit) (r : RxEntry) (rxTime position : Nat) (origin : Origin) :
    s.cfg.owedWithin (s.received r rxTime position origin) := by
  intro howed
  refine ⟨h, fun _ => ?_⟩
  by_contra hlimit
  have : s.arrival (min Config.hopsMax (r.hops + 1)) = .held := if_pos (.inr (Nat.le_of_not_lt hlimit))
  have howed : s.arrival (min Config.hopsMax (r.hops + 1)) = .owed := howed
  rw [this] at howed
  cases howed

theorem State.issueOwn_owedOk {f : Figures} {told : Told} (emptied : Bool) (seq next : Seq) (hlimit : 0 < s.cfg.sendLimit)
    (hf : s.est.figures = some f) (h : s.owedOk) : (s.issueOwn s.clock emptied seq next told).1.owedOk := by
  obtain ⟨u, rfl, ⟨own, -, k⟩ | ⟨-, k⟩⟩ := State.issueOwn_cases emptied seq next told hf <;> rw [k]
  · refine h.map rfl rfl fun _ e _ he => ?_
    split
    · exact ownAt_owedWithin hlimit _ _ _
    · exact he
  · exact State.insert_owedOk (h.congr rfl rfl) fun _ => ownAt_owedWithin hlimit 0 _ _

/-- A change to one entry of a well-formed table that keeps that entry within the limits. -/
theorem State.alter_owedOk {e : Entry} {f : Entry → Entry} {told : Told} (h : s.owedOk) (hwf : tableWf s.table)
    (he : e ∈ s.table) (hf : s.role = .bin → s.cfg.owedWithin e → s.cfg.owedWithin (f e)) :
    (s.alter e f told).1.owedOk := by
  refine h.map rfl rfl fun hrole x hx hwithin => ?_
  split
  · next hid =>
    obtain rfl := entry_unique hwf hx he (.inl hid)
    exact hf hrole hwithin
  · exact hwithin

theorem Entry.hearAgain_owedWithin {c : HeldConfig} {e : Entry} (suppress : Nat) (howed : e.owing = .owed)
    (h : c.owedWithin e) : c.owedWithin (e.hearAgain suppress) := fun _ => h howed

theorem State.alters.owedOk {rs : List RxEntry} {rxTime : Nat} {told told' : Told}
    (h : State.alters rs rxTime s told t told') (hs : s.owedOk) (htable : s.tableOk) (hrun : s.running = true)
    (hlimit : 0 < s.cfg.sendLimit) : t.owedOk := by
  induction h with
  | refl | raised | sequence => exact hs
  | trans h _ ih ih' =>
    obtain ⟨hrun', hconfig, -⟩ := h.keeps
    exact ih' (ih hs htable hrun hlimit) (h.tableOk htable hrun) (hrun'.trans hrun) (State.cfg_congr hconfig ▸ hlimit)
  | issued emptied seq next hrole hfigures => exact State.issueOwn_owedOk _ _ _ hlimit hfigures hs
  | heardAgain he howed =>
    exact State.alter_owedOk hs htable.1 he fun _ => Entry.hearAgain_owedWithin _ howed
  | repaired he hrole hheld hsent hhops =>
    refine State.alter_owedOk hs htable.1 he fun _ _ _ => ⟨hsent, fun hown => hhops.resolve_left fun hid => ?_⟩
    exact hown ((htable.2 _ he).2 ⟨State.isBin_iff.2 ⟨hrun, hrole⟩, hid⟩)
  | ownSolicited he hrole hown =>
    have horigin := (htable.2 _ he).2 ⟨State.isBin_iff.2 ⟨hrun, hrole⟩, hown⟩
    exact State.alter_owedOk hs htable.1 he fun _ _ _ => ⟨hlimit, fun k => absurd horigin k⟩
  | relayed g hrole =>
    refine hs.map rfl rfl fun _ e _ he => ?_
    split
    · next hanswers =>
      simp only [State.answers, Bool.and_eq_true, decide_eq_true_iff] at hanswers
      exact fun _ => ⟨hlimit, fun _ => hanswers.2⟩
    · exact he
  | @superseded s told r e hr he hbin hnot =>
    refine hs.map (f := fun x => if x.report.binId = e.report.binId then s.received r rxTime x.position x.origin else x)
      (by simp [State.supersede]) (by simp [State.supersede, changeEntry]) fun _ x _ hx => ?_
    split
    · exact State.received_owedWithin hlimit _ _ _ _
    · exact hx
  | @inserted s told r hr habsent hnot =>
    have hinsert := State.insert_owedOk hs fun _ =>
      State.received_owedWithin hlimit r rxTime 0 (s.cfg.originOf r.report.binId)
    unfold State.mergeAbsentBin
    dsimp only
    split
    · exact hs
    · split
      · exact hinsert.congr (by simp) (by simp)
      · exact hinsert
  | drained =>
    refine hs.map rfl rfl fun _ x _ hx => ?_
    split
    · exact nofun
    · exact hx

/-- An echo outcome leaves OWED what has been sent less often than the send limit (R132). -/
theorem Entry.sentOnce_owedWithin {c : HeldConfig} {e : Entry} (echoed : Bool) (h : c.owedWithin e) :
    c.owedWithin (e.sentOnce echoed c.sendLimit) := by
  intro howed
  have howing : owingAfter echoed c.sendLimit (bump Config.smallCountMax e.sent) e.owing = .owed := howed
  cases hbefore : e.owing with
  | held => rw [hbefore] at howing; cases howing
  | drained => rw [hbefore] at howing; cases howing
  | owed =>
    rw [hbefore, owingAfter] at howing
    split at howing
    · cases howing
    · next hnot =>
      simp only [Bool.or_eq_true, decide_eq_true_iff, not_or, not_le] at hnot
      exact ⟨hnot.2, (h hbefore).2⟩

/-- The send limit of a running station is at least 1 (R175, R176). -/
theorem State.configOk.sendLimit_pos (h : s.configOk) (hrun : s.running = true) : 0 < s.cfg.sendLimit := by
  obtain ⟨hsome, hrange, -⟩ := h
  obtain ⟨c, hc⟩ := Option.isSome_iff_exists.1 (hsome hrun)
  have hin := hrange c (by simp [hc])
  rw [State.cfg, hc]
  simp only [HeldConfig.inRange, within, Bool.and_eq_true, decide_eq_true_iff] at hin
  obtain ⟨⟨⟨-, hsend, -⟩, -⟩, -⟩ := hin
  exact hsend

theorem does_owedOk {c : Instr} {s u : State} (h : Does c s u) (hs : s.owedOk) (htable : s.tableOk) (hclear : s.clearedOk)
    (hconfig : s.configOk) : u.owedOk := by
  by_cases hc : altersTable c = false
  · obtain ⟨-, hconfig, htable⟩ := h.sameTable hc
    exact hs.aside hconfig htable
  cases h with
  | start hrun =>
    obtain ⟨-, -, -, hretained, -⟩ := hclear.2 hrun
    rw [State.startRunning_eq]
    intro _ e he howed
    obtain ⟨x, hx, rfl⟩ := List.mem_map.1 (show e ∈ prepareTable _ s.table from he)
    have hmem : x ∈ s.table := by
      split at hx
      · exact List.mem_of_mem_filter hx
      · exact hx
    exact absurd howed (hretained x hmem).2.1
  | restart =>
    intro _ e he howed
    obtain ⟨x, -, rfl⟩ := List.mem_map.1 (show e ∈ restartTable s.table from he)
    dsimp only at howed
    split at howed
    · cases howed
    · exact absurd howed ‹_›
  | sample | nothing | noBoundary => exact hs
  | issue range flags hrun hrole =>
    have hissued := (s.sampleIssue_alters range flags hrole).owedOk hs htable hrun
      (hconfig.sendLimit_pos hrun)
    exact State.engineSettle_owedOk ((State.hear_reselects _ (s.sampleIssue range flags).2).owedOk hissued)
  | complete =>
    rename_i b r _
    have hhanded : (State.handed b r { s with port := { s.port with resultAt := none } }).owedOk := by
      rcases State.handed_table b r with h | h
      · exact State.owedOk.congr hs rfl h
      · refine State.owedOk.map hs rfl h fun _ e _ he => ?_
        split
        · exact nofun
        · exact he
    exact State.engineSettle_owedOk
      ((State.selectorSettle_reselects _).owedOk ((State.handed_reselects b r).owedOk hhanded))
  | hardReset => exact fun _ => List.forall_mem_nil _
  | boundary =>
    have hswept : (State.sweep { s with boundaryDue := false }).1.owedOk := fun hrole e he =>
      hs hrole e (List.mem_of_mem_filter he)
    refine State.owedOk.congr ((State.hear_reselects _ (State.sweep { s with boundaryDue := false }).2).owedOk hswept)
      ?_ ?_ <;> unfold State.countProbe State.countBoundary <;> (repeat' split) <;> simp
  | merge hmerging =>
    rename_i m
    have hrun := hclear.running_of_merging hmerging
    have hmerged := (s.mergePart_alters m).owedOk hs htable hrun (hconfig.sendLimit_pos hrun)
    exact State.engineSettle_owedOk ((State.hear_reselects _ (s.mergePart m).2).owedOk (s := { (s.mergePart m).1 with
      pair := (s.mergePart m).1.pair.advance m }) hmerged)
  | awaitEchoEnd hstate =>
    rename_i echoed carrier first
    refine State.owedOk.congr (s := s.takeOutcome echoed first) ?_ (by simp) (by simp)
    by_cases hsend : s.sel.stageCond = some .sending
    · obtain ⟨f, hf⟩ := Selector.stageCond_eq_sending.1 hsend
      have houtcome : ({ s with table := outcomeTable echoed s.cfg.sendLimit f s.table } : State).owedOk :=
        hs.map rfl rfl fun _ e _ he => by
          split
          · exact Entry.sentOnce_owedWithin echoed he
          · exact he
      exact houtcome.aside (by simp) (State.takeOutcome_table echoed first hf)
    · exact hs.aside (by simp) (State.takeOutcome_table_of_not echoed first hsend)
  | _ => simp [altersTable] at hc

end

end Sys2Proof.Machine
end

section
open Sys2Proof Sys2Proof.Machine

/-- Settles O59: each effect of a command keeps OWED entries below the limits. -/
theorem owedInvariant : Obligations.OwedInvariant := fun _ _ hs htable hclear hconfig h =>
  step_induction (P := fun s => s.owedOk ∧ s.tableOk ∧ s.clearedOk ∧ s.configOk) (Q := State.owedOk)
    (fun u t hut hu => by rw [hut]; exact hu) (fun s _ h => h) (fun h => h.1)
    (fun c s u ⟨hs, htable, hclear, hconfig⟩ hdoes => does_owedOk hdoes hs htable hclear hconfig)
    ⟨hs, htable, hclear, hconfig⟩ h

end

section
/-! PROOFS. Values stay in their ranges through every step (O54): the monitor's counts, the estimator, the gateway unit,
the counters. -/

namespace Sys2Proof.Machine

/-! ### The parts a command does not move -/

/-- The parts that are not the command's are the same, SDO set aside. -/
def State.spares (c : Instr) (s u : State) : Prop :=
  ∀ p, p ∉ movedBy c → p ≠ .sdo → p ≠ .resultAt → p.same s u

theorem exec_does_spares {c : Instr} {s t : State} (h : exec c s = .next t) :
    ∃ u, Does c s u ∧ s.spares c u ∧ u.butSdo t := by
  obtain ⟨u, hu, hut⟩ := exec_does h
  refine ⟨u, hu, fun p hp hsdo hresult => ?_, hut⟩
  have hsame := same_of_exec h hp
  rw [hut] at hsame
  cases p <;> first | exact hsame | contradiction

/-- `step_induction`, with the parts the command does not move. -/
theorem step_induction_spared {P Q : State → Prop} {s t : State} (hsdo : ∀ u t : State, u.butSdo t → Q u → Q t)
    (hpending : ∀ (s : State) rest, P s → P { s with pending := rest }) (hidle : P s → Q s)
    (hdoes : ∀ (c : Instr) (s u : State), P s → Does c s u → s.spares c u → Q u) (hs : P s) (h : step s = .next t) :
    Q t := by
  unfold step at h
  split at h
  · obtain rfl := Host.Outcome.next.inj h
    exact hidle hs
  · next c rest _ =>
    obtain ⟨u, hu, hspares, hut⟩ := exec_does_spares h
    exact hsdo u t hut (hdoes c _ u (hpending s rest hs) hu hspares)

/-! ### The monitor (R141) -/

section
variable {m : Monitor}

theorem Monitor.work_ok (hfault : m.receptionFault ≤ Config.faultCountMax) (hsend : m.sendFailure < Config.muteCount)
    (harmed : m.armed = false) (hrecovery : m.recovery = 0) : m.work.ok := by
  unfold Monitor.work Monitor.ok
  by_cases h : Config.quietThreshold < m.sendFailure ∨ Config.quietThreshold < m.receptionFault
  · simp [h, hfault, hsend, harmed, hrecovery, Config.recoveryGoal]
  · simp [h, hfault, hsend, harmed, hrecovery, Config.recoveryGoal]
    omega

theorem Monitor.outcome_ok (echoed autoRejoin : Bool) (interval : Nat) (h : m.ok) :
    (m.outcome echoed autoRejoin interval).ok := by
  obtain ⟨hfault, hrecovery, hmute, hnot, hactive, hquiet, harmed⟩ := h
  unfold Monitor.outcome
  by_cases hstanding : m.standing = .mute
  · rw [if_pos hstanding]
    split
    · simp [Monitor.ok, hfault, Config.recoveryGoal, Config.probeEchoedCount, Config.muteCount, Config.quietThreshold]
    · simpa [Monitor.ok, hstanding, hfault, hrecovery] using harmed
  · rw [if_neg hstanding]
    obtain ⟨hsend, hoff⟩ := hnot hstanding
    split
    · exact Monitor.work_ok hfault (by dsimp only; omega) hoff (harmed hoff)
    · dsimp only
      split
      · simp [Monitor.ok, Monitor.enterMute, hfault, Config.recoveryGoal]
      · next hne =>
        exact Monitor.work_ok hfault (lt_of_le_of_ne (min_le_left _ _) hne) hoff (harmed hoff)

theorem faultAfterGood_le {n : Nat} (h : n ≤ Config.faultCountMax) : faultAfterGood n ≤ Config.faultCountMax := by
  unfold faultAfterGood Config.faultCountMax Config.faultResetCount at *
  split <;> omega

theorem Monitor.good_ok (clash : Bool) (h : m.ok) : (m.good clash).ok := by
  obtain ⟨hfault, hrecovery, hmute, hnot, -, -, harmed⟩ := h
  have hcount := faultAfterGood_le hfault
  unfold Monitor.good
  dsimp only
  by_cases hstanding : m.standing = .mute
  · rw [if_pos hstanding]
    split
    · next hcounts =>
      have harmed : m.armed = true := by simp_all
      split
      · simp [Monitor.ok, Config.recoveryGoal, Config.muteCount]
      · simp [Monitor.ok, hcount, hstanding, hmute hstanding, harmed]
        omega
    · simpa [Monitor.ok, hcount, hstanding, hmute hstanding, hrecovery] using harmed
  · rw [if_neg hstanding]
    obtain ⟨hsend, hoff⟩ := hnot hstanding
    exact Monitor.work_ok hcount hsend hoff (harmed hoff)

theorem Monitor.bad_ok (h : m.ok) : m.bad.ok := by
  obtain ⟨hfault, hrecovery, hmute, hnot, -, -, harmed⟩ := h
  have hcount : bump Config.faultCountMax m.receptionFault ≤ Config.faultCountMax := min_le_left _ _
  unfold Monitor.bad
  dsimp only
  by_cases hstanding : m.standing = .mute
  · rw [if_pos hstanding]
    simpa [Monitor.ok, hcount, hstanding, hmute hstanding, hrecovery] using harmed
  · rw [if_neg hstanding]
    obtain ⟨hsend, hoff⟩ := hnot hstanding
    exact Monitor.work_ok hcount hsend hoff (harmed hoff)

/-- The bounds do not look at the probe timer. -/
theorem Monitor.ok.probeTimer (h : m.ok) (n : Nat) : ({ m with probeTimer := n } : Monitor).ok := h

end

theorem Monitor.reset_ok : Monitor.reset.ok := by
  simp [Monitor.reset, Monitor.ok, Config.recoveryGoal, Config.muteCount]

theorem does_monOk {c : Instr} {s u : State} (h : Does c s u) (hspares : s.spares c u) (hs : s.mon.ok) : u.mon.ok := by
  by_cases hc : ∃ p ∈ [Part.standing, .armed, .probeTimer], p ∈ movedBy c
  · cases h with
    | restart | hardReset => exact Monitor.reset_ok
    | rejoin hrun hmute =>
      obtain ⟨hfault, hrecovery, hsend, -, -, -, -⟩ := hs
      exact ⟨hfault, hrecovery, hsend, fun k => absurd hmute k, fun k => by simp [hmute] at k, fun k => by simp [hmute] at k,
        nofun⟩
    | nothing | noBoundary => exact hs
    | boundary =>
      unfold State.countProbe State.countBoundary
      (repeat' split) <;> simpa [State.sweep] using hs
    | won hstate hcontends hstage =>
      unfold State.fieldWon State.spend
      simp only [hstage]
      (repeat' split) <;> exact hs
    | receiving => exact hs
    | goodFrame => simpa [State.goodFrame, State.monitorGood] using Monitor.good_ok _ hs
    | badFrame => simpa [State.monitorBad] using Monitor.bad_ok hs
    | awaitEchoEnd => simpa [State.takeOutcome_mon] using Monitor.outcome_ok _ _ _ hs
    | _ => simp [movedBy] at hc
  · have hnot : ∀ p ∈ [Part.standing, .armed, .probeTimer], p ∉ movedBy c := fun p hp hmoved => hc ⟨p, hp, hmoved⟩
    have hwith : ∀ p ∈ [Part.sendFailure, .receptionFault, .recovery], p ∈ movedBy c → Part.standing ∈ movedBy c ∨
        Part.armed ∈ movedBy c := by cases c <;> simp [movedBy]
    have hcounts : ∀ p ∈ [Part.sendFailure, .receptionFault, .recovery], p ∉ movedBy c := fun p hp hmoved =>
      (hwith p hp hmoved).elim (hnot _ (by simp)) (hnot _ (by simp))
    obtain ⟨hstanding, harmed⟩ : u.mon.standing = s.mon.standing ∧ u.mon.armed = s.mon.armed :=
      ⟨hspares .standing (hnot _ (by simp)) nofun nofun, hspares .armed (hnot _ (by simp)) nofun nofun⟩
    obtain ⟨hsend, hfault, hrecovery⟩ : u.mon.sendFailure = s.mon.sendFailure ∧
        u.mon.receptionFault = s.mon.receptionFault ∧ u.mon.recovery = s.mon.recovery :=
      ⟨hspares .sendFailure (hcounts _ (by simp)) nofun nofun, hspares .receptionFault (hcounts _ (by simp)) nofun nofun,
        hspares .recovery (hcounts _ (by simp)) nofun nofun⟩
    unfold Monitor.ok
    rwa [hstanding, harmed, hsend, hfault, hrecovery]

end Sys2Proof.Machine
end

section
/-! PROOFS. The ranges of the estimator, of received frames, of the gateway unit and of the counters (O54). -/

namespace Sys2Proof.Machine

/-! ### The estimator (R55) -/

namespace Estimator

variable {c : HeldConfig} {t range : Nat} {e : Estimator}

theorem cleared_inRange (h : e.inRange) : e.cleared.inRange := by
  obtain ⟨-, -, -, -, -, -, -, -, hlid⟩ := h
  simpa [Estimator.inRange, cleared, reset] using hlid

theorem joinWindow_inRange (h : e.inRange) (hr : range ≤ Config.rangeMax) :
    (joinWindow e.window range).length ≤ 3 ∧ ∀ d ∈ joinWindow e.window range, d ≤ Config.rangeMax := by
  obtain ⟨hlen, hmem, -⟩ := h
  unfold joinWindow
  refine ⟨?_, fun d hd => ?_⟩
  · split <;> simp <;> omega
  · rcases List.mem_append.1 hd with hd | hd
    · split at hd
      · exact hmem d hd
      · exact hmem d (List.mem_of_mem_drop hd)
    · rw [List.mem_singleton.1 hd]
      exact hr

theorem filteredRange_le {w : List Nat} {n : Nat} (h : ∀ d ∈ w, d ≤ n) : filteredRange w ≤ n := by
  unfold filteredRange
  split <;> simp at h ⊢ <;> omega

theorem levelOf_le (empty full d : Nat) : (levelOf empty full d).1 ≤ 1000 := by
  unfold levelOf
  split_ifs with h1 h2 h3
  · simp
  · simp
  · simp
  · have hle : 2000 * (empty - d) + (empty - full) ≤ 1000 * (2 * (empty - full)) + (empty - full) := by omega
    have hlt : 2000 * (empty - d) + (empty - full) < (1000 + 1) * (2 * (empty - full)) := by omega
    exact Nat.lt_succ_iff.1 ((Nat.div_lt_iff_lt_mul (by omega)).2 hlt)

theorem timeToFull_le (level rate : Nat) : timeToFull level rate ≤ 65535 := by
  unfold timeToFull Config.notFilling
  split_ifs <;> omega

theorem moveRate_inRange {level : Nat} (compaction : Bool) (h : e.inRange) (hlevel : level ≤ 1000)
    (ht : t ≤ Config.clockMax) : (e.moveRate t level compaction).inRange := by
  obtain ⟨hlen, hwindow, hrun, hrate, hfigures, hanchor, hemptied, hlast, hlid⟩ := id h
  have hnew : ∀ a ∈ (some (level, t)).toList, a.1 ≤ 1000 ∧ a.2 ≤ Config.clockMax := by simpa using ⟨hlevel, ht⟩
  unfold moveRate
  split_ifs
  · exact ⟨hlen, hwindow, hrun, hrate, hfigures, hnew, hemptied, hlast, hlid⟩
  · exact ⟨hlen, hwindow, hrun, Nat.zero_le _, hfigures, hnew, by simpa using ht, hlast, hlid⟩
  · rcases ha : e.anchor with _ | ⟨la, ta⟩
    · rw [rateStep_first ha]
      exact ⟨hlen, hwindow, hrun, hrate, hfigures, hnew, hemptied, hlast, hlid⟩
    · by_cases hshort : t - ta < 60
      · rwa [rateStep_hold ha hshort]
      · rw [rateStep_measure ha (by omega)]
        refine ⟨hlen, hwindow, hrun, ?_, hfigures, hnew, hemptied, hlast, hlid⟩
        have hmeasured := measuredRate_le level la (t - ta)
        dsimp only
        split <;> omega

theorem takeSample_inRange (kind : SampleKind) (h : e.inRange) (ht : t ≤ Config.clockMax) :
    (e.takeSample c t range kind).1.inRange := by
  have hadmit : ∀ compaction, (e.admitRange c t (min Config.rangeMax range) compaction).1.inRange := fun compaction => by
    have hwindow := joinWindow_inRange h (min_le_left Config.rangeMax range)
    have hmoved := moveRate_inRange (level := e.levelAfter c (min Config.rangeMax range)) compaction h
      (levelOf_le _ _ _) ht
    obtain ⟨-, -, -, hrate, -, hanchor, hemptied, hlast, hlid⟩ := hmoved
    rw [admitRange_fst]
    exact ⟨hwindow.1, hwindow.2, Nat.zero_le _, hrate,
      by simpa using ⟨levelOf_le _ _ _, timeToFull_le _ _, filteredRange_le hwindow.2⟩, hanchor, hemptied, hlast, hlid⟩
  obtain ⟨hlen, hwindow, hrun, hrate, hfigures, hanchor, hemptied, hlast, hlid⟩ := id h
  cases kind with
  | lid => exact ⟨hlen, hwindow, hrun, hrate, hfigures, hanchor, hemptied, hlast, min_le_left _ _⟩
  | fault => exact ⟨hlen, hwindow, min_le_left _ _, hrate, hfigures, hanchor, hemptied, hlast, hlid⟩
  | compaction => exact hadmit true
  | plain => exact hadmit false

theorem reported_inRange {f : Figures} (next : Seq) (h : e.inRange) (hf : e.figures = some f) (ht : t ≤ Config.clockMax) :
    (e.reported f t next).inRange := by
  obtain ⟨hlen, hwindow, hrun, hrate, hfigures, hanchor, hemptied, hlast, hlid⟩ := h
  refine ⟨hlen, hwindow, hrun, hrate, hfigures, hanchor, hemptied, ?_, hlid⟩
  simpa [reported] using ⟨(hfigures f (by simp [hf])).1, ht⟩

theorem ownReport_inRange {f : Figures} (emptied : Bool) (seq : Seq) (h : e.inRange) (hf : e.figures = some f) :
    (ownReport c t emptied seq e f).inRange := by
  obtain ⟨-, -, -, hrate, hfigures, -⟩ := h
  obtain ⟨hlevel, httf, -⟩ := hfigures f (by simp [hf])
  refine ⟨hlevel, hrate, httf, ?_⟩
  cases hemptied : e.emptiedAt <;> simp [ownReport, hemptied]

end Estimator

end Sys2Proof.Machine
end

section
/-! PROOFS. The ranges of entries, of received frames and of the copies in the frame slots (O54); the frames in the slots
through every effect. -/

namespace Sys2Proof.Machine

/-! ### Received frames (R41, R52) -/

theorem readEntryBytes_inRange {bs rest : List Byte} {e : RxEntry} (h : readEntryBytes bs = some (e, rest)) :
    e.report.inRange ∧ e.age ≤ Config.ageMax ∧ e.hops ≤ Config.hopsMax := by
  have htwo : ∀ off, fieldAt bs off 2 < 65536 := fun off => fieldAt_lt bs off 2
  unfold readEntryBytes at h
  obtain ⟨-, h⟩ := Option.ite_none_left_eq_some.1 h
  obtain ⟨rfl, -⟩ := Prod.mk.inj (Option.some.inj h)
  have hrate := htwo 8
  have httf := htwo 10
  have hsince := htwo 14
  have hage := htwo 12
  refine ⟨⟨min_le_left _ _, by dsimp only; omega, by dsimp only; omega, ?_⟩, ?_, ?_⟩
  · dsimp only
    split
    · simp
      omega
    · simp
  · simp only [Config.ageMax]
    omega
  · simp only [Config.hopsMax]
    omega

theorem readEntries_inRange {n : Nat} {bs : List Byte} {es : List RxEntry} (h : readEntries n bs = some es) :
    ∀ e ∈ es, e.report.inRange ∧ e.age ≤ Config.ageMax ∧ e.hops ≤ Config.hopsMax := by
  induction n generalizing bs es with
  | zero =>
    unfold readEntries at h
    split at h
    · cases h
      nofun
    · cases h
  | succ n ih =>
    unfold readEntries at h
    split at h
    · cases h
    · next e rest he =>
      split at h
      · cases h
      · next es' hes =>
        cases h
        exact List.forall_mem_cons.2 ⟨readEntryBytes_inRange he, ih hes⟩

theorem readBody_inRange {body : List Byte} {seen : Option Bool} {second : Nat} {f : RxFrame}
    (h : readBody body seen second = some f) (hsecond : second ≤ Config.clockMax) : f.inRange := by
  unfold readBody at h
  dsimp only at h
  split_ifs at h
  · obtain ⟨es, hes, rfl⟩ := Option.map_eq_some_iff.1 h
    exact ⟨hsecond, readEntries_inRange hes⟩
  · cases h
    exact ⟨hsecond, fun _ => nofun⟩
  · obtain ⟨is, -, rfl⟩ := Option.map_eq_some_iff.1 h
    exact ⟨hsecond, fun _ => nofun⟩

/-- Bits judged good passed every check and give the record read from their body (R17). -/
theorem judge_good {rxd : List Bool} {seen : Option Bool} {second : Nat} {f : RxFrame}
    (h : judge rxd seen second = .good f) :
    ∃ kept body, takeBits .start rxd = .closed kept ∧ closeBody kept = some body ∧ crcPasses body = true ∧
      readBody body seen second = some f := by
  unfold judge at h
  split at h
  · cases h
  · cases h
  · next kept hkept =>
    split at h
    · cases h
    · next body hbody =>
      split at h
      · next hcrc =>
        split at h
        · next frame hread =>
          cases h
          exact ⟨kept, body, hkept, hbody, hcrc, hread⟩
        · cases h
      · cases h

theorem judge_inRange {rxd : List Bool} {seen : Option Bool} {second : Nat} {f : RxFrame}
    (h : judge rxd seen second = .good f) (hsecond : second ≤ Config.clockMax) : f.inRange := by
  obtain ⟨_, _, -, -, -, hread⟩ := judge_good h
  exact readBody_inRange hread hsecond

/-- The frames the receive pair holds are in range. -/
def ReceivePair.inRange (p : ReceivePair) : Prop := ∀ f ∈ p.frames, f.inRange

theorem ReceivePair.inRange_iff {p : ReceivePair} :
    p.inRange ↔ (∀ m, p.merging = some m → m.frame.inRange) ∧ ∀ f, p.waiting = some f → f.inRange := by
  unfold ReceivePair.inRange ReceivePair.frames
  rcases p.merging with _ | m <;> rcases p.waiting with _ | w <;> simp

theorem ReceivePair.place_inRange {p : ReceivePair} {f : RxFrame} (h : p.inRange) (hf : f.inRange) :
    (p.place f).1.inRange := by
  rw [ReceivePair.inRange_iff] at h ⊢
  obtain ⟨hm, hw⟩ := h
  unfold ReceivePair.place
  split
  · exact ⟨fun m hm => by cases hm; exact hf, hw⟩
  · exact ⟨hm, fun g hg => by cases hg; exact hf⟩
  · exact ⟨hm, fun g hg => by cases hg; exact hf⟩

theorem State.handOver_pair_inRange {s : State} {f : RxFrame} (h : s.pair.inRange) (hf : f.inRange) :
    (s.handOver f).pair.inRange := by
  unfold State.handOver
  dsimp only
  split
  · exact h
  · split <;> exact ReceivePair.place_inRange h hf

theorem ReceivePair.advance_inRange {p : ReceivePair} {m : Merging} (h : p.inRange) (hm : p.merging = some m) :
    (p.advance m).inRange := by
  rw [ReceivePair.inRange_iff] at h ⊢
  obtain ⟨hmerging, hwaiting⟩ := h
  unfold ReceivePair.advance
  split
  · exact ⟨fun n hn => by cases hn; exact hmerging m hm, hwaiting⟩
  · refine ⟨fun n hn => ?_, fun _ => nofun⟩
    obtain ⟨f, hf, rfl⟩ := Option.map_eq_some_iff.1 hn
    exact hwaiting f hf

/-! ### Entries (R83) -/

section
variable {s t : State}

theorem State.received_inRange {r : RxEntry} {rxTime : Nat} (position : Nat) (origin : Origin)
    (hr : r.report.inRange ∧ r.age ≤ Config.ageMax ∧ r.hops ≤ Config.hopsMax) (htime : rxTime ≤ Config.clockMax) :
    (s.received r rxTime position origin).inRange :=
  ⟨hr.1, hr.2.1, htime, min_le_left _ _, Nat.zero_le _, Nat.zero_le _⟩

theorem ownAt_inRange {r : Report} {second : Nat} (p : Nat) (hr : r.inRange) (hsecond : second ≤ Config.clockMax) :
    (ownAt p r second).inRange :=
  ⟨hr, Nat.zero_le _, hsecond, Nat.zero_le _, Nat.zero_le _, Nat.zero_le _⟩

theorem State.insert_inRange {e : Entry} (h : ∀ x ∈ s.table, x.inRange) (he : e.inRange) :
    ∀ x ∈ (s.insert e).1.table, x.inRange := by
  rcases s.insert_cases e with ⟨p, -, k⟩ | ⟨-, k⟩ <;> rw [k]
  · intro x hx
    rcases mem_placeEntry.1 hx with rfl | hx
    · exact he
    · exact h x (List.mem_of_mem_filter hx)
  · exact h

theorem forall_mem_changed {t : List Entry} {p : Entry → Prop} [DecidablePred p] {f : Entry → Entry} {P : Entry → Prop}
    (h : ∀ e ∈ t, P e) (hf : ∀ e ∈ t, P e → P (f e)) : ∀ e ∈ t.map (fun e => if p e then f e else e), P e := fun e he => by
  obtain ⟨x, hx, rfl⟩ := List.mem_map.1 he
  split
  · exact hf x hx (h x hx)
  · exact h x hx

/-- The changes of the merge and of an issue keep the entries and the estimator in range. -/
theorem State.alters.inRange {rs : List RxEntry} {rxTime : Nat} {told told' : Told}
    (h : State.alters rs rxTime s told t told')
    (hrs : ∀ r ∈ rs, r.report.inRange ∧ r.age ≤ Config.ageMax ∧ r.hops ≤ Config.hopsMax) (htime : rxTime ≤ Config.clockMax)
    (hclock : s.clock ≤ Config.clockMax) (htable : ∀ e ∈ s.table, e.inRange) (hest : s.est.inRange) :
    (∀ e ∈ t.table, e.inRange) ∧ t.est.inRange := by
  induction h with
  | refl | raised | sequence => exact ⟨htable, hest⟩
  | trans h _ ih ih' =>
    obtain ⟨htable', hest'⟩ := ih hclock htable hest
    obtain ⟨-, -, hsame, -⟩ := h.keeps
    exact ih' (hsame ▸ hclock) htable' hest'
  | @issued s told f emptied seq next hrole hfigures =>
    have hreport := Estimator.ownReport_inRange (c := s.cfg) (t := s.clock) emptied seq hest hfigures
    have hreported := Estimator.reported_inRange next hest hfigures hclock
    obtain ⟨u, rfl, ⟨own, -, k⟩ | ⟨-, k⟩⟩ := State.issueOwn_cases emptied seq next _ hfigures <;> rw [k]
    · exact ⟨forall_mem_changed htable fun e _ _ => ownAt_inRange _ hreport hclock, hreported⟩
    · refine ⟨State.insert_inRange htable (ownAt_inRange 0 hreport hclock), ?_⟩
      simpa using hreported
  | heardAgain =>
    refine ⟨forall_mem_changed htable fun e _ ⟨hreport, hage, htime, hhops, _, hsent⟩ => ?_, hest⟩
    exact ⟨hreport, hage, htime, hhops, min_le_left _ _, hsent⟩
  | repaired | drained => exact ⟨forall_mem_changed htable fun e _ he => he, hest⟩
  | ownSolicited =>
    refine ⟨forall_mem_changed htable fun e _ ⟨hreport, hage, htime, hhops, _, _⟩ => ?_, hest⟩
    exact ⟨hreport, hage, htime, hhops, Nat.zero_le _, Nat.zero_le _⟩
  | relayed =>
    refine ⟨forall_mem_changed htable fun e _ ⟨hreport, hage, htime, hhops, _, _⟩ => ?_, hest⟩
    exact ⟨hreport, hage, htime, hhops, Nat.zero_le _, Nat.zero_le _⟩
  | superseded hr =>
    refine ⟨?_, by simpa [State.supersede] using hest⟩
    simp only [State.supersede, State.queueJoin_keeps]
    exact forall_mem_changed htable fun e _ _ => State.received_inRange _ _ (hrs _ hr) htime
  | @inserted s told r hr =>
    have hinsert := State.insert_inRange htable
      (State.received_inRange (s := s) 0 (s.cfg.originOf r.report.binId) (hrs _ hr) htime)
    unfold State.mergeAbsentBin
    dsimp only
    split
    · exact ⟨htable, hest⟩
    · split <;> simpa using ⟨hinsert, hest⟩

/-! ### The frames in the slots -/

/-- The frames of both slots after a selection are frames of before or may have been built. -/
theorem State.reselects.frames_of {P : FrameRec → Prop} (h : s.reselects t) (hs : ∀ f ∈ s.sel.frames, P f)
    (hbuilt : ∀ f, s.mayBuild f → P f) : ∀ f ∈ t.sel.frames, P f := fun f hf =>
  (h.frames hf).elim (hs f) (hbuilt f)

end

end Sys2Proof.Machine
end

section
/-! PROOFS. The frames in the slots through every effect: each was there before, with its probe mark or without, or has been
built of the table as it stood or stands. -/

namespace Sys2Proof.Machine

/-- Every frame that may be built in this life, with this configuration, of this table has the property. -/
def State.builds (P : FrameRec → Prop) (s : State) : Prop :=
  ∀ (w : State) f, w.running = s.running → w.config = s.config → samePlacesAside w.table s.table → w.mayBuild f → P f

section
variable {P : FrameRec → Prop} {s t : State}

theorem State.builds.aside (h : t.builds P) (hrun : s.running = t.running) (hconfig : s.config = t.config)
    (htable : samePlacesAside s.table t.table) : s.builds P := fun w f hr hc ht =>
  h w f (hr.trans hrun) (hc.trans hconfig) (samePlacesAside_trans ht htable)

theorem State.reselects.frames_builds (h : s.reselects t) (hs : ∀ f ∈ s.sel.frames, P f) (hbuilds : s.builds P) :
    ∀ f ∈ t.sel.frames, P f :=
  h.frames_of hs fun f => hbuilds s f rfl rfl rfl

theorem State.commit_frames : s.commit.sel.frames = s.sel.frames := by
  rcases s.commit_sel with ⟨h, -⟩ | ⟨f, hf, h⟩ <;> rw [h]
  simp [Selector.frames, hf]

theorem State.engineSettle_frames : s.engineSettle.sel.frames = s.sel.frames := by
  rcases s.engineSettle_cases with h | ⟨-, -, -, -, h⟩ | ⟨-, -, -, -, -, -, h⟩ <;> rw [h]
  exact State.commit_frames

theorem State.beginField_frames : s.beginField.sel.frames = s.sel.frames := by
  unfold State.beginField
  change (if s.stageEligible then s.commit else s).sel.frames = _
  split
  · exact State.commit_frames
  · rfl

theorem State.fieldWon_frames : s.fieldWon.sel.frames = s.sel.frames := by
  unfold State.fieldWon State.spend
  rcases h : s.sel.stage with _ | ⟨f, cond⟩
  · rfl
  · dsimp only
    (repeat' split) <;> simp [Selector.frames, h]

theorem State.moveUp_frames {f : FrameRec} (hf : f ∈ s.moveUp.sel.frames) : f ∈ s.sel.frames := by
  unfold State.moveUp at hf
  split at hf
  · next hnone => simp [Selector.frames, hnone] at hf
  · next g hg =>
    obtain rfl : f = g := by simpa [Selector.frames] using hf
    simp [Selector.frames, hg]

theorem State.afterLoss_frames {g f : FrameRec} (hg : s.sel.stage = some { frame := g, cond := .committed })
    (hf : f ∈ (s.afterLoss g).sel.frames) : f ∈ s.sel.frames := by
  unfold State.afterLoss at hf
  split at hf
  · simp [Selector.frames, State.withdrawBoth] at hf
  · simpa [Selector.frames, hg] using hf

theorem State.fieldLost_frames (hs : ∀ f ∈ s.sel.frames, P f) (hbuilds : s.builds P) :
    ∀ f ∈ s.fieldLost.sel.frames, P f := by
  by_cases hc : s.sel.stageCond = some .committed
  · obtain ⟨g, hg⟩ := Selector.stageCond_eq_committed.1 hc
    rw [State.fieldLost_of_committed hg]
    refine (State.selectorSettle_reselects _).frames_builds (fun f hf => hs f (State.afterLoss_frames hg hf)) ?_
    unfold State.afterLoss
    split
    · exact hbuilds.aside rfl rfl (State.withdrawBoth_sameAside _)
    · exact hbuilds
  · rwa [State.fieldLost_of_not hc]

/-- A STAGED probe that loses its mark keeps the property. -/
def probeKeeps (P : FrameRec → Prop) : Prop := ∀ key es, P ⟨key, .fill es true⟩ → P ⟨key, .fill es false⟩

theorem State.unprobed_frames (hmark : probeKeeps P) (hs : ∀ f ∈ s.sel.frames, P f) :
    ∀ f ∈ s.unprobed.sel.frames, P f := by
  rcases s.unprobed_cases with h | ⟨key, es, hstage, h⟩ <;> rw [h]
  · exact hs
  · intro f hf
    simp only [Selector.frames, List.mem_append, Option.mem_toList] at hf hs
    rcases hf with hf | hf
    · exact hs f (.inl hf)
    · obtain rfl := Option.some.inj hf
      exact hmark key es (hs _ (.inr (by simp [hstage])))

theorem State.setMonitor_frames (m : Monitor) (hmark : probeKeeps P) (hs : ∀ f ∈ s.sel.frames, P f)
    (hbuilds : s.builds P) : ∀ f ∈ (s.setMonitor m).sel.frames, P f := by
  rcases s.setMonitor_cases m with ⟨-, h⟩ | ⟨-, -, h⟩ | ⟨-, -, -, h⟩ | ⟨-, -, -, h⟩ <;> rw [h]
  · exact hs
  · exact (State.enterMute_reselects _).frames_builds hs hbuilds
  · refine (State.selectorSettle_reselects _).frames_builds (State.unprobed_frames hmark hs) ?_
    rw [State.unprobed_eq]
    exact hbuilds
  · exact (State.selectorSettle_reselects _).frames_builds hs hbuilds

theorem State.applyOutcome_frames (echoed : Bool) (g : FrameRec) (hs : ∀ f ∈ s.sel.frames, P f) (hbuilds : s.builds P) :
    ∀ f ∈ (s.applyOutcome echoed g).sel.frames, P f := by
  unfold State.applyOutcome
  split
  · simpa using hs
  · unfold State.drainOutcome
    dsimp only
    (repeat' split)
    · exact hs
    · exact (State.withdrawWhere_reselects _ _).frames_builds hs hbuilds
    · exact (State.withdrawWhere_reselects _ _).frames_builds hs hbuilds
  · unfold State.solicitOutcome
    dsimp only
    (repeat' split)
    · exact hs
    · exact hs
    · exact (State.withdrawWhere_reselects _ _).frames_builds hs hbuilds
    · exact hs

theorem State.echoOutcome_frames (echoed : Bool) (hs : ∀ f ∈ s.sel.frames, P f) (hbuilds : s.builds P)
    (hafter : (s.echoOutcome echoed).builds P) : ∀ f ∈ (s.echoOutcome echoed).sel.frames, P f := by
  by_cases hc : s.sel.stageCond = some .sending
  · obtain ⟨g, hg⟩ := Selector.stageCond_eq_sending.1 hc
    have hre := State.selectorSettle_reselects (s.applyOutcome echoed g).moveUp
    rw [s.echoOutcome_of_sending echoed hg] at hafter ⊢
    refine hre.frames_builds (fun f hf => State.applyOutcome_frames echoed g hs hbuilds f (State.moveUp_frames hf)) ?_
    exact hafter.aside hre.running.symm hre.config.symm (samePlacesAside_symm hre.table)
  · rwa [s.echoOutcome_of_not echoed hc]

theorem State.takeOutcome_frames (echoed first : Bool) (hmark : probeKeeps P) (hs : ∀ f ∈ s.sel.frames, P f)
    (hbuilds : s.builds P) (hafter : (s.takeOutcome echoed first).builds P) :
    ∀ f ∈ (s.takeOutcome echoed first).sel.frames, P f := by
  unfold State.takeOutcome at hafter ⊢
  split at hafter
  · next hfirst =>
    rw [if_pos hfirst]
    refine State.echoOutcome_frames echoed (State.setMonitor_frames _ hmark hs hbuilds) ?_ hafter
    exact hbuilds.aside (by simp) (by simp) (State.setMonitor_sameAside _)
  · next hfirst =>
    rw [if_neg hfirst]
    have hecho : (s.echoOutcome echoed).builds P :=
      hafter.aside (by simp) (by simp) (samePlacesAside_symm (State.setMonitor_sameAside _))
    exact State.setMonitor_frames _ hmark (State.echoOutcome_frames echoed hs hbuilds hecho) hecho

/-- Settling the engine behind a selection: the frames are those of the selection. -/
theorem State.reselects.frames_settled (h : s.reselects t) (hs : ∀ f ∈ s.sel.frames, P f)
    (hbuilds : t.engineSettle.builds P) : ∀ f ∈ t.engineSettle.sel.frames, P f := by
  rw [State.engineSettle_frames]
  refine h.frames_builds hs (hbuilds.aside ?_ ?_ ?_)
  · simpa using h.running.symm
  · simpa using h.config.symm
  · simpa using samePlacesAside_symm h.table

/-- The frames after an effect have what the frames before it have and what may be built has. -/
theorem Does.frames {c : Instr} {u : State} (h : Does c s u) (hmark : probeKeeps P) (hs : ∀ f ∈ s.sel.frames, P f)
    (hbuilds : s.builds P) (hafter : u.builds P) : ∀ f ∈ u.sel.frames, P f := by
  cases h with
  | start =>
    rw [State.startRunning_eq]
    exact hs
  | restart | hardReset => exact fun _ => nofun
  | issue range flags =>
    refine (State.hear_reselects _ _).frames_settled ?_ hafter
    obtain ⟨hbuild, hstage, -⟩ := s.sampleIssue_same range flags
    rwa [Selector.frames, hbuild, hstage]
  | solicit bin mask =>
    rename_i maxClass _ _ _
    obtain ⟨v, hv, k⟩ := s.solicitAct_made bin mask maxClass
    rw [k] at hafter ⊢
    exact (hv.trans (State.selectorSettle_reselects v)).frames_settled hs hafter
  | complete =>
    rename_i b r _
    exact ((State.handed_reselects b r).trans (State.selectorSettle_reselects _)).frames_settled hs hafter
  | boundary =>
    have hheard := (State.hear_reselects (State.sweep { s with boundaryDue := false }).1
      (State.sweep { s with boundaryDue := false }).2)
    have hcount : ∀ v : State, v.countBoundary.countProbe.sel.frames = v.sel.frames ∧
        v.countBoundary.countProbe.table = v.table ∧ v.countBoundary.countProbe.running = v.running ∧
        v.countBoundary.countProbe.config = v.config := fun v => by
      unfold State.countProbe State.countBoundary
      (repeat' split) <;> exact ⟨rfl, rfl, rfl, rfl⟩
    obtain ⟨hframes, htable, hrun, hconfig⟩ := hcount ((State.sweep { s with boundaryDue := false }).1.hear
      (State.sweep { s with boundaryDue := false }).2)
    rw [State.engineSettle_frames, hframes]
    refine hheard.frames_builds hs (hafter.aside ?_ ?_ ?_)
    · simp [hrun]
    · simp [hconfig]
    · rw [State.engineSettle_table, htable]
      exact samePlacesAside_symm hheard.table
  | refill =>
    exact (State.selectorSettle_reselects _).frames_settled (s := { s with sel := { s.sel with
      refillCount := 0, allowance := min s.cfg.capacity (s.sel.allowance + 1) } }) hs hafter
  | probe => exact (State.selectorSettle_reselects _).frames_settled hs hafter
  | carrierSeen | windowAwake | tailEndLeave => simpa using hs
  | lingerExpiry | fallAwake | gap | markWait | echoSlotEnd => simpa [State.engineSettle_frames] using hs
  | fallField | wakeEndLow | wakingFall => simpa [State.beginField_frames] using hs
  | wakingCap =>
    rw [State.engineSettle_frames]
    exact State.fieldLost_frames (s := { s with eng := s.eng.enterAwake true }) hs hbuilds
  | slotLost | contentionLost => exact State.fieldLost_frames (P := P) hs hbuilds
  | won => simpa [State.fieldWon_frames] using hs
  | goodFrame => exact State.setMonitor_frames _ hmark (by simpa using hs) (hbuilds.aside (by simp) (by simp) (by simp; rfl))
  | badFrame =>
    rw [State.engineSettle_frames]
    simpa [State.monitorBad] using State.setMonitor_frames s.mon.bad hmark hs hbuilds
  | awaitEchoEnd =>
    rename_i echoed carrier first _
    rw [State.engineSettle_frames]
    simpa using State.takeOutcome_frames echoed first hmark hs hbuilds
      (hafter.aside (by simp) (by simp) (by simp; rfl))
  | merge hmerging =>
    rename_i m
    refine (State.hear_reselects _ _).frames_settled ?_ hafter
    obtain ⟨hbuild, hstage, -⟩ := s.mergePart_same m
    change ∀ f ∈ (s.mergePart m).1.sel.frames, P f
    rwa [Selector.frames, hbuild, hstage]
  | _ => exact hs

end

end Sys2Proof.Machine
end

section
/-! PROOFS. Every value stays in its range through every step (O54). -/

namespace Sys2Proof.Machine

/-! ### The gateway unit after an echo outcome (R133, R134) -/

/-- The drain list and the drain-drop count after the outcome of a DRAIN frame of these items. -/
def Gateway.drainedBy (echoed : Bool) (sendLimit : Nat) (items : List (BinId × Seq)) (g : Gateway) : Gateway :=
  let hit := fun (i : DrainItem) => items.contains (i.binId, i.seq)
  if echoed then { g with drainList := g.drainList.filter (fun i => !hit i) }
  else { g with
    drainList := g.drainList.filterMap (fun i => if hit i then i.unechoed sendLimit else some i),
    drainDrop := min Config.count16Max
      (g.drainDrop + ((g.drainList.filter hit).filter (fun i => (i.unechoed sendLimit).isNone)).length) }

/-- The pending solicit after the outcome of a SOLICIT frame that carries the one of this serial. -/
def Gateway.solicitedBy (echoed : Bool) (sendLimit serial : Nat) (g : Gateway) : Gateway :=
  match g.solicit with
  | none => g
  | some p =>
    if p.serial ≠ serial then g
    else if echoed || decide (sendLimit ≤ bump Config.smallCountMax p.sent) then { g with solicit := none }
    else { g with solicit := some { p with sent := bump Config.smallCountMax p.sent } }

/-- The gateway unit after the outcome of a frame. -/
def Gateway.afterOutcome (echoed : Bool) (sendLimit : Nat) (f : FrameRec) (g : Gateway) : Gateway :=
  match f.payload with
  | .fill _ _ => g
  | .drain items =>
    if (g.drainList.filter (fun i => items.contains (i.binId, i.seq))).isEmpty then g
    else g.drainedBy echoed sendLimit items
  | .solicit _ serial => g.solicitedBy echoed sendLimit serial

section
variable {s t : State}

theorem State.applyOutcome_gw (echoed : Bool) (f : FrameRec) :
    (s.applyOutcome echoed f).gw = s.gw.afterOutcome echoed s.cfg.sendLimit f := by
  rcases hf : f.payload with ⟨es, probe⟩ | items | ⟨target, serial⟩ <;>
    simp only [State.applyOutcome, Gateway.afterOutcome, hf]
  · simp
  · unfold State.drainOutcome Gateway.drainedBy
    dsimp only
    split
    · rfl
    · split <;> rw [(State.withdrawWhere_reselects _ _).gw]
  · unfold State.solicitOutcome Gateway.solicitedBy
    rcases s.gw.solicit with _ | p
    · rfl
    · dsimp only
      split
      · rfl
      · split
        · rw [(State.withdrawWhere_reselects _ _).gw]
        · rfl

theorem State.echoOutcome_gw (echoed : Bool) {f : FrameRec} (hf : s.sel.stage = some { frame := f, cond := .sending }) :
    (s.echoOutcome echoed).gw = s.gw.afterOutcome echoed s.cfg.sendLimit f := by
  rw [s.echoOutcome_of_sending echoed hf, (State.selectorSettle_reselects _).gw, ← State.applyOutcome_gw]
  simp

theorem State.takeOutcome_gw (echoed first : Bool) {f : FrameRec}
    (hf : s.sel.stage = some { frame := f, cond := .sending }) :
    (s.takeOutcome echoed first).gw = s.gw.afterOutcome echoed s.cfg.sendLimit f := by
  unfold State.takeOutcome
  split
  · have hcore : (s.monitorOutcome echoed).sel.core = some { frame := f, cond := .sending } :=
      (s.setMonitor_core _).trans (Selector.core_of_cond hf nofun)
    rw [State.echoOutcome_gw echoed (Selector.core_cond hcore).1, State.cfg_congr (t := s.monitorOutcome echoed) (s := s)
      (by simp)]
    simp
  · simpa using State.echoOutcome_gw echoed hf

theorem State.takeOutcome_gw_of_not (echoed first : Bool) (h : s.sel.stageCond ≠ some .sending) :
    (s.takeOutcome echoed first).gw = s.gw := by
  have hnot : (s.monitorOutcome echoed).sel.stageCond ≠ some .sending := by
    rw [ne_eq, Selector.stageCond_core (cond := .sending) nofun] at h ⊢
    rwa [State.monitorOutcome, State.setMonitor_core]
  unfold State.takeOutcome
  rw [State.echoOutcome_of_not _ _ h, State.echoOutcome_of_not _ _ hnot]
  split <;> simp

end

theorem Gateway.afterOutcome_inRange {g : Gateway} (echoed : Bool) (sendLimit : Nat) (f : FrameRec) (h : g.inRange) :
    (g.afterOutcome echoed sendLimit f).inRange := by
  obtain ⟨hitems, hsolicit⟩ := h
  unfold Gateway.afterOutcome
  split
  · exact ⟨hitems, hsolicit⟩
  · split
    · exact ⟨hitems, hsolicit⟩
    · unfold Gateway.drainedBy
      dsimp only
      split
      · exact ⟨fun i hi => hitems i (List.mem_of_mem_filter hi), hsolicit⟩
      · refine ⟨fun i hi => ?_, hsolicit⟩
        obtain ⟨j, hj, hji⟩ := List.mem_filterMap.1 hi
        split at hji
        · unfold DrainItem.unechoed at hji
          dsimp only at hji
          split at hji
          · cases hji
          · cases hji
            exact min_le_left _ _
        · obtain rfl := Option.some.inj hji
          exact hitems _ hj
  · unfold Gateway.solicitedBy
    split
    · exact ⟨hitems, hsolicit⟩
    · next p hp =>
      obtain ⟨-, hmax⟩ := hsolicit p (by simp [hp])
      split
      · exact ⟨hitems, hsolicit⟩
      · split
        · exact ⟨hitems, fun _ => nofun⟩
        · exact ⟨hitems, fun q hq => by
            obtain rfl := Option.some.inj (Option.mem_toList.1 hq)
            exact ⟨min_le_left _ _, hmax⟩⟩

theorem enterDrainList_sent {l : List DrainItem} (b : BinId) (r : Seq) (h : ∀ i ∈ l, i.sent ≤ Config.smallCountMax) :
    ∀ i ∈ (enterDrainList b r l).1, i.sent ≤ Config.smallCountMax := by
  have hnew : ∀ l' : List DrainItem, (∀ i ∈ l', i.sent ≤ Config.smallCountMax) →
      ∀ i ∈ l' ++ [{ binId := b, seq := r, sent := 0 }], i.sent ≤ Config.smallCountMax := fun l' h' i hi => by
    rcases List.mem_append.1 hi with hi | hi
    · exact h' i hi
    · rw [List.mem_singleton.1 hi]
      exact Nat.zero_le _
  have hset : ∀ f : DrainItem → DrainItem, (∀ i, (f i).sent = 0) →
      ∀ i ∈ l.map (fun x => if x.binId = b then f x else x), i.sent ≤ Config.smallCountMax := fun f hf i hi => by
    obtain ⟨x, hx, rfl⟩ := List.mem_map.1 hi
    split
    · rw [hf]
      exact Nat.zero_le _
    · exact h x hx
  unfold enterDrainList
  split
  · dsimp only
    split
    · exact hnew l h
    · exact hnew _ fun i hi => h i (List.mem_of_mem_drop hi)
  · split
    · exact hset _ fun _ => rfl
    · exact hset _ fun _ => rfl
    · exact h
    · exact h

section
variable {c : Instr} {s u : State}

/-! ### The estimator, the gateway unit and the receive pair -/

theorem State.taken_inRange (range : Nat) (flags : Byte) (h : s.est.inRange) (hclock : s.clock ≤ Config.clockMax) :
    (s.taken range flags).1.inRange :=
  Estimator.takeSample_inRange _ h hclock

/-- What the merge makes of a table and an estimator in range (O54). -/
theorem State.mergePart_inRange {m : Merging} (hm : s.pair.merging = some m)
    (hpair : s.pair.inRange) (hclock : s.clock ≤ Config.clockMax) (htable : ∀ e ∈ s.table, e.inRange)
    (hest : s.est.inRange) : (∀ e ∈ (s.mergePart m).1.table, e.inRange) ∧ (s.mergePart m).1.est.inRange := by
  obtain ⟨htime, hentries⟩ := (ReceivePair.inRange_iff.1 hpair).1 m hm
  exact (s.mergePart_alters m).inRange hentries htime hclock htable hest

/-- A property of one part alone, kept by the commands that move the part. -/
theorem State.spares.keep {p : Part} (h : s.spares c u) (hp : p ∉ movedBy c) (hsdo : p ≠ .sdo) (hresult : p ≠ .resultAt) :
    p.same s u := h p hp hsdo hresult

theorem does_estimator_inRange (h : Does c s u) (hspares : s.spares c u) (hpair : s.pair.inRange)
    (hclock : s.clock ≤ Config.clockMax) (htable : ∀ e ∈ s.table, e.inRange)
    (hest : s.est.inRange) : u.est.inRange := by
  by_cases hc : Part.estimator ∈ movedBy c
  · cases h with
    | nothing => exact hest
    | start =>
      rw [State.startRunning_eq]
      exact Estimator.cleared_inRange (e := s.est) hest
    | restart => exact Estimator.cleared_inRange hest
    | sample range flags => exact State.taken_inRange range flags hest hclock
    | issue range flags hrun hrole =>
      simpa using ((s.sampleIssue_alters range flags hrole).inRange nofun (Nat.zero_le _) hclock
        htable (State.taken_inRange range flags hest hclock)).2
    | hardReset => simp [State.reset, Estimator.reset, Estimator.inRange]
    | merge hmerging =>
      simpa using (State.mergePart_inRange hmerging hpair hclock htable hest).2
    | _ => simp [movedBy] at hc
  · exact (hspares.keep hc nofun nofun) ▸ hest

theorem Entry.inRange_aside {e : Entry} (p : Placement) (h : ({ e with placed := p } : Entry).inRange) : e.inRange := h

theorem does_table_inRange (h : Does c s u) (hpair : s.pair.inRange) (hclock : s.clock ≤ Config.clockMax)
    (htable : ∀ e ∈ s.table, e.inRange) (hest : s.est.inRange) : ∀ e ∈ u.table, e.inRange := by
  have haside : ∀ {v w : State}, samePlacesAside v.table w.table → (∀ e ∈ w.table, e.inRange) →
      ∀ e ∈ v.table, e.inRange := fun hvw => forall_of_samePlacesAside (fun _ => Entry.inRange_aside) hvw
  by_cases hc : altersTable c = false
  · exact haside (h.sameTable hc).2.2 htable
  cases h with
  | nothing | sample | noBoundary => exact htable
  | start =>
    rw [State.startRunning_eq]
    intro e he
    obtain ⟨x, hx, rfl⟩ := List.mem_map.1 (show e ∈ prepareTable _ s.table from he)
    refine htable x ?_
    split at hx
    · exact List.mem_of_mem_filter hx
    · exact hx
  | restart =>
    intro e he
    obtain ⟨x, hx, rfl⟩ := List.mem_map.1 (show e ∈ restartTable s.table from he)
    obtain ⟨hreport, hage, htime, hhops, -, -⟩ := htable x (List.mem_of_mem_filter hx)
    exact ⟨hreport, hage, htime, hhops, Nat.zero_le _, Nat.zero_le _⟩
  | issue range flags hrun hrole =>
    have hissued := (s.sampleIssue_alters range flags hrole).inRange nofun (Nat.zero_le _) hclock htable
      (State.taken_inRange range flags hest hclock)
    rw [State.engineSettle_table]
    exact haside (State.hear_sameAside _ _) hissued.1
  | complete =>
    rename_i b r _
    rw [State.engineSettle_table]
    refine haside (samePlacesAside_trans (State.selectorSettle_sameAside _) (State.handed_reselects b r).table) ?_
    rcases State.handed_table (s := { s with port := { s.port with resultAt := none } }) b r with h | h <;> rw [h]
    · exact htable
    · exact forall_mem_changed htable fun e _ he => he
  | hardReset => exact fun _ => nofun
  | boundary =>
    have hswept : ∀ e ∈ (State.sweep { s with boundaryDue := false }).1.table, e.inRange := fun e he =>
      htable e (List.mem_of_mem_filter he)
    have hheard := haside (State.hear_sameAside _ (State.sweep { s with boundaryDue := false }).2) hswept
    rw [State.engineSettle_table]
    unfold State.countProbe State.countBoundary
    (repeat' split) <;> exact hheard
  | merge hmerging =>
    rename_i m
    rw [State.engineSettle_table]
    exact haside (State.hear_sameAside _ _) (State.mergePart_inRange hmerging hpair hclock htable hest).1
  | awaitEchoEnd hstate =>
    rename_i echoed carrier first
    rw [State.engineSettle_table, (State.frameEnd_moves _ carrier) .table (by simp)]
    by_cases hsend : s.sel.stageCond = some .sending
    · obtain ⟨f, hf⟩ := Selector.stageCond_eq_sending.1 hsend
      have houtcome : ∀ e ∈ outcomeTable echoed s.cfg.sendLimit f s.table, e.inRange := fun e he => by
        obtain ⟨x, hx, rfl⟩ := List.mem_map.1 he
        obtain ⟨hreport, hage, htime, hhops, hheard, hsent⟩ := htable x hx
        split
        · exact ⟨hreport, hage, htime, hhops, hheard, min_le_left _ _⟩
        · exact ⟨hreport, hage, htime, hhops, hheard, hsent⟩
      exact haside (v := s.takeOutcome echoed first)
        (w := { s with table := outcomeTable echoed s.cfg.sendLimit f s.table }) (State.takeOutcome_table echoed first hf)
        houtcome
    · exact haside (State.takeOutcome_table_of_not echoed first hsend) htable
  | _ => simp [altersTable] at hc

/-- The copies of a frame that may be built are in range with the table. -/
theorem State.builds_inRange (h : ∀ e ∈ s.table, e.inRange) : s.builds (fun f => ∀ e ∈ f.copies, e.inRange) := by
  intro w f _ _ htable ⟨_, hmade⟩ d hd
  have hw : ∀ e ∈ w.table, e.inRange := forall_of_samePlacesAside (fun _ => Entry.inRange_aside) htable h
  cases hrole : w.role with
  | bin =>
    rw [hrole] at hmade
    obtain ⟨c, rest, probe, hpayload, hrefs⟩ := hmade
    obtain ⟨e, he, -, rfl⟩ := hrefs d (by simpa [FrameRec.copies, hpayload] using hd)
    obtain ⟨hreport, hage, htime, hhops, -, -⟩ := hw e he
    exact ⟨hreport, hage, htime, hhops⟩
  | gateway =>
    rw [hrole] at hmade
    rcases hmade with ⟨items, hpayload, -⟩ | ⟨p, target, -, hpayload⟩ <;> simp [FrameRec.copies, hpayload] at hd

theorem does_frames_inRange (h : Does c s u) (hs : ∀ f ∈ s.sel.frames, ∀ e ∈ f.copies, e.inRange)
    (htable : ∀ e ∈ s.table, e.inRange) (hafter : ∀ e ∈ u.table, e.inRange) :
    ∀ f ∈ u.sel.frames, ∀ e ∈ f.copies, e.inRange :=
  h.frames (P := fun f => ∀ e ∈ f.copies, e.inRange) (fun _ _ => id) hs (State.builds_inRange htable)
    (State.builds_inRange hafter)

theorem does_pair_inRange (h : Does c s u) (hspares : s.spares c u) (hpair : s.pair.inRange)
    (hclock : s.clock ≤ Config.clockMax) : u.pair.inRange := by
  by_cases hc : Part.pair ∈ movedBy c
  · cases h with
    | nothing => exact hpair
    | restart | hardReset => exact fun _ => nofun
    | goodFrame hstate hjudge =>
      simpa [State.goodFrame] using State.handOver_pair_inRange hpair (judge_inRange hjudge hclock)
    | merge hmerging =>
      rename_i m
      have hsame : (s.mergePart m).1.pair = s.pair := s.mergePart_moves m .pair (by simp)
      simpa [hsame] using ReceivePair.advance_inRange hpair hmerging
    | _ => simp [movedBy] at hc
  · exact (hspares.keep hc nofun nofun) ▸ hpair

theorem does_gateway_inRange (h : Does c s u) (hspares : s.spares c u) (hgw : s.gw.inRange) : u.gw.inRange := by
  by_cases hc : ∃ p ∈ [Part.drainList, .solicit], p ∈ movedBy c
  · cases h with
    | nothing => exact hgw
    | restart | hardReset => exact ⟨fun _ => nofun, fun _ => nofun⟩
    | solicit bin mask hmax =>
      rename_i maxClass _ _
      obtain ⟨v, hv, k⟩ := s.solicitAct_made bin mask maxClass
      rw [k]
      obtain ⟨hitems, -⟩ := hgw
      have hmade : (s.made bin mask maxClass).gw.inRange := ⟨hitems, by simpa [State.made] using hmax⟩
      simpa [hv.gw] using hmade
    | complete =>
      rename_i b r _
      obtain ⟨hitems, hsolicit⟩ := hgw
      have hhanded : (State.handed b r { s with port := { s.port with resultAt := none } }).gw.inRange :=
        ⟨enterDrainList_sent b r hitems, hsolicit⟩
      simpa [(State.handed_reselects b r).gw] using hhanded
    | awaitEchoEnd =>
      rename_i echoed carrier first _
      by_cases hsend : s.sel.stageCond = some .sending
      · obtain ⟨f, hf⟩ := Selector.stageCond_eq_sending.1 hsend
        simpa [State.takeOutcome_gw echoed first hf] using Gateway.afterOutcome_inRange echoed s.cfg.sendLimit f hgw
      · simpa [State.takeOutcome_gw_of_not echoed first hsend] using hgw
    | _ => simp [movedBy] at hc
  · have hdrain := hspares.keep (p := .drainList) (fun hp => hc ⟨_, by simp, hp⟩) nofun nofun
    have hsolicit := hspares.keep (p := .solicit) (fun hp => hc ⟨_, by simp, hp⟩) nofun nofun
    rw [Gateway.inRange, show u.gw.drainList = _ from hdrain, show u.gw.solicit = _ from hsolicit]
    exact hgw

end

end Sys2Proof.Machine
end

section
/-! PROOFS. The saturating counters, and the result phase of a transaction, through every step; every value stays in its
range (O54). -/

namespace Sys2Proof.Machine

section
variable {c : Instr} {s t u : State}

/-! ### The counters (R80, R185) -/

theorem State.insert_refusals (e : Entry) (h : s.refusals ≤ Config.count16Max) :
    (s.insert e).1.refusals ≤ Config.count16Max := by
  rcases s.insert_cases e with ⟨p, -, k⟩ | ⟨-, k⟩ <;> rw [k]
  · exact h
  · exact min_le_left _ _

theorem State.alters.refusals {rs : List RxEntry} {rxTime : Nat} {told told' : Told}
    (h : State.alters rs rxTime s told t told') (hs : s.refusals ≤ Config.count16Max) :
    t.refusals ≤ Config.count16Max := by
  induction h with
  | trans _ _ ih ih' => exact ih' (ih hs)
  | issued emptied seq next hrole hfigures =>
    obtain ⟨u, rfl, ⟨own, -, k⟩ | ⟨-, k⟩⟩ := State.issueOwn_cases emptied seq next _ hfigures <;> rw [k]
    · exact hs
    · exact State.insert_refusals _ hs
  | superseded => simpa [State.supersede] using hs
  | @inserted s told r =>
    have hinsert := State.insert_refusals (s.received r rxTime 0 (s.cfg.originOf r.report.binId)) hs
    unfold State.mergeAbsentBin
    dsimp only
    split
    · exact hs
    · split <;> simpa using hinsert
  | _ => exact hs

theorem does_refusals (h : Does c s u) (hspares : s.spares c u) (hs : s.refusals ≤ Config.count16Max) :
    u.refusals ≤ Config.count16Max := by
  by_cases hc : Part.refusals ∈ movedBy c
  · cases h with
    | nothing | sample => exact hs
    | issue range flags hrun hrole => simpa using (s.sampleIssue_alters range flags hrole).refusals hs
    | hardReset => exact Nat.zero_le _
    | merge hmerging =>
      rename_i m
      simpa using (s.mergePart_alters m).refusals hs
    | _ => simp [movedBy] at hc
  · exact (hspares.keep hc nofun nofun) ▸ hs

theorem does_clock (h : Does c s u) (hspares : s.spares c u) (hs : s.clock ≤ Config.clockMax) :
    u.clock ≤ Config.clockMax := by
  by_cases hc : Part.clock ∈ movedBy c
  · cases h with
    | nothing => exact hs
    | tick hclock => exact hclock
    | release | hardReset => exact Nat.zero_le _
    | _ => simp [movedBy] at hc
  · exact (hspares.keep hc nofun nofun) ▸ hs

theorem ReceivePair.place_counts (p : ReceivePair) (f : RxFrame) :
    (p.place f).1.clash = p.clash ∧
      ((p.place f).1.overrun = p.overrun ∨ (p.place f).1.overrun = bump Config.count16Max p.overrun) := by
  unfold ReceivePair.place
  split <;> simp

theorem State.handOver_counts {f : RxFrame} (hclash : s.pair.clash ≤ Config.count16Max)
    (hoverrun : s.pair.overrun ≤ Config.count16Max) :
    (s.handOver f).pair.clash ≤ Config.count16Max ∧ (s.handOver f).pair.overrun ≤ Config.count16Max := by
  obtain ⟨hsame, hplaced⟩ := s.pair.place_counts f
  have hover : (s.pair.place f).1.overrun ≤ Config.count16Max := by
    rcases hplaced with h | h <;> rw [h]
    · exact hoverrun
    · exact min_le_left _ _
  unfold State.handOver
  dsimp only
  split
  · exact ⟨min_le_left _ _, hoverrun⟩
  · split <;> exact ⟨hsame ▸ hclash, hover⟩

theorem does_pair_counts (h : Does c s u) (hspares : s.spares c u) (hclash : s.pair.clash ≤ Config.count16Max)
    (hoverrun : s.pair.overrun ≤ Config.count16Max) :
    u.pair.clash ≤ Config.count16Max ∧ u.pair.overrun ≤ Config.count16Max := by
  by_cases hc : Part.pair ∈ movedBy c
  · cases h with
    | nothing | restart => exact ⟨hclash, hoverrun⟩
    | hardReset => exact ⟨Nat.zero_le _, Nat.zero_le _⟩
    | goodFrame => simpa [State.goodFrame] using State.handOver_counts hclash hoverrun
    | merge hmerging =>
      rename_i m
      have hsame : (s.mergePart m).1.pair = s.pair := s.mergePart_moves m .pair (by simp)
      simpa [hsame, ReceivePair.advance_counts] using ⟨hclash, hoverrun⟩
    | _ => simp [movedBy] at hc
  · rw [show u.pair = s.pair from hspares.keep hc nofun nofun]
    exact ⟨hclash, hoverrun⟩

theorem Gateway.afterOutcome_drainDrop {g : Gateway} (echoed : Bool) (sendLimit : Nat) (f : FrameRec)
    (h : g.drainDrop ≤ Config.count16Max) : (g.afterOutcome echoed sendLimit f).drainDrop ≤ Config.count16Max := by
  unfold Gateway.afterOutcome
  split
  · exact h
  · split
    · exact h
    · unfold Gateway.drainedBy
      dsimp only
      split
      · exact h
      · exact min_le_left _ _
  · unfold Gateway.solicitedBy
    (repeat' split) <;> exact h

theorem does_drainDrop (h : Does c s u) (hspares : s.spares c u) (hs : s.gw.drainDrop ≤ Config.count16Max) :
    u.gw.drainDrop ≤ Config.count16Max := by
  by_cases hc : Part.drainDrop ∈ movedBy c
  · cases h with
    | nothing => exact hs
    | hardReset => exact Nat.zero_le _
    | complete =>
      rename_i b r _
      have hhanded : (State.handed b r { s with port := { s.port with resultAt := none } }).gw.drainDrop ≤
          Config.count16Max := by
        unfold State.handed
        dsimp only
        split
        · exact min_le_left _ _
        · exact hs
      simpa [(State.handed_reselects b r).gw] using hhanded
    | awaitEchoEnd =>
      rename_i echoed carrier first _
      by_cases hsend : s.sel.stageCond = some .sending
      · obtain ⟨f, hf⟩ := Selector.stageCond_eq_sending.1 hsend
        simpa [State.takeOutcome_gw echoed first hf] using Gateway.afterOutcome_drainDrop echoed s.cfg.sendLimit f hs
      · simpa [State.takeOutcome_gw_of_not echoed first hsend] using hs
    | _ => simp [movedBy] at hc
  · exact (hspares.keep hc nofun nofun) ▸ hs

theorem does_engineCounts (h : Does c s u) (hspares : s.spares c u) (hheard : s.eng.heard ≤ Config.count32Max)
    (hsent : s.eng.sent ≤ Config.count32Max) (hlost : s.eng.lost ≤ Config.count32Max) :
    u.eng.heard ≤ Config.count32Max ∧ u.eng.sent ≤ Config.count32Max ∧ u.eng.lost ≤ Config.count32Max := by
  refine ⟨?_, ?_, ?_⟩
  · by_cases hc : Part.heard ∈ movedBy c
    · cases h with
      | nothing => exact hheard
      | hardReset => exact Nat.zero_le _
      | goodFrame => exact min_le_left _ _
      | _ => simp [movedBy] at hc
    · exact (hspares.keep hc nofun nofun) ▸ hheard
  · by_cases hc : Part.sent ∈ movedBy c
    · cases h with
      | nothing => exact hsent
      | hardReset => exact Nat.zero_le _
      | closingMark => exact min_le_left _ _
      | _ => simp [movedBy] at hc
    · exact (hspares.keep hc nofun nofun) ▸ hsent
  · by_cases hc : Part.lost ∈ movedBy c
    · cases h with
      | nothing | slot => exact hlost
      | hardReset => exact Nat.zero_le _
      | slotLost | contentionLost =>
        have hbump : ∀ n, bump Config.count32Max n ≤ Config.count32Max := fun _ => min_le_left _ _
        simpa [State.loseField] using hbump _
      | _ => simp [movedBy] at hc
    · exact (hspares.keep hc nofun nofun) ▸ hlost

/-! ### The result phase (R168) -/

theorem State.reselects.port (h : s.reselects t) : t.port = s.port := by rw [h.rest]

/-- The bytes before the result phase are on SDO. -/
def Port.resultWithin (p : Port) : Prop := ∀ n ∈ p.resultAt.toList, n ≤ p.sdo.length

theorem State.returns_resultWithin (bytes : List Byte) : (s.returns bytes).port.resultWithin := fun _ => nofun

theorem State.replies_resultWithin (head result : List Byte) : (s.replies head result).port.resultWithin := fun n hn => by
  obtain rfl := Option.some.inj (Option.mem_toList.1 hn)
  simp

theorem Port.selRises_resultWithin (p : Port) (clocked : Clocked) : (p.selRises clocked).resultWithin := by
  rw [Port.selRises_keeps]
  exact fun _ => nofun

theorem State.serve_resultWithin (k : PortCommand) (args : List Byte) (act : State → State × List Byte) :
    (s.serve k args act).port.resultWithin := by
  rcases s.serve_cases k args act with ⟨-, h⟩ | ⟨-, code, -, h⟩ | ⟨-, -, h⟩ <;> rw [h]
  · exact State.returns_resultWithin _
  · exact State.replies_resultWithin _ _
  · exact State.replies_resultWithin _ _

theorem exec_resultWithin (h : exec c s = .next t) (hs : s.port.resultWithin) : t.port.resultWithin := by
  by_cases hc : Part.sdo ∉ movedBy c ∧ Part.resultAt ∉ movedBy c
  · have hsdo := same_of_exec h hc.1
    have hresult := same_of_exec h hc.2
    rw [Port.resultWithin, show t.port.resultAt = _ from hresult, show t.port.sdo = _ from hsdo]
    exact hs
  · cases c with
    | exportNextCompletion =>
      rw [exec_exportNextCompletion, execExportNextCompletion] at h
      dsimp only at h
      split at h
      · next b r _ =>
        obtain rfl := Host.Outcome.next.inj h
        have hdelivered : (State.deliver b r { s with port := { s.port with resultAt := none } }).port.resultAt = none :=
          congrArg Port.resultAt (State.handed_reselects b r).port
        rw [Port.resultWithin]
        simp [hdelivered]
      · obtain rfl := Host.Outcome.next.inj h
        exact fun _ => nofun
    | exportCutShort clocked =>
      obtain rfl := Host.Outcome.next.inj h
      exact Port.selRises_resultWithin _ _
    | unknownCommand code args =>
      rw [exec_unknownCommand, execUnknownCommand] at h
      split_ifs at h <;> obtain rfl := Host.Outcome.next.inj h
      · exact hs
      · exact State.replies_resultWithin _ _
      · exact State.returns_resultWithin _
    | transactionAbandoned place =>
      rw [exec_transactionAbandoned] at h
      cases place <;> simp only [execTransactionAbandoned] at h
      case inCode | inCount =>
        obtain rfl := Host.Outcome.next.inj h
        exact State.returns_resultWithin _
      case inArgs =>
        split at h <;> obtain rfl := Host.Outcome.next.inj h
        · exact State.returns_resultWithin _
        · exact hs
      case afterEffect =>
        split at h <;> obtain rfl := Host.Outcome.next.inj h
        · exact hs
        · exact Port.selRises_resultWithin _ _
    | hardReset =>
      obtain rfl := Host.Outcome.next.inj h
      exact fun _ => nofun
    | readStatus | readOwn | readEntry | readSlot | start | restart | rejoin | postSample | solicit | exportNext |
      clearNotices | setNoticeMask =>
      obtain rfl := Host.Outcome.next.inj h
      exact State.serve_resultWithin _ _ _
    | _ => simp [movedBy] at hc

/-! ### The step -/

/-- The ranges but for the result phase. -/
def State.rangesOk (s : State) : Prop :=
  (∀ e ∈ s.table, e.inRange) ∧ s.pair.inRange ∧ (∀ f ∈ s.sel.frames, ∀ e ∈ f.copies, e.inRange) ∧ s.est.inRange ∧
    s.gw.inRange ∧ s.countersInRange

theorem State.valuesOk_iff : s.valuesOk ↔ s.rangesOk ∧ s.port.resultWithin := by
  simp only [State.valuesOk, State.rangesOk, ReceivePair.inRange, Port.resultWithin, and_assoc]

theorem does_rangesOk (h : Does c s u) (hspares : s.spares c u) (hs : s.rangesOk) : u.rangesOk := by
  obtain ⟨htable, hpair, hframes, hest, hgw, hclock, hoverrun, hrefusals, hclash, hdrop, hheard, hsent, hlost⟩ := hs
  have hafter := does_table_inRange h hpair hclock htable hest
  obtain ⟨hclash', hoverrun'⟩ := does_pair_counts h hspares hclash hoverrun
  exact ⟨hafter, does_pair_inRange h hspares hpair hclock, does_frames_inRange h hframes htable hafter,
    does_estimator_inRange h hspares hpair hclock htable hest, does_gateway_inRange h hspares hgw,
    does_clock h hspares hclock, hoverrun', does_refusals h hspares hrefusals, hclash', does_drainDrop h hspares hdrop,
    does_engineCounts h hspares hheard hsent hlost⟩

theorem step_resultWithin (h : step s = .next t) (hs : s.port.resultWithin) : t.port.resultWithin := by
  unfold step at h
  split at h
  · obtain rfl := Host.Outcome.next.inj h
    exact hs
  · exact exec_resultWithin h hs

end

end Sys2Proof.Machine
end

section
open Sys2Proof Sys2Proof.Machine

/-- Settles O54: each effect of a command keeps every range, and each operation of the monitor its bounds. -/
theorem valuesAndMonitorInvariant : Obligations.ValuesAndMonitorInvariant := by
  refine ⟨fun s t hs h => ?_, fun s t hs h => ?_⟩
  · obtain ⟨hranges, hresult⟩ := State.valuesOk_iff.1 hs
    refine State.valuesOk_iff.2 ⟨?_, step_resultWithin h hresult⟩
    exact step_induction_spared (P := State.rangesOk) (Q := State.rangesOk) (fun u t hut hu => by rw [hut]; exact hu)
      (fun s _ h => h) id (fun c s u hs hdoes hspares => does_rangesOk hdoes hspares hs) hranges h
  · exact step_induction_spared (P := fun s => s.mon.ok) (Q := fun s => s.mon.ok)
      (fun u t hut hu => by rw [hut]; exact hu) (fun s _ h => h) id
      (fun c s u hs hdoes hspares => does_monOk hdoes hspares hs) hs h

end

section
/-! PROOFS. The gateway's table and queue through every step: nothing is owed or placed, and the queue is the list of the
HELD bins (O60). -/

namespace Sys2Proof.Machine

/-! ### The selector leaves a table with nothing owed or placed -/

/-- A gateway's table: nothing is OWED or placed. -/
def State.still (s : State) : Prop := s.role = .gateway ∧ ∀ e ∈ s.table, e.placed = .unplaced ∧ e.owing ≠ .owed

section
variable {s t : State}

theorem movePlacement_of_unplaced {p q : Placement} {t : List Entry} (h : ∀ e ∈ t, e.placed = .unplaced)
    (hp : p ≠ .unplaced) : movePlacement p q t = t := by
  unfold movePlacement
  refine (List.map_congr_left fun e he => if_neg ?_).trans (List.map_id _)
  rw [h e he]
  exact hp.symm

theorem State.still.withdrawBoth (h : s.still) : s.withdrawBoth.table = s.table := by
  have hun := fun e he => (h.2 e he).1
  have hbuild := movePlacement_of_unplaced (p := .build) (q := .unplaced) hun nofun
  have hstage := movePlacement_of_unplaced (p := .stage) (q := .unplaced) hun nofun
  exact (congrArg (movePlacement .stage .unplaced) hbuild).trans hstage

theorem State.still.withdrawBuild (h : s.still) : s.withdrawBuild.table = s.table :=
  movePlacement_of_unplaced (fun e he => (h.2 e he).1) nofun

theorem State.still.withdraw (h : s.still) (stage build : Bool) : (s.withdraw stage build).table = s.table := by
  unfold State.withdraw
  split_ifs
  · exact h.withdrawBoth
  · exact h.withdrawBuild
  · rfl

theorem State.still.withdrawWhere (h : s.still) (p : FrameRec → Bool) : (s.withdrawWhere p).table = s.table :=
  h.withdraw _ _

theorem State.still.preempt (h : s.still) (fresh : List Urgency) : (s.preempt fresh).table = s.table := by
  unfold State.preempt
  split
  · rfl
  · split_ifs
    · exact h.withdrawBoth
    · rfl
    · exact h.withdrawBuild
    · rfl

/-- A gateway's frames place no entry. -/
theorem State.nextFrame_bins_gateway (hrole : s.role = .gateway) {f : FrameRec} {bins : List BinId}
    (h : s.nextFrame = some (f, bins)) : bins = [] := by
  rcases s.nextFrame_cases h with ⟨k, -⟩ | ⟨k, -⟩ | ⟨-, -, hbins, -⟩ | ⟨-, -, hbins, -⟩
  · rw [hrole] at k
    cases k
  · rw [hrole] at k
    cases k
  · exact hbins
  · exact hbins

theorem placeBins_nil (p : Placement) (t : List Entry) : placeBins [] p t = t := by
  simp [placeBins]

theorem State.still.buildOne (h : s.still) : s.buildOne.table = s.table := by
  unfold State.buildOne
  split
  · rfl
  · split
    · rfl
    · next f bins hnext =>
      obtain rfl := State.nextFrame_bins_gateway h.1 hnext
      split <;> exact placeBins_nil _ _

theorem State.still.congr (h : s.still) (hconfig : t.config = s.config) (htable : t.table = s.table) : t.still := by
  rw [State.still, State.role_congr hconfig, htable]
  exact h

theorem State.still.selectorSettle (h : s.still) : s.selectorSettle.table = s.table := by
  have hfirst : s.drainFirst.table = s.table := by
    unfold State.drainFirst
    split
    · exact h.withdrawBoth
    · rfl
  have hfirst' : s.drainFirst.still := h.congr (by simp) hfirst
  have htest : s.drainFirst.rebuildTest.table = s.table := by
    unfold State.rebuildTest
    split
    · exact hfirst'.withdrawBoth.trans hfirst
    · exact hfirst
  have htest' : s.drainFirst.rebuildTest.still := h.congr (by simp) htest
  have hone := htest'.buildOne
  have hone' : s.drainFirst.rebuildTest.buildOne.still := htest'.congr (by simp) hone
  unfold State.selectorSettle
  split
  · exact hone'.buildOne.trans (hone.trans htest)
  · rfl

theorem State.still.hear (h : s.still) (told : Told) : (s.hear told).table = s.table := by
  have hwithdraw := h.withdraw told.stage told.build
  have hwithdraw' := h.congr (t := s.withdraw told.stage told.build) (by simp) hwithdraw
  have hpreempt := hwithdraw'.preempt told.fresh
  have hpreempt' := hwithdraw'.congr (t := (s.withdraw told.stage told.build).preempt told.fresh) (by simp) hpreempt
  exact hpreempt'.selectorSettle.trans (hpreempt.trans hwithdraw)

theorem State.still.setMonitor (h : s.still) (m : Monitor) : (s.setMonitor m).table = s.table := by
  have hmuted : ∀ v : State, v.still → v.enterMute.table = v.table := fun v hv =>
    (hv.congr (t := v.withdraw true true) (by simp) (hv.withdraw true true)).selectorSettle.trans (hv.withdraw true true)
  have hraised : (State.raise .standing { s with mon := m }).still := h
  rcases s.setMonitor_cases m with ⟨-, k⟩ | ⟨-, -, k⟩ | ⟨-, -, -, k⟩ | ⟨-, -, -, k⟩ <;> rw [k]
  · exact hmuted _ hraised
  · have hsame : (State.raise .standing { s with mon := m }).unprobed.table = s.table := by
      rw [State.unprobed_eq]
      rfl
    refine (State.still.selectorSettle (h.congr ?_ hsame)).trans hsame
    rw [State.unprobed_eq]
    rfl
  · exact hraised.selectorSettle

theorem State.still.moveUp (h : s.still) : s.moveUp.table = s.table := by
  unfold State.moveUp
  split
  · rfl
  · refine (List.map_congr_left fun e he => if_neg ?_).trans (List.map_id _)
    obtain ⟨hun, howed⟩ := h.2 e he
    simp [Entry.movesUpWith, hun, howed]

theorem State.still.applyOutcome (h : s.still) (echoed : Bool) {f : FrameRec} (hf : f.isFill = false) :
    (s.applyOutcome echoed f).table = s.table := by
  rcases hp : f.payload with ⟨es, probe⟩ | items | ⟨target, serial⟩ <;> simp only [State.applyOutcome, hp]
  · simp [FrameRec.isFill, hp] at hf
  · unfold State.drainOutcome
    dsimp only
    (repeat' split)
    · rfl
    · exact State.still.withdrawWhere (by exact h) _
    · exact State.still.withdrawWhere (by exact h) _
  · unfold State.solicitOutcome
    dsimp only
    (repeat' split)
    · rfl
    · rfl
    · exact State.still.withdrawWhere (s := { s with gw := { s.gw with solicit := none } }) h _
    · rfl

theorem State.still.echoOutcome (h : s.still) (echoed : Bool) (hframes : ∀ f ∈ s.sel.frames, f.isFill = false) :
    (s.echoOutcome echoed).table = s.table := by
  by_cases hc : s.sel.stageCond = some .sending
  · obtain ⟨f, hf⟩ := Selector.stageCond_eq_sending.1 hc
    have happly := h.applyOutcome echoed (hframes f (by simp [Selector.frames, hf]))
    have happly' := h.congr (t := s.applyOutcome echoed f) (by simp) happly
    have hmoved := happly'.moveUp
    have hmoved' := happly'.congr (t := (s.applyOutcome echoed f).moveUp) (by simp) hmoved
    rw [s.echoOutcome_of_sending echoed hf]
    exact hmoved'.selectorSettle.trans (hmoved.trans happly)
  · rw [s.echoOutcome_of_not echoed hc]

theorem State.still.takeOutcome (h : s.still) (echoed first : Bool) (hframes : ∀ f ∈ s.sel.frames, f.isFill = false)
    (hmonitor : ∀ f ∈ (s.monitorOutcome echoed).sel.frames, f.isFill = false) :
    (s.takeOutcome echoed first).table = s.table := by
  unfold State.takeOutcome
  split
  · have hset := h.setMonitor (s.mon.outcome echoed s.cfg.autoRejoin s.cfg.probeInterval)
    have hset' := h.congr (t := s.monitorOutcome echoed) (by simp) hset
    exact (hset'.echoOutcome echoed hmonitor).trans hset
  · have hecho := h.echoOutcome echoed hframes
    have hecho' := h.congr (t := s.echoOutcome echoed) (by simp) hecho
    exact (hecho'.setMonitor _).trans hecho

theorem State.still.fieldLost (h : s.still) : s.fieldLost.table = s.table := by
  by_cases hc : s.sel.stageCond = some .committed
  · obtain ⟨f, hf⟩ := Selector.stageCond_eq_committed.1 hc
    have hloss : (s.afterLoss f).table = s.table := by
      unfold State.afterLoss
      split
      · exact h.withdrawBoth
      · rfl
    have hconfig : (s.afterLoss f).config = s.config := by
      unfold State.afterLoss
      split <;> rfl
    rw [State.fieldLost_of_committed hf]
    exact (h.congr hconfig hloss).selectorSettle.trans hloss
  · rw [State.fieldLost_of_not hc]

/-! ### The queue and the HELD bins (R154, R155) -/

/-- The queue lists the HELD bins and no other; nothing is OWED, placed or counted. -/
def heldQueue (queue : List BinId) (t : List Entry) : Prop :=
  (∀ b ∈ queue, ∃ e ∈ t, e.report.binId = b ∧ e.owing = .held) ∧
    ∀ e ∈ t, (e.owing = .held → e.report.binId ∈ queue) ∧ e.owing ≠ .owed ∧ e.placed = .unplaced ∧ e.heard = 0 ∧
      e.sent = 0

theorem heldQueue.still {queue : List BinId} (h : heldQueue queue s.table) (hrole : s.role = .gateway) : s.still :=
  ⟨hrole, fun e he => by
    obtain ⟨-, howed, hplaced, -⟩ := h.2 e he
    exact ⟨hplaced, howed⟩⟩

theorem State.mem_queueJoin (h : s.isGateway = true) (b x : BinId) :
    x ∈ (s.queueJoin b).gw.queue ↔ x ∈ s.gw.queue ∨ x = b := by
  rw [State.queueJoin_queue]
  split
  · next hor =>
    have hb : b ∈ s.gw.queue := hor.resolve_left (by simp [h])
    exact ⟨.inl, fun hx => hx.elim id fun hx => hx ▸ hb⟩
  · simp

theorem State.queueJoin_nodup (b : BinId) (h : s.gw.queue.Nodup) : (s.queueJoin b).gw.queue.Nodup := by
  rw [State.queueJoin_queue]
  split
  · exact h
  · next hnot =>
    rw [not_or] at hnot
    exact List.nodup_append.2 ⟨h, List.nodup_singleton b, fun x hx y hy hxy => hnot.2 (by
      rw [← List.mem_singleton.1 hy, ← hxy]
      exact hx)⟩

end

end Sys2Proof.Machine
end

section
/-! PROOFS. The gateway unit through every step: the queue, the drain list, and the kinds of the frames in the slots
(O60). -/

namespace Sys2Proof.Machine

section
variable {s t : State}

/-! ### The queue through the merge -/

/-- An insert evicts no entry that is queued (R93). -/
theorem State.queued_position_ne {e : Entry} {origin : Origin} {p : Nat} (hw : tableWf s.table)
    (hgateway : s.isGateway = true) (he : e ∈ s.table) (hqueued : e.report.binId ∈ s.gw.queue)
    (hp : s.insertPosition origin = some p) : e.position ≠ p := by
  unfold State.insertPosition at hp
  split at hp
  · next hfree =>
    cases hp
    exact (lowestFree_eq_some.1 hfree).2.1 e he
  · obtain ⟨v, hv, rfl⟩ := Option.map_eq_some_iff.1 hp
    intro hsame
    rcases firstBy_cases (evictedBefore s.clock) (s.table.filter (s.evictable origin)) with ⟨-, hnone⟩ | ⟨x, hx, hsome⟩
    · rw [State.victim, hnone] at hv
      cases hv
    · rw [State.victim, hsome] at hv
      cases hv
      obtain ⟨hmem, hevictable⟩ := List.mem_filter.1 hx
      obtain rfl := entry_unique hw he hmem (.inr hsame)
      simp [State.evictable, hgateway, hqueued] at hevictable

/-- A gateway stores what it hears as HELD (R112, R154). -/
theorem State.received_gateway (hrole : s.role = .gateway) (r : RxEntry) (rxTime position : Nat) (origin : Origin) :
    (s.received r rxTime position origin).owing = .held := if_pos (.inl hrole)

theorem State.alters.heldQueue {rs : List RxEntry} {rxTime : Nat} {told told' : Told}
    (h : State.alters rs rxTime s told t told') (htable : s.tableOk) (hgateway : s.isGateway = true)
    (hs : heldQueue s.gw.queue s.table) (hnodup : s.gw.queue.Nodup) :
    Sys2Proof.Machine.heldQueue t.gw.queue t.table ∧ t.gw.queue.Nodup := by
  have hbin : ∀ {v : State}, v.isGateway = true → v.role ≠ .bin := fun hg k => by
    rw [(State.isGateway_iff.1 hg).2] at k
    cases k
  induction h with
  | refl | raised | sequence => exact ⟨hs, hnodup⟩
  | trans h _ ih ih' =>
    obtain ⟨hrun, hconfig, -⟩ := h.keeps
    obtain ⟨hs', hnodup'⟩ := ih htable hgateway hs hnodup
    exact ih' (h.tableOk htable (State.isGateway_iff.1 hgateway).1) ((State.isGateway_congr hrun hconfig).trans hgateway)
      hs' hnodup'
  | issued _ _ _ hrole | repaired _ hrole | ownSolicited _ hrole | relayed _ hrole =>
    exact absurd hrole (hbin hgateway)
  | heardAgain he howed =>
    obtain ⟨-, hnot, -⟩ := hs.2 _ he
    exact absurd howed hnot
  | @superseded s told r e hr he hbin hnot =>
    obtain ⟨hqueue, hentries⟩ := hs
    have hnodup' : (s.supersede r rxTime e told).1.gw.queue.Nodup :=
      State.queueJoin_nodup (s := { s with table := changeEntry e.report.binId _ s.table }) _ hnodup
    have hmem : ∀ x, x ∈ (s.supersede r rxTime e told).1.gw.queue ↔ x ∈ s.gw.queue ∨ x = e.report.binId :=
      State.mem_queueJoin (s := { s with table := changeEntry e.report.binId _ s.table }) hgateway _
    have htab : (s.supersede r rxTime e told).1.table =
        s.table.map fun x => if x.report.binId = e.report.binId then s.received r rxTime x.position x.origin else x := by
      simp [State.supersede, changeEntry]
    have hheld := State.received_gateway (State.isGateway_iff.1 hgateway).2 r rxTime
    refine ⟨⟨fun b hb => ?_, fun x hx => ?_⟩, hnodup'⟩
    · by_cases hsame : b = e.report.binId
      · refine ⟨s.received r rxTime e.position e.origin, ?_, hbin.trans hsame.symm, hheld _ _⟩
        rw [htab]
        exact List.mem_map.2 ⟨e, he, if_pos rfl⟩
      · obtain ⟨x, hx, hxb, hxheld⟩ := hqueue b (((hmem b).1 hb).resolve_right hsame)
        rw [htab]
        exact ⟨x, List.mem_map.2 ⟨x, hx, if_neg (hxb ▸ hsame)⟩, hxb, hxheld⟩
    · rw [htab] at hx
      obtain ⟨y, hy, rfl⟩ := List.mem_map.1 hx
      rw [hmem]
      split
      · exact ⟨fun _ => .inr hbin, by rw [hheld]; nofun, rfl, rfl, rfl⟩
      · obtain ⟨hq, hrest⟩ := hentries y hy
        exact ⟨fun k => .inl (hq k), hrest⟩
  | @inserted s told r hr habsent hnot =>
    obtain ⟨hqueue, hentries⟩ := id hs
    have hheld := State.received_gateway (State.isGateway_iff.1 hgateway).2 r rxTime
    unfold State.mergeAbsentBin
    dsimp only
    split
    · exact ⟨hs, hnodup⟩
    · rcases s.insert_cases (s.received r rxTime 0 (s.cfg.originOf r.report.binId)) with ⟨p, hp, k⟩ | ⟨-, k⟩
      · obtain ⟨w, htab, hgw, hwg, k⟩ : ∃ w : State, w.table = placeEntry
            { s.received r rxTime 0 (s.cfg.originOf r.report.binId) with position := p }
            (s.table.filter fun x => x.position != p) ∧ w.gw = s.gw ∧ w.isGateway = true ∧
            s.insert (s.received r rxTime 0 (s.cfg.originOf r.report.binId)) = (w, true) :=
          ⟨{ s with table := placeEntry { s.received r rxTime 0 (s.cfg.originOf r.report.binId) with position := p } <|
              s.table.filter fun x => x.position != p }, rfl, rfl, hgateway, k⟩
        rw [k, if_pos rfl]
        have hmem : ∀ x, x ∈ (w.queueJoin r.report.binId).gw.queue ↔ x ∈ s.gw.queue ∨ x = r.report.binId := by
          intro x
          rw [State.mem_queueJoin hwg, hgw]
        have htab' : (w.queueJoin r.report.binId).table = w.table := by simp
        refine ⟨⟨fun b hb => ?_, fun x hx => ?_⟩, State.queueJoin_nodup _ (hgw ▸ hnodup)⟩
        · rw [htab', htab]
          rcases (hmem b).1 hb with hb | rfl
          · obtain ⟨x, hx, rfl, hxheld⟩ := hqueue b hb
            refine ⟨x, mem_placeEntry.2 (.inr (List.mem_filter.2 ⟨hx, ?_⟩)), rfl, hxheld⟩
            simpa using State.queued_position_ne htable.1 hgateway hx hb hp
          · exact ⟨_, mem_placeEntry.2 (.inl rfl), rfl, hheld _ _⟩
        · rw [htab', htab] at hx
          refine ⟨fun hxheld => (hmem _).2 ?_, ?_⟩
          · rcases mem_placeEntry.1 hx with rfl | hx
            · exact .inr rfl
            · exact .inl ((hentries x (List.mem_of_mem_filter hx)).1 hxheld)
          · rcases mem_placeEntry.1 hx with rfl | hx
            · refine ⟨fun k => ?_, rfl, rfl, rfl⟩
              have := hheld 0 (s.cfg.originOf r.report.binId)
              simp_all
            · exact (hentries x (List.mem_of_mem_filter hx)).2
      · rw [k, if_neg (by simp)]
        exact ⟨hs, hnodup⟩
  | @drained s told e he hnot =>
    obtain ⟨hqueue, hentries⟩ := hs
    refine ⟨⟨fun b hb => ?_, fun x hx => ?_⟩, hnodup.filter _⟩
    · obtain ⟨hb, hne⟩ := List.mem_filter.1 (show b ∈ s.gw.queue.filter _ from hb)
      obtain ⟨x, hx, rfl, hxheld⟩ := hqueue b hb
      exact ⟨x, List.mem_map.2 ⟨x, hx, if_neg (by simpa using hne)⟩, rfl, hxheld⟩
    · obtain ⟨y, hy, rfl⟩ := List.mem_map.1 (show x ∈ changeEntry _ _ s.table from hx)
      obtain ⟨hq, howed, hrest⟩ := hentries y hy
      split
      · exact ⟨nofun, nofun, hrest⟩
      · next hne => exact ⟨fun k => List.mem_filter.2 ⟨hq k, by simpa using hne⟩, howed, hrest⟩

/-! ### The queue START forms (R100, R166) -/

theorem prepareTable_gateway {c : HeldConfig} (hc : c.role = .gateway) (t : List Entry) :
    prepareTable c t = t.map fun e => { e with origin := c.originOf e.report.binId } := by
  simp [prepareTable, hc]

theorem startQueue_heldQueue {c : HeldConfig} {l : List Entry} (hc : c.role = .gateway) (hl : ∀ e ∈ l, e.retained)
    (hw : tableWf l) : heldQueue (startQueue c (prepareTable c l)) (prepareTable c l) ∧
      (startQueue c (prepareTable c l)).Nodup := by
  rw [startQueue, if_pos hc, prepareTable_gateway hc]
  refine ⟨⟨fun b hb => ?_, fun e he => ?_⟩, ?_⟩
  · obtain ⟨e, he, rfl⟩ := List.mem_map.1 (List.mem_insertionSort _ |>.1 hb)
    obtain ⟨he, hnot⟩ := List.mem_filter.1 he
    obtain ⟨x, hx, rfl⟩ := List.mem_map.1 he
    obtain ⟨-, howed, -⟩ := hl x hx
    refine ⟨_, he, rfl, ?_⟩
    cases howing : x.owing <;> simp_all
  · obtain ⟨x, hx, rfl⟩ := List.mem_map.1 he
    obtain ⟨-, howed, hrest⟩ := hl x hx
    refine ⟨fun hheld => ?_, howed, hrest⟩
    refine (List.mem_insertionSort _).2 (List.mem_map.2 ⟨_, List.mem_filter.2 ⟨he, ?_⟩, rfl⟩)
    simp only [show x.owing = .held from hheld]
    rfl
  · rw [(List.perm_insertionSort _ _).nodup_iff]
    refine List.Pairwise.map _ (fun _ _ k => k) ?_
    refine List.Pairwise.filter _ (List.pairwise_map.2 (hw.1.imp fun k => k.2))

/-! ### The drain list (R153, R161) -/

/-- The drain list holds at most 8 items, of distinct bins. -/
def drainListOk (l : List DrainItem) : Prop := l.length ≤ Config.drainMax ∧ (l.map (fun i => i.binId)).Nodup

theorem drainListOk.sublist {l l' : List DrainItem} (h : drainListOk l)
    (hsub : (l'.map (fun i => i.binId)).Sublist (l.map (fun i => i.binId))) : drainListOk l' :=
  ⟨by simpa using hsub.length_le.trans (by simpa using h.1), h.2.sublist hsub⟩

theorem enterDrainList_ok {l : List DrainItem} (b : BinId) (r : Seq) (h : drainListOk l) :
    drainListOk (enterDrainList b r l).1 := by
  obtain ⟨hlen, hnodup⟩ := id h
  have hnew : ∀ l' : List DrainItem, l'.Sublist l → (∀ i ∈ l, i.binId ≠ b) → l'.length < Config.drainMax →
      drainListOk (l' ++ [{ binId := b, seq := r, sent := 0 }]) := fun l' hsub hnot hlt => by
    refine ⟨by simpa using hlt, ?_⟩
    rw [List.map_append]
    refine List.nodup_append.2 ⟨hnodup.sublist (hsub.map _), List.nodup_singleton _, fun x hx y hy hxy => ?_⟩
    obtain ⟨i, hi, rfl⟩ := List.mem_map.1 hx
    exact hnot i (hsub.subset hi) (hxy.trans (by simpa using hy))
  have hset : ∀ f : DrainItem → DrainItem, (∀ i, (f i).binId = i.binId) →
      drainListOk (l.map (fun x => if x.binId = b then f x else x)) := fun f hf => by
    refine ⟨by simpa using hlen, ?_⟩
    rw [List.map_map]
    convert hnodup using 1
    refine List.map_congr_left fun i _ => ?_
    simp only [Function.comp]
    split
    · exact hf i
    · rfl
  unfold enterDrainList
  split
  · next hnone =>
    have hnot : ∀ i ∈ l, i.binId ≠ b := fun i hi => by simpa using List.find?_eq_none.1 hnone i hi
    dsimp only
    split
    · next hlt => exact hnew l (List.Sublist.refl _) hnot hlt
    · refine hnew _ (List.drop_sublist 1 l) hnot ?_
      simp only [List.length_drop, Config.drainMax] at *
      omega
  · split
    · exact hset _ fun _ => rfl
    · exact hset _ fun _ => rfl
    · exact h
    · exact h

theorem filterMap_binIds_sublist {f : DrainItem → Option DrainItem} (hf : ∀ i j, f i = some j → j.binId = i.binId)
    (l : List DrainItem) : ((l.filterMap f).map (fun i => i.binId)).Sublist (l.map (fun i => i.binId)) := by
  induction l with
  | nil => simp
  | cons i l ih =>
    rw [List.filterMap_cons]
    split
    · exact ih.cons _
    · next j hj =>
      rw [List.map_cons, List.map_cons, hf i j hj]
      exact ih.cons_cons _

theorem DrainItem.unechoed_binId {sendLimit : Nat} {i j : DrainItem} (h : i.unechoed sendLimit = some j) :
    j.binId = i.binId := by
  unfold DrainItem.unechoed at h
  dsimp only at h
  split at h
  · cases h
  · cases h
    rfl

theorem Gateway.afterOutcome_drainList {g : Gateway} (echoed : Bool) (sendLimit : Nat) (f : FrameRec)
    (h : drainListOk g.drainList) : drainListOk (g.afterOutcome echoed sendLimit f).drainList := by
  unfold Gateway.afterOutcome
  split
  · exact h
  · split
    · exact h
    · unfold Gateway.drainedBy
      dsimp only
      split
      · exact h.sublist (List.filter_sublist.map _)
      · refine h.sublist (filterMap_binIds_sublist (fun i j hij => ?_) _)
        split at hij
        · exact DrainItem.unechoed_binId hij
        · cases hij
          rfl
  · unfold Gateway.solicitedBy
    (repeat' split) <;> exact h

end

end Sys2Proof.Machine
end

section
/-! PROOFS. The gateway unit and the kinds of the frames through every step (O60). -/

namespace Sys2Proof.Machine

section
variable {c : Instr} {s t u : State}

/-! ### Station life through an effect -/

/-- After an effect a RUNNING station has just been started, or was RUNNING with the same configuration. -/
theorem State.spares.running_cases (h : s.spares c u) (hdoes : Does c s u)
    (hrun : u.running = true) :
    (∃ held mask, s.running = false ∧ u = s.startRunning held mask) ∨
      (s.running = true ∧ u.running = s.running ∧ u.config = s.config) := by
  by_cases hc : Part.running ∈ movedBy c
  · cases hdoes with
    | start hnot => exact .inl ⟨_, _, hnot, rfl⟩
    | restart | hardReset => cases hrun
    | nothing =>
      exact .inr ⟨hrun, rfl, rfl⟩
    | _ => simp [movedBy] at hc
  · have hrunning := h.keep (p := .running) hc nofun nofun
    have hconfig := h.keep (p := .config) (fun k => hc (by cases c <;> simp_all [movedBy])) nofun nofun
    exact .inr ⟨hrunning.symm.trans hrun, hrunning, hconfig⟩

/-! ### The kinds of the frames (R123, R154) -/

/-- What may be built is a FILL frame exactly in the bin role. -/
theorem State.builds_kind (s : State) : s.builds fun f => f.isFill = decide (s.role = .bin) := by
  intro w f _ hconfig _ ⟨_, hmade⟩
  rw [← State.role_congr hconfig]
  cases hrole : w.role with
  | bin =>
    rw [hrole] at hmade
    obtain ⟨c, rest, probe, hpayload, -⟩ := hmade
    simp [FrameRec.isFill, hpayload]
  | gateway =>
    rw [hrole] at hmade
    rcases hmade with ⟨items, hpayload, -⟩ | ⟨p, target, -, hpayload⟩ <;> simp [FrameRec.isFill, hpayload]

theorem does_kinds (h : Does c s u) (hconfig : u.config = s.config)
    (hs : ∀ f ∈ s.sel.frames, f.isFill = decide (s.role = .bin)) :
    ∀ f ∈ u.sel.frames, f.isFill = decide (s.role = .bin) := by
  have hafter := u.builds_kind
  rw [State.role_congr hconfig] at hafter
  exact h.frames (P := fun f => f.isFill = decide (s.role = .bin)) (fun _ _ => id) hs s.builds_kind hafter

/-! ### The drain list through an effect -/

theorem does_drainListOk (h : Does c s u) (hspares : s.spares c u) (hs : drainListOk s.gw.drainList) :
    drainListOk u.gw.drainList := by
  by_cases hc : Part.drainList ∈ movedBy c
  · cases h with
    | nothing => exact hs
    | restart | hardReset => exact ⟨Nat.zero_le _, .nil⟩
    | complete =>
      rename_i b r _
      have hhanded : drainListOk (State.handed b r { s with port := { s.port with resultAt := none } }).gw.drainList :=
        enterDrainList_ok b r hs
      simpa [(State.handed_reselects b r).gw] using hhanded
    | awaitEchoEnd =>
      rename_i echoed carrier first _
      by_cases hsend : s.sel.stageCond = some .sending
      · obtain ⟨f, hf⟩ := Selector.stageCond_eq_sending.1 hsend
        simpa [State.takeOutcome_gw echoed first hf] using Gateway.afterOutcome_drainList echoed s.cfg.sendLimit f hs
      · simpa [State.takeOutcome_gw_of_not echoed first hsend] using hs
    | _ => simp [movedBy] at hc
  · have hsame := hspares.keep hc nofun nofun
    rwa [show u.gw.drainList = _ from hsame]

/-! ### Outside the gateway role the unit stays clear -/

theorem State.alters.queue_empty {rs : List RxEntry} {rxTime : Nat} {told told' : Told}
    (h : State.alters rs rxTime s told t told') (hnot : s.isGateway = false) (hs : s.gw.queue = []) :
    t.gw.queue = [] := by
  have hjoin : ∀ (v : State) b, v.isGateway = false → v.gw.queue = [] → (v.queueJoin b).gw.queue = [] :=
    fun v b hv hq => by rw [State.queueJoin_queue, if_pos (.inl (by simp [hv])), hq]
  induction h with
  | refl | raised | sequence | heardAgain | repaired | ownSolicited => exact hs
  | issued => exact (State.issueOwn_moves _ _ _ _ _ _ .queue (by simp)).trans hs
  | relayed => exact (State.solicitRelayed_moves _ _ _ .queue (by simp)).trans hs
  | trans h _ ih ih' =>
    obtain ⟨hrun, hconfig, -⟩ := h.keeps
    exact ih' ((State.isGateway_congr hrun hconfig).trans hnot) (ih hnot hs)
  | @superseded s told r e =>
    exact hjoin { s with table := changeEntry e.report.binId _ s.table } _ hnot hs
  | @inserted s told r =>
    have hgw : (s.insert (s.received r rxTime 0 (s.cfg.originOf r.report.binId))).1.gw = s.gw := by simp
    unfold State.mergeAbsentBin
    dsimp only
    split
    · exact hs
    · split
      · exact hjoin _ _ ((State.isGateway_congr (by simp) (by simp)).trans hnot) (by rw [hgw, hs])
      · exact (congrArg Gateway.queue hgw).trans hs
  | @drained s told e => exact (congrArg (List.filter (fun b => b != e.report.binId)) hs).trans rfl

/-- The gateway unit holds nothing (R151). -/
def Gateway.clear (g : Gateway) : Prop := g.queue = [] ∧ g.inHand = none ∧ g.drainList = [] ∧ g.solicit = none

theorem Gateway.clear.afterOutcome {g : Gateway} (h : g.clear) (echoed : Bool) (sendLimit : Nat) (f : FrameRec) :
    (g.afterOutcome echoed sendLimit f).clear := by
  obtain ⟨-, -, hdrain, hsolicit⟩ := id h
  unfold Gateway.afterOutcome
  split
  · exact h
  · rw [hdrain]
    exact h
  · unfold Gateway.solicitedBy
    rw [hsolicit]
    exact h

theorem does_gateway_clear (h : Does c s u) (hspares : s.spares c u) (hrun : s.running = true)
    (hlife : u.running = s.running) (hgateway : s.isGateway = false) (hs : s.gw.clear) : u.gw.clear := by
  obtain ⟨hqueue, hhand, hdrain, hsolicit⟩ := id hs
  have hrole : s.role ≠ .gateway := fun k => by
    rw [State.isGateway_iff.2 ⟨hrun, k⟩] at hgateway
    cases hgateway
  by_cases hc : ∃ p ∈ [Part.queue, .inHand, .drainList, .solicit], p ∈ movedBy c
  · cases h with
    | nothing => exact hs
    | solicit _ _ _ _ k | handOut _ k | handNone _ k => exact absurd k hrole
    | complete k => rw [hhand] at k; cases k
    | cutShort => exact ⟨hqueue, rfl, hdrain, hsolicit⟩
    | restart | hardReset => exact ⟨rfl, rfl, rfl, rfl⟩
    | start hnot => rw [hrun] at hnot; cases hnot
    | noBoundary => exact hs
    | boundary =>
      have hswept : (State.sweep { s with boundaryDue := false }).1.gw.clear :=
        ⟨List.filter_eq_nil_iff.2 (by simp [hqueue]), hhand, hdrain, hsolicit⟩
      have hcount : ∀ v : State, v.countBoundary.countProbe.gw = v.gw := fun v => by
        unfold State.countProbe State.countBoundary
        (repeat' split) <;> rfl
      have hgw := (hcount _).trans (State.hear_reselects (State.sweep { s with boundaryDue := false }).1
        (State.sweep { s with boundaryDue := false }).2).gw
      simpa [hgw] using hswept
    | awaitEchoEnd =>
      rename_i echoed carrier first _
      by_cases hsend : s.sel.stageCond = some .sending
      · obtain ⟨f, hf⟩ := Selector.stageCond_eq_sending.1 hsend
        simpa [State.takeOutcome_gw echoed first hf] using hs.afterOutcome echoed s.cfg.sendLimit f
      · simpa [State.takeOutcome_gw_of_not echoed first hsend] using hs
    | merge =>
      rename_i m _
      have hmoves := s.mergePart_moves m
      have hmerged : (s.mergePart m).1.gw.clear :=
        ⟨(s.mergePart_alters m).queue_empty hgateway hqueue, (hmoves .inHand (by simp)).trans hhand,
          (hmoves .drainList (by simp)).trans hdrain, (hmoves .solicit (by simp)).trans hsolicit⟩
      simpa [(State.hear_reselects _ (s.mergePart m).2).gw] using hmerged
    | _ => simp [movedBy] at hc
  · have hkeep := fun p hp => hspares.keep (p := p) (fun k => hc ⟨p, hp, k⟩)
    exact ⟨(hkeep .queue (by simp) nofun nofun).trans hqueue, (hkeep .inHand (by simp) nofun nofun).trans hhand,
      (hkeep .drainList (by simp) nofun nofun).trans hdrain, (hkeep .solicit (by simp) nofun nofun).trans hsolicit⟩

/-! ### A running gateway's table and queue through an effect -/

/-- A gateway's queue has no bin twice and is the list of its HELD bins (R155). -/
def State.queueOk (s : State) : Prop := heldQueue s.gw.queue s.table ∧ s.gw.queue.Nodup

theorem State.queueOk.congr (h : s.queueOk) (hqueue : t.gw.queue = s.gw.queue) (htable : t.table = s.table) :
    t.queueOk := by
  rw [State.queueOk, hqueue, htable]
  exact h

theorem State.queueOk.filter (h : s.queueOk) (p : Entry → Bool) (gone : BinId → Bool)
    (hgone : ∀ e ∈ s.table, p e = gone e.report.binId) :
    heldQueue (s.gw.queue.filter fun b => !gone b) (s.table.filter fun e => !p e) ∧
      (s.gw.queue.filter fun b => !gone b).Nodup := by
  obtain ⟨⟨hqueue, hentries⟩, hnodup⟩ := h
  refine ⟨⟨fun b hb => ?_, fun e he => ?_⟩, hnodup.filter _⟩
  · obtain ⟨hb, hnot⟩ := List.mem_filter.1 hb
    obtain ⟨e, he, rfl, hheld⟩ := hqueue b hb
    exact ⟨e, List.mem_filter.2 ⟨he, by rwa [hgone e he]⟩, rfl, hheld⟩
  · obtain ⟨he, hnot⟩ := List.mem_filter.1 he
    obtain ⟨hq, hrest⟩ := hentries e he
    exact ⟨fun k => List.mem_filter.2 ⟨hq k, by rwa [← hgone e he]⟩, hrest⟩

theorem State.sweep_queueOk (h : s.queueOk) (htable : tableWf s.table) : s.sweep.1.queueOk := by
  refine h.filter s.expires (fun b => (s.table.filter s.expires).any (fun e => e.report.binId == b)) fun e he => ?_
  rw [Bool.eq_iff_iff, List.any_eq_true]
  refine ⟨fun k => ⟨e, List.mem_filter.2 ⟨he, k⟩, by simp⟩, fun ⟨x, hx, hsame⟩ => ?_⟩
  obtain ⟨hx, hexpires⟩ := List.mem_filter.1 hx
  rwa [entry_unique htable he hx (.inl (eq_of_beq hsame).symm)]

theorem State.handed_queueOk (b : BinId) (r : Seq) (h : s.queueOk) : (s.handed b r).queueOk := by
  obtain ⟨⟨hqueue, hentries⟩, hnodup⟩ := id h
  unfold State.handed State.queueOk
  dsimp only
  split
  · refine ⟨⟨fun x hx => ?_, fun e he => ?_⟩, hnodup.filter _⟩
    · obtain ⟨hx, hne⟩ := List.mem_filter.1 hx
      obtain ⟨e, he, rfl, hheld⟩ := hqueue x hx
      exact ⟨e, List.mem_map.2 ⟨e, he, if_neg (by simpa using hne)⟩, rfl, hheld⟩
    · obtain ⟨y, hy, rfl⟩ := List.mem_map.1 he
      obtain ⟨hq, howed, hrest⟩ := hentries y hy
      split
      · exact ⟨nofun, nofun, hrest⟩
      · next hne => exact ⟨fun k => List.mem_filter.2 ⟨hq k, by simpa using hne⟩, howed, hrest⟩
  · exact h

theorem State.queueOk.hear (h : s.queueOk) (hrole : s.role = .gateway) (told : Told) : (s.hear told).queueOk :=
  h.congr (by rw [(State.hear_reselects s told).gw]) ((h.1.still hrole).hear told)

theorem State.queueOk.deliver {b : BinId} {r : Seq} (h : (s.handed b r).queueOk) (hrole : s.role = .gateway) :
    (s.deliver b r).selectorSettle.queueOk := by
  have hstill : (s.handed b r).still := h.1.still hrole
  have hdeliver : (s.deliver b r).table = (s.handed b r).table := by
    rw [State.deliver_eq]
    split
    · exact hstill.withdrawWhere _
    · rfl
  have hsettle := State.still.selectorSettle (hstill.congr (State.handed_reselects b r).config hdeliver)
  exact h.congr (by rw [(State.selectorSettle_reselects _).gw, (State.handed_reselects b r).gw]) (hsettle.trans hdeliver)

theorem State.still.solicitAct (h : s.still) (bin mask : BinId) (maxClass : Nat) :
    (s.solicitAct bin mask maxClass).1.table = s.table := by
  have hmade : (s.made bin mask maxClass).still := h
  have hwithdraw := hmade.withdrawWhere FrameRec.isSolicit
  have hwithdraw' := hmade.congr (t := (s.made bin mask maxClass).withdrawWhere FrameRec.isSolicit) (by simp) hwithdraw
  unfold State.solicitAct
  dsimp only
  rw [State.engineSettle_table]
  split
  · exact hwithdraw'.selectorSettle.trans hwithdraw
  · exact hmade.selectorSettle

theorem does_queueOk (h : Does c s u) (hspares : s.spares c u) (hgateway : s.isGateway = true)
    (hlife : u.running = s.running) (hconfig : u.config = s.config) (htable : s.tableOk)
    (hkinds : ∀ f ∈ s.sel.frames, f.isFill = decide (s.role = .bin)) (hs : s.queueOk) : u.queueOk := by
  obtain ⟨hrun, hrole⟩ := State.isGateway_iff.1 hgateway
  have hstill : s.still := hs.1.still hrole
  have hnotbin : s.role ≠ .bin := by simp [hrole]
  have hkept : Part.queue ∉ movedBy c → u.table = s.table → u.queueOk := fun hq htab =>
    hs.congr (hspares.keep hq nofun nofun) htab
  by_cases hc : Part.table ∈ movedBy c
  · cases h with
    | nothing | noBoundary | sample => exact hs
    | start hnot => rw [hrun] at hnot; cases hnot
    | restart | hardReset => rw [hrun] at hlife; cases hlife
    | issue _ _ _ hbin | refill _ hbin => exact absurd hbin hnotbin
    | solicit bin mask =>
      rename_i maxClass _ _ _
      exact hkept (by simp [movedBy]) (hstill.solicitAct bin mask maxClass)
    | complete =>
      rename_i b r _
      have hhanded := State.handed_queueOk b r (s := { s with port := { s.port with resultAt := none } }) hs
      exact (hhanded.deliver hrole).congr (by simp) (by simp)
    | boundary =>
      have hswept := State.sweep_queueOk (s := { s with boundaryDue := false }) hs htable.1
      refine (hswept.hear hrole (State.sweep { s with boundaryDue := false }).2).congr ?_ ?_ <;>
        unfold State.countProbe State.countBoundary <;> (repeat' split) <;> simp
    | probe => exact hkept (by simp [movedBy]) (by simpa using hstill.selectorSettle)
    | wakingCap => exact hkept (by simp [movedBy]) (by
      simpa using State.still.fieldLost (s := { s with eng := s.eng.enterAwake true }) hstill)
    | slotLost | contentionLost => exact hkept (by simp [movedBy]) (State.still.fieldLost hstill)
    | slot => exact hs
    | goodFrame =>
      have hgiven : ∀ f, (s.handOver f).still := fun f => hstill.congr (by simp) (by simp)
      exact hkept (by simp [movedBy]) (((hgiven _).setMonitor _).trans (by simp))
    | badFrame => exact hkept (by simp [movedBy]) (by simpa [State.monitorBad] using hstill.setMonitor _)
    | awaitEchoEnd =>
      rename_i echoed carrier first _
      have hgatewayKind : ∀ v : List FrameRec, (∀ f ∈ v, f.isFill = decide (s.role = .bin)) → ∀ f ∈ v, f.isFill = false :=
        fun v hv f hf => by simpa [hrole] using hv f hf
      have hmonitor := State.setMonitor_frames (P := fun f => f.isFill = decide (s.role = .bin))
        (s.mon.outcome echoed s.cfg.autoRejoin s.cfg.probeInterval) (fun _ _ => id) hkinds s.builds_kind
      refine hkept (by simp [movedBy]) ?_
      simpa using hstill.takeOutcome echoed first (hgatewayKind _ hkinds) (hgatewayKind _ hmonitor)
    | merge =>
      rename_i m _
      obtain ⟨hrun', hconfig', -⟩ := (s.mergePart_alters m).keeps
      have hmerged : (s.mergePart m).1.queueOk := (s.mergePart_alters m).heldQueue htable hgateway hs.1 hs.2
      have hmerged' : State.queueOk { (s.mergePart m).1 with pair := (s.mergePart m).1.pair.advance m } := hmerged
      exact (hmerged'.hear ((State.role_congr hconfig').trans hrole) (s.mergePart m).2).congr (by simp) (by simp)
    | _ => simp [movedBy] at hc
  · by_cases hq : Part.queue ∈ movedBy c
    · cases c <;> simp_all [movedBy]
    · exact hs.congr (hspares.keep hq nofun nofun) (hspares.keep hc nofun nofun)

/-! ### The invariant -/

theorem State.gatewayOk_iff : s.gatewayOk ↔ s.gw.queue.Nodup ∧ drainListOk s.gw.drainList ∧
    (s.isGateway = true → heldQueue s.gw.queue s.table ∧ ∀ f ∈ s.sel.frames, f.isFill = false) ∧
    (s.isGateway = false → s.gw.clear ∧ ∀ f ∈ s.sel.frames, f.isFill = true) := by
  simp only [State.gatewayOk, drainListOk, heldQueue, Gateway.clear, List.all_eq_true, List.any_eq_true,
    Bool.and_eq_true, beq_iff_eq, and_assoc]

theorem does_gatewayOk (h : Does c s u) (hspares : s.spares c u) (hs : s.gatewayOk) (htable : s.tableOk)
    (hclear : s.clearedOk) : u.gatewayOk := by
  have hcleared := does_clearedOk h hclear
  have hdrain := does_drainListOk h hspares (State.gatewayOk_iff.1 hs).2.1
  rw [State.gatewayOk_iff] at hs ⊢
  obtain ⟨hnodup, -, hgate, hnot⟩ := hs
  cases hrun : u.running with
  | false =>
    obtain ⟨-, -, -, -, -, hsel, -, hqueue, hhand, hdrained, hsolicit, -⟩ := hcleared.2 hrun
    have hframes : u.sel.frames = [] := by rw [hsel]; rfl
    rw [hframes]
    exact ⟨hqueue ▸ .nil, hdrain, fun k => absurd (State.isGateway_iff.1 k).1 (by simp [hrun]),
      fun _ => ⟨⟨hqueue, hhand, hdrained, hsolicit⟩, nofun⟩⟩
  | true =>
    rcases hspares.running_cases h hrun with ⟨held, mask, hstopped, rfl⟩ | ⟨hstarted, hlife, hconfig⟩
    · obtain ⟨-, -, -, hretained, -, hsel, -, -, hhand, hdrained, hsolicit, -⟩ := hclear.2 hstopped
      have hretained' : ∀ e ∈ s.table, e.retained := hretained
      have hframes : (s.startRunning held mask).sel.frames = [] := by
        rw [State.startRunning_eq]
        exact congrArg Selector.frames hsel
      have hgw : (s.startRunning held mask).gw = { s.gw with queue := startQueue held (prepareTable held s.table) } := by
        rw [State.startRunning_eq]
      have htab : (s.startRunning held mask).table = prepareTable held s.table := by rw [State.startRunning_eq]
      have hrole : (s.startRunning held mask).role = held.role := by rw [State.startRunning_eq]; rfl
      rw [hframes, hgw, htab]
      cases hheld : held.role with
      | gateway =>
        have hgateway := State.isGateway_iff.2 ⟨hrun, hrole.trans hheld⟩
        obtain ⟨hqueue, hnodup'⟩ := startQueue_heldQueue hheld hretained' htable.1
        exact ⟨hnodup', hgw ▸ hdrain, fun _ => ⟨hqueue, nofun⟩, fun k => by simp [k] at hgateway⟩
      | bin =>
        have hqueue : startQueue held (prepareTable held s.table) = [] := if_neg (by simp [hheld])
        refine ⟨hqueue ▸ .nil, hgw ▸ hdrain, fun k => ?_, fun _ => ⟨⟨hqueue, hhand, hdrained, hsolicit⟩, nofun⟩⟩
        have := (State.isGateway_iff.1 k).2
        simp [hrole, hheld] at this
    · have hsame := State.isGateway_congr hlife hconfig
      have hrole : s.isGateway = decide (s.role = .gateway) := by
        rw [Bool.eq_iff_iff, State.isGateway_iff]
        simp [hstarted]
      have hkinds : ∀ f ∈ s.sel.frames, f.isFill = decide (s.role = .bin) := by
        cases k : s.role <;> simp_all
      have hkinds' := does_kinds h hconfig hkinds
      rw [hsame]
      cases hg : s.isGateway with
      | true =>
        obtain ⟨hheld, hnodup'⟩ := does_queueOk h hspares hg hlife hconfig htable hkinds ⟨(hgate hg).1, hnodup⟩
        exact ⟨hnodup', hdrain, fun _ => ⟨hheld, by simp_all⟩, nofun⟩
      | false =>
        have hclear' := does_gateway_clear h hspares hstarted hlife hg (hnot hg).1
        refine ⟨hclear'.1 ▸ .nil, hdrain, nofun, fun _ => ⟨hclear', ?_⟩⟩
        cases k : s.role <;> simp_all

end

end Sys2Proof.Machine
end

section
open Sys2Proof Sys2Proof.Machine

/-- Settles O60: the queue and the drain list through each effect, and the kinds of what it builds. -/
theorem gatewayInvariant : Obligations.GatewayInvariant := fun _ _ hs htable hclear h =>
  step_induction_spared (P := fun s => s.gatewayOk ∧ s.tableOk ∧ s.clearedOk) (Q := State.gatewayOk)
    (fun u t hut hu => by rw [hut]; exact hu) (fun s _ h => h) (fun h => h.1)
    (fun c s u ⟨hs, htable, hclear⟩ hdoes hspares => does_gatewayOk hdoes hspares hs htable hclear)
    ⟨hs, htable, hclear⟩ h

end

section
/-! PROOFS. Where entries are placed, operation by operation (O58): a placed entry is named by the frame of its slot, and
is OWED there unless the selector has just been told that it is not. -/

namespace Sys2Proof.Machine

/-! ### A placed entry beside the slots, and what the selector has been told -/

/-- What is told only grows. -/
def Told.within (told told' : Told) : Prop :=
  (told.stage = true → told'.stage = true) ∧ (told.build = true → told'.build = true)

theorem Told.within_refl (told : Told) : told.within told := ⟨id, id⟩

theorem Told.within_changed (told : Told) (e : Entry) : told.within (told.changed e) := by
  unfold Told.changed
  split
  · exact told.within_refl
  · exact ⟨id, fun _ => rfl⟩
  · exact ⟨fun _ => rfl, id⟩

theorem Told.within_owed (told : Told) (e : Entry) : told.within (told.owed e) := ⟨id, id⟩

theorem Told.within.trans {a b c : Told} (h : a.within b) (k : b.within c) : a.within c :=
  ⟨fun x => k.1 (h.1 x), fun x => k.2 (h.2 x)⟩

theorem Told.within_foldl_owed (l : List Entry) (told : Told) : told.within (l.foldl (fun told e => told.owed e) told) := by
  induction l generalizing told with
  | nil => exact told.within_refl
  | cons e l ih => exact (told.within_owed e).trans (ih _)

/-- A placed entry is named by the frame of its slot, and is OWED where the frame needs it or has been told of. -/
def Entry.placedIn (sel : Selector) (told : Told) (e : Entry) : Prop :=
  (e.placed = .build → (e.owing = .owed ∨ told.build = true) ∧
    ∃ f ∈ sel.build.toList, (e.report.binId, e.report.seq) ∈ f.refs) ∧
  (e.placed = .stage → ∃ x ∈ sel.stage.toList, (e.report.binId, e.report.seq) ∈ x.frame.refs ∧
    (x.cond = .staged → e.owing = .owed ∨ told.stage = true))

/-- The placements of a table, but for what the selector has been told of. -/
def State.placedBut (told : Told) (s : State) : Prop := ∀ e ∈ s.table, e.placedIn s.sel told

section
variable {s t : State} {e : Entry} {sel : Selector} {told told' : Told}

theorem State.placedBut_nothing : s.placedBut .nothing ↔ s.placedOk := by
  simp [State.placedBut, State.placedOk, Entry.placedIn, Told.nothing]

theorem Entry.placedIn_of_unplaced (h : e.placed = .unplaced) : e.placedIn sel told := by
  simp [Entry.placedIn, h]

/-- The entry is changed in nothing that says where it is placed, and if it leaves OWED that is told. -/
theorem Entry.placedIn.alter {e' : Entry} (h : e.placedIn sel told) (hreport : e'.report = e.report)
    (hplaced : e'.placed = e.placed) (hwithin : told.within told')
    (howing : e.owing = .owed → e'.owing = .owed ∨ (told.changed e).within told') : e'.placedIn sel told' := by
  obtain ⟨hbuild, hstage⟩ := h
  rw [Entry.placedIn, hplaced, hreport]
  refine ⟨fun hp => ?_, fun hp => ?_⟩
  · obtain ⟨hor, hnamed⟩ := hbuild hp
    refine ⟨?_, hnamed⟩
    rcases hor with howed | htold
    · exact (howing howed).imp id fun k => k.2 (by simp [Told.changed, hp])
    · exact .inr (hwithin.2 htold)
  · obtain ⟨x, hx, hnamed, hor⟩ := hstage hp
    refine ⟨x, hx, hnamed, fun hcond => ?_⟩
    rcases hor hcond with howed | htold
    · exact (howing howed).imp id fun k => k.1 (by simp [Told.changed, hp])
    · exact .inr (hwithin.1 htold)

theorem Entry.placedIn.mono (h : e.placedIn sel told) (hwithin : told.within told') : e.placedIn sel told' :=
  h.alter rfl rfl hwithin .inl

theorem State.placedBut.mono (h : s.placedBut told) (hwithin : told.within told') : s.placedBut told' :=
  fun e he => (h e he).mono hwithin

theorem State.placedOk.but (h : s.placedOk) (told : Told) : s.placedBut told :=
  (State.placedBut_nothing.2 h).mono ⟨nofun, nofun⟩

/-! ### The merge and the issue of an own report -/

theorem State.alter_placedBut {f : Entry → Entry} (hw : tableWf s.table) (he : e ∈ s.table)
    (hf : ∀ x, (f x).report = x.report ∧ (f x).placed = x.placed) (h : s.placedBut told) :
    (s.alter e f told).1.placedBut (s.alter e f told).2 := by
  intro x hx
  obtain ⟨y, hy, rfl⟩ := List.mem_map.1 (show x ∈ changeEntry _ _ s.table from hx)
  have hwithin : told.within (s.alter e f told).2 := by
    unfold State.alter
    dsimp only
    split_ifs
    · exact told.within_changed e
    · exact told.within_owed e
    · exact told.within_refl
  change Entry.placedIn s.sel _ _
  split
  · next hsame =>
    obtain rfl := entry_unique hw hy he (.inl hsame)
    refine (h y hy).alter (hf y).1 (hf y).2 hwithin fun howed => ?_
    by_cases hstays : (f y).owing = .owed
    · exact .inl hstays
    · refine .inr ?_
      rw [show (s.alter y f told).2 = told.changed y from if_pos ⟨howed, hstays⟩]
      exact Told.within_refl _
  · exact (h y hy).mono hwithin

theorem State.insert_placedBut {new : Entry} (hnew : new.placed = .unplaced) (h : s.placedBut told) :
    (s.insert new).1.placedBut told := by
  rcases s.insert_cases new with ⟨p, -, k⟩ | ⟨-, k⟩ <;> rw [k]
  · intro x hx
    rcases mem_placeEntry.1 hx with rfl | hx
    · exact Entry.placedIn_of_unplaced hnew
    · exact h x (List.mem_of_mem_filter hx)
  · exact h

theorem State.placedBut.congr (h : s.placedBut told) (htable : t.table = s.table) (hsel : t.sel = s.sel) :
    t.placedBut told := by
  rw [State.placedBut, htable, hsel]
  exact h

theorem State.alters.placedBut {rs : List RxEntry} {rxTime : Nat} (h : State.alters rs rxTime s told t told')
    (htable : s.tableOk) (hrun : s.running = true) (hs : s.placedBut told) : t.placedBut told' := by
  induction h with
  | refl | raised | sequence => exact hs
  | trans h _ ih ih' => exact ih' (h.tableOk htable hrun) (h.keeps.1.trans hrun) (ih htable hrun hs)
  | @issued s told f emptied seq next hrole hfigures =>
    obtain ⟨u, rfl, ⟨own, -, k⟩ | ⟨-, k⟩⟩ := State.issueOwn_cases (s := s) (told := told) emptied seq next hfigures <;>
      rw [k]
    · intro x hx
      obtain ⟨y, hy, rfl⟩ := List.mem_map.1 hx
      split
      · exact Entry.placedIn_of_unplaced rfl
      · exact (hs y hy).mono ((told.within_changed own).trans (Told.within_owed _ _))
    · refine State.placedBut.mono (State.insert_placedBut rfl hs) ?_
      split
      · exact told.within_owed _
      · exact told.within_refl
  | heardAgain he | repaired he | ownSolicited he =>
    exact State.alter_placedBut htable.1 he (fun _ => ⟨rfl, rfl⟩) hs
  | @relayed s told g =>
    intro x hx
    obtain ⟨y, hy, rfl⟩ := List.mem_map.1 (show x ∈ s.table.map _ from hx)
    have hwithin : told.within (s.solicitRelayed g told).2 := Told.within_foldl_owed _ _
    change Entry.placedIn s.sel _ _
    split
    · exact (hs y hy).alter rfl rfl hwithin fun _ => .inl rfl
    · exact (hs y hy).mono hwithin
  | @superseded s told r e hr he hbin hnot =>
    intro x hx
    have htab : (s.supersede r rxTime e told).1.table =
        s.table.map fun x => if x.report.binId = e.report.binId then s.received r rxTime x.position x.origin else x := by
      simp [State.supersede, changeEntry]
    rw [htab] at hx
    obtain ⟨y, hy, rfl⟩ := List.mem_map.1 hx
    rw [show (s.supersede r rxTime e told).1.sel = s.sel by simp [State.supersede]]
    split
    · exact Entry.placedIn_of_unplaced rfl
    · refine (hs y hy).mono ?_
      unfold State.supersede
      dsimp only
      split
      · exact (told.within_changed e).trans (Told.within_owed _ _)
      · exact told.within_changed e
  | @inserted s told r =>
    have hinsert := State.insert_placedBut (new := s.received r rxTime 0 (s.cfg.originOf r.report.binId)) rfl hs
    unfold State.mergeAbsentBin
    dsimp only
    split
    · exact hs
    · split
      · refine State.placedBut.mono (hinsert.congr (by simp) (by simp)) ?_
        split
        · exact told.within_owed _
        · exact told.within_refl
      · exact hinsert
  | @drained s told e he =>
    intro x hx
    obtain ⟨y, hy, rfl⟩ := List.mem_map.1 (show x ∈ changeEntry _ _ s.table from hx)
    change Entry.placedIn s.sel _ _
    split
    · next hsame =>
      obtain rfl := entry_unique htable.1 hy he (.inl hsame)
      exact (hs y hy).alter rfl rfl (told.within_changed y) fun _ => .inr (Told.within_refl _)
    · exact (hs y hy).mono (told.within_changed e)

/-! ### Withdrawal and preemption -/

theorem State.withdrawBoth_placedOk (s : State) : s.withdrawBoth.placedOk := by
  intro x hx
  obtain ⟨y, hy, rfl⟩ := List.mem_map.1 (show x ∈ movePlacement _ _ _ from hx)
  obtain ⟨z, -, rfl⟩ := List.mem_map.1 (show y ∈ movePlacement _ _ _ from hy)
  cases hz : z.placed <;> simp [hz]

theorem State.withdrawBuild_placedOk (h : s.placedBut told) (hstage : told.stage = true → s.sel.staged = none) :
    s.withdrawBuild.placedOk := by
  intro x hx
  obtain ⟨y, hy, rfl⟩ := List.mem_map.1 (show x ∈ movePlacement _ _ _ from hx)
  obtain ⟨-, hnamed⟩ := h y hy
  split
  · exact ⟨nofun, nofun⟩
  · next hnot =>
    refine ⟨fun k => absurd k hnot, fun k => ?_⟩
    obtain ⟨z, hz, href, hor⟩ := hnamed k
    refine ⟨z, hz, href, fun hcond => (hor hcond).resolve_right fun htold => ?_⟩
    have hnone := hstage htold
    rw [Option.mem_toList] at hz
    simp [Selector.staged, show s.sel.stage = some z from hz, hcond] at hnone

/-- The selector acts on what it has been told: what no slot places any longer is unplaced (R88, R128). -/
theorem State.withdraw_placedOk (h : s.placedBut told) : (s.withdraw told.stage told.build).placedOk := by
  unfold State.withdraw
  by_cases hstage : told.stage = true ∧ s.sel.staged.isSome = true
  · rw [if_pos (by simpa using hstage)]
    exact s.withdrawBoth_placedOk
  · rw [if_neg (by simpa using hstage)]
    have hnone : told.stage = true → s.sel.staged = none := fun k => by simpa [k] using hstage
    split
    · exact State.withdrawBuild_placedOk h hnone
    · next hbuild =>
      intro x hx
      obtain ⟨hb, hst⟩ := h x hx
      refine ⟨fun k => ?_, fun k => ?_⟩
      · obtain ⟨hor, f, hf, href⟩ := hb k
        refine ⟨hor.resolve_right fun htold => hbuild ?_, f, hf, href⟩
        simp [htold, show s.sel.build = some f by simpa using hf]
      · obtain ⟨z, hz, href, hor⟩ := hst k
        refine ⟨z, hz, href, fun hcond => (hor hcond).resolve_right fun htold => ?_⟩
        have hstaged := hnone htold
        simp [Selector.staged, show s.sel.stage = some z by simpa using hz, hcond] at hstaged

theorem State.placedOk.withdrawBuild (h : s.placedOk) : s.withdrawBuild.placedOk :=
  State.withdrawBuild_placedOk (h.but .nothing) nofun

theorem State.placedOk.withdraw (h : s.placedOk) (stage build : Bool) : (s.withdraw stage build).placedOk :=
  State.withdraw_placedOk (told := { stage := stage, build := build, fresh := [] }) (h.but _)

theorem State.placedOk.preempt (h : s.placedOk) (fresh : List Urgency) : (s.preempt fresh).placedOk := by
  unfold State.preempt
  split
  · exact h
  · split_ifs
    · exact State.withdrawBoth_placedOk _
    · exact h
    · exact h.withdrawBuild
    · exact h

/-! ### Building -/

/-- The frame built names the bins it places, each the OWED and unplaced entry of its bin (R125). -/
theorem State.nextFrame_places {f : FrameRec} {bins : List BinId} (hw : tableWf s.table)
    (h : s.nextFrame = some (f, bins)) (he : e ∈ s.table) (hbin : e.report.binId ∈ bins) :
    e.owing = .owed ∧ (e.report.binId, e.report.seq) ∈ f.refs := by
  rcases s.nextFrame_cases h with ⟨-, x, hx, rfl, rfl⟩ | ⟨-, -, lead, rest, htake, rfl, rfl⟩ | ⟨-, -, rfl, -⟩ |
    ⟨-, -, rfl, -⟩
  · obtain ⟨-, hown, howed, -⟩ := State.probeEntry_eq_some.1 hx
    obtain rfl := entry_unique hw he (s.ownEntry_mem hown).1 (.inl (by simpa using hbin))
    exact ⟨howed, by simp [FrameRec.refs, Entry.freeze]⟩
  · obtain ⟨x, hx, hsame⟩ := List.mem_map.1 hbin
    obtain ⟨hmem, howed, -⟩ := State.mem_of_take htake x hx
    obtain rfl := entry_unique hw he hmem (.inl hsame.symm)
    exact ⟨howed, List.mem_map.2 ⟨e.freeze, List.mem_map.2 ⟨e, hx, rfl⟩, rfl⟩⟩
  · cases hbin
  · cases hbin

theorem State.placedOk.buildOne (h : s.placedOk) (hw : tableWf s.table) : s.buildOne.placedOk := by
  unfold State.buildOne
  split
  · exact h
  · next hbuild =>
    have hnobuild : ∀ y ∈ s.table, y.placed ≠ .build := fun y hy k => by
      obtain ⟨-, f, hf, -⟩ := (h y hy).1 k
      simp [show s.sel.build = some f by simpa using hf] at hbuild
    split
    · exact h
    · next f bins hnext =>
      split
      · next hnone =>
        intro x hx
        obtain ⟨y, hy, rfl⟩ := List.mem_map.1 (show x ∈ placeBins _ _ _ from hx)
        split
        · next hbin =>
          obtain ⟨howed, href⟩ := State.nextFrame_places hw hnext hy (by simpa using hbin)
          exact ⟨nofun, fun _ => ⟨_, List.mem_singleton.2 rfl, href, fun _ => howed⟩⟩
        · refine ⟨fun k => absurd k (hnobuild y hy), fun k => ?_⟩
          obtain ⟨z, hz, -⟩ := (h y hy).2 k
          rw [hnone] at hz
          cases hz
      · next z hz =>
        intro x hx
        obtain ⟨y, hy, rfl⟩ := List.mem_map.1 (show x ∈ placeBins _ _ _ from hx)
        split
        · next hbin =>
          obtain ⟨howed, href⟩ := State.nextFrame_places hw hnext hy (by simpa using hbin)
          exact ⟨fun _ => ⟨howed, f, List.mem_singleton.2 rfl, href⟩, nofun⟩
        · exact ⟨fun k => absurd k (hnobuild y hy), (h y hy).2⟩

theorem State.placedOk.selectorSettle (h : s.placedOk) (hw : tableWf s.table) : s.selectorSettle.placedOk := by
  have hfirst : s.drainFirst.placedOk := by
    unfold State.drainFirst
    split
    · exact State.withdrawBoth_placedOk _
    · exact h
  have htest : s.drainFirst.rebuildTest.placedOk := by
    unfold State.rebuildTest
    split
    · exact State.withdrawBoth_placedOk _
    · exact hfirst
  have hw' : tableWf s.drainFirst.rebuildTest.table :=
    tableWf_of_samePlacesAside (samePlacesAside_trans (State.rebuildTest_sameAside _) (State.drainFirst_sameAside _)) hw
  unfold State.selectorSettle
  split
  · exact (htest.buildOne hw').buildOne (tableWf_of_samePlacesAside (State.buildOne_sameAside _) hw')
  · exact h

theorem State.hear_placedOk (h : s.placedBut told) (hw : tableWf s.table) : (s.hear told).placedOk :=
  ((State.withdraw_placedOk h).preempt told.fresh).selectorSettle
    (tableWf_of_samePlacesAside (samePlacesAside_trans (State.preempt_sameAside _ _) (State.withdraw_sameAside _ _ _)) hw)

/-! ### The engine at the slots -/

/-- The table stands, BUILD too, and the frame in STAGE stands in a condition that asks no more. -/
theorem State.placedOk.recond (h : s.placedOk) (htable : t.table = s.table) (hbuild : t.sel.build = s.sel.build)
    (hstage : ∀ x, s.sel.stage = some x →
      ∃ y, t.sel.stage = some y ∧ y.frame = x.frame ∧ (y.cond = .staged → x.cond = .staged)) : t.placedOk := by
  rw [State.placedOk, htable, hbuild]
  refine fun e he => ⟨(h e he).1, fun k => ?_⟩
  obtain ⟨x, hx, href, howed⟩ := (h e he).2 k
  obtain ⟨y, hy, hframe, hcond⟩ := hstage x (by simpa using hx)
  exact ⟨y, by simpa using hy, hframe ▸ href, fun k => howed (hcond k)⟩

theorem State.placedOk.congr (h : s.placedOk) (htable : t.table = s.table) (hbuild : t.sel.build = s.sel.build)
    (hstage : t.sel.stage = s.sel.stage) : t.placedOk :=
  h.recond htable hbuild fun x hx => ⟨x, hstage.trans hx, rfl, id⟩

theorem State.placedOk.commit (h : s.placedOk) : s.commit.placedOk := by
  rcases s.commit_sel with ⟨k, -⟩ | ⟨f, hf, k⟩ <;> rw [k]
  · exact h
  · refine h.recond rfl rfl fun x hx => ⟨_, rfl, ?_, nofun⟩
    rw [hf] at hx
    cases hx
    rfl

theorem State.placedOk.engineSettle (h : s.placedOk) : s.engineSettle.placedOk := by
  rcases s.engineSettle_cases with k | ⟨-, -, -, -, k⟩ | ⟨-, -, -, -, -, -, k⟩ <;> rw [k]
  · exact h
  · exact h.commit
  · exact h

theorem State.placedOk.beginField (h : s.placedOk) : s.beginField.placedOk := by
  have : (if s.stageEligible then s.commit else s).placedOk := by
    split
    · exact h.commit
    · exact h
  exact this

theorem State.placedOk.fieldWon (h : s.placedOk) : s.fieldWon.placedOk := by
  refine h.recond (by simp [State.fieldWon_table]) ?_ fun x hx => ⟨{ x with cond := .sending }, ?_, rfl, nofun⟩
  · exact s.fieldWon_moves .build (by simp)
  · simp only [State.fieldWon, hx]
    split <;> rfl

/-- A frame that lost its field is STAGED again only where each entry it places is OWED (R127). -/
theorem State.placedOk.fieldLost (h : s.placedOk) (hw : tableWf s.table) : s.fieldLost.placedOk := by
  by_cases hc : s.sel.stageCond = some .committed
  · obtain ⟨f, hf⟩ := Selector.stageCond_eq_committed.1 hc
    have hloss : (s.afterLoss f).placedOk ∧ samePlacesAside (s.afterLoss f).table s.table := by
      unfold State.afterLoss
      split
      · exact ⟨State.withdrawBoth_placedOk _, State.withdrawBoth_sameAside _⟩
      · next hstands =>
        refine ⟨fun e he => ⟨(h e he).1, fun k => ?_⟩, rfl⟩
        obtain ⟨x, hx, href, -⟩ := (h e he).2 k
        obtain rfl : x = { frame := f, cond := .committed } := by
          simpa [hf, eq_comm] using hx
        refine ⟨_, List.mem_singleton.2 rfl, href, fun _ => ?_⟩
        have howes : s.owes (e.report.binId, e.report.seq) = true := by
          rcases hp : f.payload with ⟨es, probe⟩ | items | ⟨target, serial⟩
          · have hall : f.refs.all s.owes = true := by
              by_contra k
              exact hstands (by simp [State.withdrawnAtLoss, hp, k])
            exact List.all_eq_true.1 hall _ href
          · simp [FrameRec.refs, hp] at href
          · simp [FrameRec.refs, hp] at href
        obtain ⟨y, hy, hsame⟩ := List.any_eq_true.1 howes
        simp only [Bool.and_eq_true, beq_iff_eq] at hsame
        obtain ⟨⟨hbin, -⟩, howed⟩ := hsame
        rwa [entry_unique hw he hy (.inl hbin.symm)]
    rw [State.fieldLost_of_committed hf]
    exact hloss.1.selectorSettle (tableWf_of_samePlacesAside hloss.2 hw)
  · rwa [State.fieldLost_of_not hc]

end

end Sys2Proof.Machine
end

section
/-! PROOFS. Every step keeps the placements in accord with the slots (O58). -/

namespace Sys2Proof.Machine

section
variable {c : Instr} {s t u : State}

/-! ### The monitor and the echo outcome -/

theorem State.placedOk.setMonitor (h : s.placedOk) (hw : tableWf s.table) (m : Monitor) : (s.setMonitor m).placedOk := by
  have hraised : (State.raise .standing { s with mon := m }).placedOk := h
  rcases s.setMonitor_cases m with ⟨-, k⟩ | ⟨-, -, k⟩ | ⟨-, -, -, k⟩ | ⟨-, -, -, k⟩ <;> rw [k]
  · exact h
  · exact (hraised.withdraw true true).selectorSettle (tableWf_of_samePlacesAside (State.withdraw_sameAside _ _ _) hw)
  · have hmarked : (State.raise .standing { s with mon := m }).unprobed.placedOk := by
      rcases (State.raise .standing { s with mon := m }).unprobed_cases with k | ⟨key, es, hstage, k⟩ <;> rw [k]
      · exact h
      · intro e he
        obtain ⟨hbuild, hplaced⟩ := h e he
        refine ⟨hbuild, fun hp => ?_⟩
        obtain ⟨x, hx, href, howed⟩ := hplaced hp
        obtain rfl : x = ⟨⟨key, .fill es true⟩, .staged⟩ := by
          simpa [show s.sel.stage = _ from hstage, eq_comm] using hx
        exact ⟨_, List.mem_singleton.2 rfl, href, howed⟩
    refine hmarked.selectorSettle ?_
    rw [State.unprobed_eq]
    exact hw
  · exact hraised.selectorSettle hw

/-- The entries the SENDING frame names are unplaced by its outcome, and the others stand (R132). -/
theorem State.fillOutcome_placed {f : FrameRec} (echoed : Bool) (h : s.placedOk)
    (hf : s.sel.stage = some { frame := f, cond := .sending }) :
    ∀ e ∈ (s.fillOutcome echoed f.refs).table, e.placed ≠ .stage ∧
      (e.placed = .build → e.owing = .owed ∧ ∃ g ∈ s.sel.build.toList, (e.report.binId, e.report.seq) ∈ g.refs) := by
  have htable : (s.fillOutcome echoed f.refs).table = outcomeTable echoed s.cfg.sendLimit f s.table := by
    unfold State.fillOutcome
    dsimp only
    split <;> rfl
  rw [htable]
  intro e he
  obtain ⟨y, hy, rfl⟩ := List.mem_map.1 (show e ∈ List.map _ _ from he)
  split
  · exact ⟨nofun, nofun⟩
  · next hnot =>
    obtain ⟨hbuild, hstage⟩ := h y hy
    refine ⟨fun k => hnot ?_, hbuild⟩
    obtain ⟨x, hx, href, -⟩ := hstage k
    obtain rfl : x = { frame := f, cond := .sending } := by simpa [hf, eq_comm] using hx
    exact List.contains_iff_mem.2 href

/-- With nothing placed in STAGE, a frame that moves up from BUILD places its OWED entries there (R135). -/
theorem State.moveUp_placedOk
    (h : ∀ e ∈ s.table, e.placed ≠ .stage ∧
      (e.placed = .build → e.owing = .owed ∧ ∃ g ∈ s.sel.build.toList, (e.report.binId, e.report.seq) ∈ g.refs)) :
    s.moveUp.placedOk := by
  unfold State.moveUp
  split
  · next hnone =>
    intro e he
    obtain ⟨hstage, hbuild⟩ := h e he
    refine ⟨fun k => ?_, fun k => absurd k hstage⟩
    obtain ⟨-, g, hg, -⟩ := hbuild k
    rw [hnone] at hg
    cases hg
  · next f hf =>
    intro e he
    obtain ⟨y, hy, rfl⟩ := List.mem_map.1 he
    obtain ⟨hstage, hbuild⟩ := h y hy
    split
    · next hmoves =>
      refine ⟨nofun, fun _ => ⟨_, List.mem_singleton.2 rfl, ?_⟩⟩
      rcases (Bool.or_eq_true _ _).mp hmoves with k | k
      · obtain ⟨howed, g, hg, href⟩ := hbuild (by simpa using k)
        obtain rfl : g = f := by simpa [hf, eq_comm] using hg
        exact ⟨href, fun _ => howed⟩
      · obtain ⟨howed, href⟩ := (Bool.and_eq_true _ _).mp k
        exact ⟨List.contains_iff_mem.1 href, fun _ => by simpa using howed⟩
    · next hnot =>
      refine ⟨fun k => absurd ?_ hnot, fun k => absurd k hstage⟩
      simp [Entry.movesUpWith, k]

theorem State.placedOk.echoOutcome (h : s.placedOk) (hw : tableWf s.table) (echoed : Bool)
    (hfill : ∀ f ∈ s.sel.frames, f.isFill = true) : (s.echoOutcome echoed).placedOk := by
  by_cases hc : s.sel.stageCond = some .sending
  · obtain ⟨f, hf⟩ := Selector.stageCond_eq_sending.1 hc
    have happly : s.applyOutcome echoed f = s.fillOutcome echoed f.refs := by
      have := hfill f (by simp [Selector.frames, hf])
      rcases hp : f.payload with ⟨es, probe⟩ | items | ⟨target, serial⟩ <;> simp_all [State.applyOutcome, FrameRec.isFill]
    have hmoved : (s.fillOutcome echoed f.refs).moveUp.placedOk := by
      have hsel : (s.fillOutcome echoed f.refs).sel = s.sel := by
        unfold State.fillOutcome
        dsimp only
        split <;> rfl
      exact State.moveUp_placedOk (hsel ▸ State.fillOutcome_placed echoed h hf)
    rw [s.echoOutcome_of_sending echoed hf, happly]
    refine hmoved.selectorSettle (tableWf_of_samePlacesAside State.moveUp_sameAside ?_)
    rw [← happly]
    refine tableWf_of_samePlacesAside (State.applyOutcome_table echoed f) (tableWf_map (fun e _ => ?_) hw)
    split <;> exact ⟨rfl, rfl⟩
  · rwa [s.echoOutcome_of_not echoed hc]

theorem State.echoOutcome_tableWf (hw : tableWf s.table) (echoed : Bool) : tableWf (s.echoOutcome echoed).table := by
  by_cases hc : s.sel.stageCond = some .sending
  · obtain ⟨f, hf⟩ := Selector.stageCond_eq_sending.1 hc
    refine tableWf_of_samePlacesAside (State.echoOutcome_table echoed hf) (tableWf_map (fun e _ => ?_) hw)
    split <;> exact ⟨rfl, rfl⟩
  · rwa [s.echoOutcome_of_not echoed hc]

theorem State.placedOk.takeOutcome (h : s.placedOk) (hw : tableWf s.table) (echoed first : Bool)
    (hfill : ∀ f ∈ s.sel.frames, f.isFill = true) (hmonitor : ∀ f ∈ (s.monitorOutcome echoed).sel.frames,
      f.isFill = true) : (s.takeOutcome echoed first).placedOk := by
  unfold State.takeOutcome
  split
  · exact (h.setMonitor hw _).echoOutcome (tableWf_of_samePlacesAside (State.setMonitor_sameAside _) hw) echoed hmonitor
  · exact (h.echoOutcome hw echoed hfill).setMonitor (State.echoOutcome_tableWf hw echoed) _

/-! ### Every effect -/

theorem does_placedOk_bin (h : Does c s u) (hs : s.placedOk) (htable : s.tableOk) (hrun : s.running = true)
    (hfill : ∀ f ∈ s.sel.frames, f.isFill = true) (hbuilds : s.builds fun f => f.isFill = true)
      (hlife : u.running = s.running)
    (hrole : s.role = .bin)
    (hhand : s.gw.inHand = none) : u.placedOk := by
  have hw := htable.1
  cases h with
  | start k => rw [hrun] at k; cases k
  | restart | hardReset => rw [hrun] at hlife; cases hlife
  | solicit _ _ _ _ k => rw [hrole] at k; cases k
  | issue range flags =>
    have halters := s.sampleIssue_alters range flags hrole
    exact (State.hear_placedOk (halters.placedBut htable hrun (hs.but _)) (halters.tableOk htable hrun).1).engineSettle
  | complete k => rw [hhand] at k; cases k
  | noBoundary | sample | nothing => exact hs
  | boundary =>
    have hswept : (State.sweep { s with boundaryDue := false }).1.placedOk := fun e he =>
      hs e (List.mem_of_mem_filter he)
    have hheard := State.hear_placedOk (hswept.but (State.sweep { s with boundaryDue := false }).2)
      (tableWf_filter _ hw)
    refine (hheard.congr ?_ ?_ ?_).engineSettle <;>
      unfold State.countProbe State.countBoundary <;> (repeat' split) <;> simp
  | refill => exact (State.placedOk.selectorSettle (s := { s with sel := { s.sel with
      refillCount := 0, allowance := min s.cfg.capacity (s.sel.allowance + 1) } }) hs hw).engineSettle
  | probe => exact (hs.selectorSettle hw).engineSettle
  | carrierSeen | windowAwake | tailEndLeave => exact hs.congr (by simp) (by simp) (by simp)
  | lingerExpiry | fallAwake | gap | markWait => exact State.placedOk.engineSettle hs
  | echoSlotEnd => exact State.placedOk.engineSettle (hs.congr (by simp) (by simp) (by simp))
  | fallField | wakeEndLow | wakingFall => exact hs.beginField
  | wakingCap => exact (State.placedOk.fieldLost (s := { s with eng := s.eng.enterAwake true }) hs hw).engineSettle
  | slotLost | contentionLost => exact State.placedOk.fieldLost hs hw
  | won => exact hs.fieldWon
  | goodFrame =>
    have hgiven : ∀ f, (s.handOver f).placedOk := fun f => hs.congr (by simp) (by simp) (by simp)
    exact (hgiven _).setMonitor (by simpa using hw) _
  | badFrame =>
    refine State.placedOk.engineSettle (State.placedOk.congr (hs.setMonitor hw s.mon.bad) ?_ ?_ ?_) <;>
      simp [State.monitorBad]
  | awaitEchoEnd =>
    rename_i echoed carrier first _
    have hmonitor := State.setMonitor_frames (P := fun f => f.isFill = true)
      (s.mon.outcome echoed s.cfg.autoRejoin s.cfg.probeInterval) (fun _ _ => id) hfill hbuilds
    refine State.placedOk.engineSettle ((hs.takeOutcome hw echoed first hfill hmonitor).congr ?_ ?_ ?_) <;> simp
  | merge hmerging =>
    rename_i m
    have halters := s.mergePart_alters m
    exact (State.hear_placedOk (s := { (s.mergePart m).1 with pair := (s.mergePart m).1.pair.advance m })
      (halters.placedBut htable hrun (hs.but _)) (halters.tableOk htable hrun).1).engineSettle
  | _ => exact hs

theorem does_placedOk (h : Does c s u) (hspares : s.spares c u) (hs : s.placedOk) (htable : s.tableOk)
    (hclear : s.clearedOk) (hgateway : s.gatewayOk) : u.placedOk := by
  have hunplaced : (∀ e ∈ u.table, e.placed = .unplaced) → u.placedOk := fun k e he => by simp [k e he]
  have hcleared := does_clearedOk h hclear
  cases hrun : u.running with
  | false =>
    obtain ⟨-, -, -, hretained, -⟩ := hcleared.2 hrun
    refine hunplaced fun e he => ?_
    obtain ⟨-, -, hplaced, -⟩ := hretained e he
    exact hplaced
  | true =>
    rcases hspares.running_cases h hrun with ⟨held, mask, hstopped, rfl⟩ | ⟨hstarted, hlife, hconfig⟩
    · obtain ⟨-, -, -, hretained, -⟩ := hclear.2 hstopped
      rw [State.startRunning_eq]
      refine State.placedOk.congr (s := { s with table := prepareTable held s.table }) (fun e he => ?_) rfl rfl rfl
      obtain ⟨x, hx, rfl⟩ := List.mem_map.1 (show e ∈ List.map _ _ from he)
      have hx : x ∈ s.table := by
        split at hx
        · exact List.mem_of_mem_filter hx
        · exact hx
      obtain ⟨-, -, hplaced, -⟩ := hretained x hx
      simp [hplaced]
    · cases hrole : s.role with
      | gateway =>
        have hg : u.isGateway = true :=
          State.isGateway_iff.2 ⟨hrun, (State.role_congr hconfig).trans hrole⟩
        have hafter := does_gatewayOk h hspares hgateway htable hclear
        obtain ⟨⟨-, hentries⟩, -⟩ := (State.gatewayOk_iff.1 hafter).2.2.1 hg
        refine hunplaced fun e he => ?_
        obtain ⟨-, -, hplaced, -⟩ := hentries e he
        exact hplaced
      | bin =>
        have hg : s.isGateway = false := by simp [State.isGateway, hrole]
        obtain ⟨⟨-, hhand, -⟩, hfill⟩ := (State.gatewayOk_iff.1 hgateway).2.2.2 hg
        exact does_placedOk_bin h hs htable hstarted hfill (by simpa [hrole] using s.builds_kind) hlife hrole hhand

end

end Sys2Proof.Machine
end

section
open Sys2Proof Sys2Proof.Machine

/-- Settles O58: each effect keeps a placed entry named by its frame; what leaves OWED is told, and withdrawn. -/
theorem placementInvariant : Obligations.PlacementInvariant := fun _ _ hs htable hclear hgateway _ h =>
  step_induction_spared (P := fun s => s.placedOk ∧ s.tableOk ∧ s.clearedOk ∧ s.gatewayOk) (Q := State.placedOk)
    (fun u t hut hu => by rw [hut]; exact hu) (fun s _ h => h) (fun h => h.1)
    (fun c s u ⟨hs, htable, hclear, hgateway⟩ hdoes hspares => does_placedOk hdoes hspares hs htable hclear hgateway)
    ⟨hs, htable, hclear, hgateway⟩ h

end

section
/-! PROOFS. What the engine does of itself (R6, R8), case by case, and the engine's events in DOZE, SAMPLE, AWAKE, WAKING
and the hunt (O28, O29, O30, O34). -/

namespace Sys2Proof.Machine

section
variable {s : State}

/-! ### What the engine does of itself -/

theorem State.engineSettle_of_not (h : s.eng.state ≠ .awake ∨ s.eng.carrier = true) : s.engineSettle = s := by
  refine if_neg fun ⟨hstate, hcarrier⟩ => ?_
  rcases h with h | h
  · exact h hstate
  · rw [hcarrier] at h
    cases h

theorem State.engineSettle_waits (helig : s.stageEligible = true) (hgap : s.eng.idleGap < s.mon.standing.gap) :
    s.engineSettle = s := by
  unfold State.engineSettle
  rw [if_pos helig, if_neg (Nat.not_le.2 hgap)]
  split <;> rfl

theorem State.engineSettle_stays (helig : s.stageEligible = false)
    (h : s.role = .gateway ∨ s.eng.lingerExpired = false ∨ s.eng.watch.recognised = true) : s.engineSettle = s := by
  unfold State.engineSettle
  have hnot : ¬ (s.role = .bin ∧ s.eng.lingerExpired = true ∧ s.eng.watch.recognised = false) := fun ⟨hr, hl, hw⟩ => by
    rcases h with h | h | h <;> simp_all
  simp only [helig, Bool.false_eq_true, if_false, if_neg hnot, ite_self]

theorem State.engineSettle_dozes (hstate : s.eng.state = .awake) (hcarrier : s.eng.carrier = false)
    (helig : s.stageEligible = false) (hrole : s.role = .bin) (hlinger : s.eng.lingerExpired = true)
    (hwatch : s.eng.watch.recognised = false) :
    s.engineSettle = { s with eng := s.eng.enterDoze s.cfg.listenPeriod } := by
  simp [State.engineSettle, hstate, hcarrier, helig, hrole, hlinger, hwatch]

theorem State.engineSettle_wakes {f : FrameRec} (hstate : s.eng.state = .awake) (hcarrier : s.eng.carrier = false)
    (hstage : s.sel.stage = some { frame := f, cond := .staged }) (helig : s.stageEligible = true)
    (hgap : s.mon.standing.gap ≤ s.eng.idleGap) :
    s.engineSettle = { s with
      sel := { s.sel with stage := some { frame := f, cond := .committed } },
      eng := { s.eng with state := .waking, key := true, txd := some false } } := by
  rw [← State.enterWaking_of_staged hstage]
  simp [State.engineSettle, hstate, hcarrier, helig, hgap]

theorem Standing.le_gap (standing : Standing) : 8 ≤ standing.gap := by
  cases standing <;> decide

/-! ### The start of a field -/

theorem State.beginField_of_staged {f : FrameRec} (hstage : s.sel.stage = some { frame := f, cond := .staged })
    (helig : s.stageEligible = true) :
    s.beginField = { s with
      sel := { s.sel with stage := some { frame := f, cond := .committed } },
      eng := { s.eng with
        state := .field, slot := 0, part := .contender f.key f.isFill, kindObs := none, carrier := false,
        watch := .clear, radioEn := true, key := false, txd := none } } := by
  unfold State.beginField
  rw [if_pos helig, State.commit_of_staged hstage]
  rfl

theorem State.beginField_of_committed {f : FrameRec} (hstage : s.sel.stage = some { frame := f, cond := .committed }) :
    s.beginField = { s with eng := { s.eng with
        state := .field, slot := 0, part := .contender f.key f.isFill, kindObs := none, carrier := false,
        watch := .clear, radioEn := true, key := false, txd := none } } := by
  have helig : s.stageEligible = false := by simp [State.stageEligible, Selector.staged, hstage]
  have hpart : s.sel.fieldPart = .contender f.key f.isFill := by simp [Selector.fieldPart, hstage]
  simp only [State.beginField, helig, Bool.false_eq_true, if_false, hpart, Engine.keying]

theorem State.beginField_of_listener (helig : s.stageEligible = false)
    (hstage : s.sel.stage = none ∨ ∃ f, s.sel.stage = some { frame := f, cond := .staged }) :
    s.beginField = { s with eng := { s.eng with
        state := .field, slot := 0, part := .listener, kindObs := none, carrier := false,
        watch := .clear, radioEn := true, key := false, txd := none } } := by
  have hpart : s.sel.fieldPart = .listener := by
    rcases hstage with h | ⟨f, h⟩ <;> simp [Selector.fieldPart, h]
  simp only [State.beginField, helig, Bool.false_eq_true, if_false, hpart, Engine.keying]

theorem State.beginField_rest :
    s.beginField = { s with eng := s.beginField.eng, sel := s.beginField.sel } ∧
      s.beginField.eng = { s.eng with
        state := .field, slot := 0, part := s.beginField.eng.part, kindObs := none, carrier := false, watch := .clear,
        radioEn := true, key := false, txd := none } := by
  have hcommit : ∀ c : State, (c = s ∨ ∃ sel, c = { s with sel := sel }) → c = { s with sel := c.sel } := by
    rintro c (rfl | ⟨sel, rfl⟩) <;> rfl
  have hc : (if s.stageEligible then s.commit else s) =
      { s with sel := (if s.stageEligible then s.commit else s).sel } := by
    refine hcommit _ ?_
    split
    · rcases s.commit_sel with ⟨h, -⟩ | ⟨f, -, h⟩
      · exact .inl h
      · exact .inr ⟨_, h⟩
    · exact .inl rfl
  unfold State.beginField
  dsimp only
  rw [hc]
  exact ⟨rfl, rfl⟩

theorem FrameRec.isFill_iff {f : FrameRec} : f.isFill = true ↔ ∃ es probe, f.payload = .fill es probe := by
  rcases hp : f.payload with ⟨es, probe⟩ | items | ⟨target, serial⟩ <;> simp [FrameRec.isFill, hp]

end

end Sys2Proof.Machine
end

section
open Sys2Proof Sys2Proof.Machine

/-- Settles O28: each event's branch, and what the engine then does of itself. -/
theorem dozeSampleAndLinger : Obligations.DozeSampleAndLinger := by
  refine ⟨fun s => ⟨fun p hstate hlisten => ?_, fun hstate hrole => ⟨?_, fun helig => ?_, fun helig => ?_⟩⟩,
    fun s p hlinger => ⟨fun ⟨hstate, hcarrier, hrole, helig, hwatch⟩ => ?_, fun h => ?_⟩⟩
  · simp [exec, execListenTimerExpiry, hstate, hlisten]
  · simp only [exec, execSampleCarrierSeen, if_pos hstate, State.startLinger]
    rw [if_pos (by exact hrole)]
    rfl
  · simp only [exec, execSampleWindowEnd, if_pos hstate, if_pos helig, State.startLinger]
    rw [if_pos (by exact hrole)]
    rfl
  · simp only [exec, execSampleWindowEnd, if_pos hstate, helig]
    rfl
  · simp only [exec, execLingerExpiry, hlinger, Option.isSome_some, if_true]
    exact congrArg Host.Outcome.next (State.engineSettle_dozes
      (s := { s with eng := { s.eng with linger := none, lingerExpired := true } }) hstate hcarrier helig hrole rfl hwatch)
  · simp only [exec, execLingerExpiry, hlinger, Option.isSome_some, if_true]
    congr 1
    rcases h with h | h | ⟨helig, hgap⟩ | ⟨helig, h⟩
    · exact State.engineSettle_of_not (.inl h)
    · exact State.engineSettle_of_not (.inr h)
    · exact State.engineSettle_waits helig (lt_of_lt_of_le hgap (Standing.le_gap _))
    · exact State.engineSettle_stays helig (h.imp id .inr)

/-- Settles O29: the watch, the field that a recognised preamble begins, and the fall without one. -/
theorem carrierWatchAndFall : Obligations.CarrierWatchAndFall := by
  refine ⟨fun s hstate => ⟨fun hcarrier => ?_, fun hrunning => ⟨?_, ?_⟩⟩, fun s hstate hcarrier =>
    ⟨fun hwatch => ?_, fun hwatch => ⟨fun h => ?_, fun hlinger helig hrole => ?_⟩⟩⟩
  · simp [exec, execCarrierRise, hstate, hcarrier]
  · simp [exec, execPreambleRecognised, hstate, hrunning]
    rfl
  · simp [exec, execRxdLevelChange, hstate, hrunning]
  · have hfall : exec .carrierFall s = .next s.beginField := by
      simp [exec, execCarrierFall, hstate, hcarrier, hwatch]
    obtain ⟨hrest, heng⟩ := s.beginField_rest
    refine ⟨_, hfall, hrest, heng, fun f hstage helig => ?_, fun h => ?_⟩
    · rw [State.beginField_of_staged hstage helig]
      exact ⟨rfl, f.isFill, rfl, FrameRec.isFill_iff⟩
    · have helig : s.stageEligible = false := by
        rcases h with h | ⟨h, -⟩
        · simp [State.stageEligible, Selector.staged, h]
        · exact h
      rw [State.beginField_of_listener helig (h.imp id fun h => h.2)]
      exact ⟨rfl, rfl⟩
  · have hfall : exec .carrierFall s =
        .next (State.engineSettle { s with eng := { s.eng with carrier := false, idleGap := 0, watch := .clear } }) := by
      simp [exec, execCarrierFall, hstate, hcarrier, hwatch]
    rw [hfall]
    congr 1
    by_cases helig : s.stageEligible = true
    · exact State.engineSettle_waits helig (lt_of_lt_of_le (by decide : 0 < 8) (Standing.le_gap _))
    · refine State.engineSettle_stays (eq_false_of_ne_true helig) ?_
      rcases h with h | h | h
      · exact .inr (.inl h)
      · exact absurd h helig
      · exact .inl h
  · have hfall : exec .carrierFall s =
        .next (State.engineSettle { s with eng := { s.eng with carrier := false, idleGap := 0, watch := .clear } }) := by
      simp [exec, execCarrierFall, hstate, hcarrier, hwatch]
    rw [hfall]
    exact congrArg Host.Outcome.next (State.engineSettle_dozes
      (s := { s with eng := { s.eng with carrier := false, idleGap := 0, watch := .clear } }) hstate rfl helig hrole
      hlinger rfl)

/-- Settles O30: the gap reached, and the two ways the wake length's end begins a field. -/
theorem idleGapAndWakeLength : Obligations.IdleGapAndWakeLength := by
  have hreached : ∀ s : State, s.eng.state = .awake → s.eng.carrier = false → exec .idleGapReached s =
      .next (State.engineSettle { s with eng := { s.eng with idleGap := max s.eng.idleGap s.mon.standing.requires } }) :=
    fun s hstate hcarrier => by
      simp only [exec, execIdleGapReached, if_pos (And.intro hstate hcarrier), Standing.gap_eq]
  refine ⟨fun s hstate hcarrier => ⟨_, rfl, fun f hstage helig => ?_, fun helig hlinger => ?_⟩,
    fun s hstate => ⟨fun hkey => ?_, fun c f hc hstage => ⟨f.isFill, FrameRec.isFill_iff, ?_⟩⟩⟩
  · rw [hreached s hstate hcarrier]
    exact congrArg Host.Outcome.next (State.engineSettle_wakes
      (s := { s with eng := { s.eng with idleGap := max s.eng.idleGap s.mon.standing.requires } }) hstate hcarrier hstage
      helig ((Standing.gap_eq _).trans_le (le_max_right _ _)))
  · rw [hreached s hstate hcarrier]
    exact congrArg Host.Outcome.next (State.engineSettle_stays
      (s := { s with eng := { s.eng with idleGap := max s.eng.idleGap s.mon.standing.requires } }) helig
      (.inr (.inl hlinger)))
  · simp [exec, execWakeLengthEnd, hstate, hkey, Engine.keying]
  · rw [← State.beginField_of_committed hstage]
    rcases hc with ⟨rfl, hkey⟩ | ⟨rfl, hkey⟩
    · simp [exec, execWakeLengthEnd, hstate, hkey]
    · simp [exec, execWakingCarrierFall, hstate, hkey]

end

section
/-! PROOFS. The hunt for the opening mark (O34). -/

namespace Sys2Proof.Machine

/-- Bits that end in the mark, and show it nowhere before, are found by the hunt (R11). -/
theorem openingMarkAtEnd_of_ends : ∀ {rxd : List Bool}, (∃ before, rxd = before ++ markBits) →
    (∀ before after, rxd = before ++ markBits ++ after → after = []) → openingMarkAtEnd rxd = true
  | [], ⟨before, h⟩, _ => by simp [markBits] at h
  | b :: bs, ⟨before, h⟩, hfirst => by
    unfold openingMarkAtEnd
    split
    · next htake =>
      have hsplit : b :: bs = [] ++ markBits ++ (b :: bs).drop 8 := by
        conv_lhs => rw [← List.take_append_drop 8 (b :: bs), htake]
        rfl
      have hlen := congrArg List.length hsplit
      rw [hfirst _ _ hsplit] at hlen
      simpa [markBits] using hlen
    · next hnot =>
      cases before with
      | nil => exact absurd (by rw [h]; rfl) hnot
      | cons x before =>
        obtain ⟨rfl, rfl⟩ := List.cons_eq_cons.1 h
        refine openingMarkAtEnd_of_ends ⟨before, rfl⟩ fun y after hy => hfirst (b :: y) after ?_
        rw [hy]
        rfl

/-- What the hunt finds ends in the mark (R11). -/
theorem ends_of_openingMarkAtEnd : ∀ {rxd : List Bool}, openingMarkAtEnd rxd = true → ∃ before, rxd = before ++ markBits
  | [], h => by cases h
  | b :: bs, h => by
    unfold openingMarkAtEnd at h
    split at h
    · next htake =>
      refine ⟨[], ?_⟩
      rw [← htake, List.nil_append, List.take_of_length_le]
      simp only [List.length_cons, of_decide_eq_true h, le_refl]
    · obtain ⟨before, rfl⟩ := ends_of_openingMarkAtEnd h
      exact ⟨b :: before, rfl⟩

end Sys2Proof.Machine
end

section
open Sys2Proof Sys2Proof.Machine

/-- Settles O34: the first place of the mark, and the engine's own way on from the mark wait's end. -/
theorem markHunt : Obligations.MarkHunt := by
  intro s hstate honAir
  have hexpiry : ∀ carrier, exec (.markWaitExpiry carrier) s =
      .next (State.engineSettle { s with eng := ({ s.eng with kindObs := none }).enterAwake carrier }) := fun carrier => by
    simp only [exec, execMarkWaitExpiry, if_pos (And.intro hstate honAir)]
  refine ⟨fun rxd => ⟨fun hends hfirst => ?_, fun hnot => ?_⟩, fun carrier h => ?_, fun hlinger helig hrole => ?_⟩
  · simp only [exec, execOpeningMarkFound, if_pos (And.intro hstate (And.intro honAir
      (openingMarkAtEnd_of_ends hends hfirst)))]
    rfl
  · refine if_neg fun ⟨_, _, hmark⟩ => ?_
    obtain ⟨before, hbefore⟩ := ends_of_openingMarkAtEnd hmark
    exact hnot before hbefore
  · rw [hexpiry]
    refine congrArg Host.Outcome.next ?_
    by_cases helig : s.stageEligible = true
    · exact State.engineSettle_waits helig (lt_of_lt_of_le (by decide : 0 < 8) (Standing.le_gap _))
    · rcases h with rfl | h | h | h
      · exact State.engineSettle_of_not (.inr rfl)
      · exact State.engineSettle_stays (eq_false_of_ne_true helig) (.inr (.inl h))
      · exact absurd h helig
      · exact State.engineSettle_stays (eq_false_of_ne_true helig) (.inl h)
  · rw [hexpiry]
    exact congrArg Host.Outcome.next (State.engineSettle_dozes
      (s := { s with eng := ({ s.eng with kindObs := none }).enterAwake false }) rfl rfl helig hrole hlinger rfl)

end

section
/-! PROOFS. An accepted START (O12, O14): what becomes held, set and cleared, and the table and the queue it prepares. -/

namespace Sys2Proof.Machine

/-! ### Masked matches (R45, R85) -/

/-- A masked match agrees at every bit the mask leaves. -/
theorem maskedMatch_iff {id mask b : BinId} :
    maskedMatch id mask b = true ↔ ∀ i < 24, mask.getLsbD i = false → b.getLsbD i = id.getLsbD i := by
  have hbit : ∀ i < 24, ((b ^^^ id) &&& ~~~mask).getLsbD i = ((b.getLsbD i ^^ id.getLsbD i) && !mask.getLsbD i) := by
    intro i hi
    rw [BitVec.getLsbD_and, BitVec.getLsbD_xor, BitVec.getLsbD_not, decide_eq_true hi, Bool.true_and]
  rw [maskedMatch, beq_iff_eq]
  refine ⟨fun h i hi hmask => ?_, fun h => BitVec.eq_of_getLsbD_eq fun i hi => ?_⟩
  · have hzero := hbit i hi
    rw [h, hmask, show (0 : BinId).getLsbD i = false from BitVec.getLsbD_zero, Bool.not_false, Bool.and_true] at hzero
    exact bne_eq_false_iff_eq.1 hzero.symm
  · rw [hbit i hi, show (0 : BinId).getLsbD i = false from BitVec.getLsbD_zero]
    cases hmask : mask.getLsbD i
    · rw [h i hi hmask, Bool.xor_self, Bool.false_and]
    · rw [Bool.not_true, Bool.and_false]

theorem HeldConfig.isHome_iff {c : HeldConfig} {b : BinId} : c.isHome b = true ↔ c.matchesHome b := by
  rw [HeldConfig.isHome, HeldConfig.matchesHome, ← maskedMatch_iff]
  cases maskedMatch c.filterId c.filterMask b <;> cases c.invert <;> decide

theorem HeldConfig.originOf_cases (c : HeldConfig) (b : BinId) :
    c.originOf b = .home ∧ c.matchesHome b ∨ c.originOf b = .passing ∧ ¬ c.matchesHome b := by
  rw [← HeldConfig.isHome_iff]
  cases h : c.isHome b <;> simp [HeldConfig.originOf, h]

/-! ### The queue in rising order -/

theorem mem_startQueue {c : HeldConfig} (hc : c.role = .gateway) {t : List Entry} {b : BinId} :
    b ∈ startQueue c t ↔ ∃ e ∈ t, e.report.binId = b ∧ e.owing ≠ .drained := by
  rw [startQueue, if_pos hc, List.mem_insertionSort]
  simp only [List.mem_map, List.mem_filter, bne_iff_ne, ne_eq]
  exact ⟨fun ⟨e, ⟨he, hnot⟩, hb⟩ => ⟨e, he, hb, hnot⟩, fun ⟨e, he, hb, hnot⟩ => ⟨e, ⟨he, hnot⟩, hb⟩⟩

theorem startQueue_rising {c : HeldConfig} (hc : c.role = .gateway) {t : List Entry} (hw : tableWf t) :
    (startQueue c t).Pairwise (fun a b => a.toNat < b.toNat) := by
  rw [startQueue, if_pos hc]
  have hsorted := List.pairwise_insertionSort (fun a b : BinId => a.toNat ≤ b.toNat)
    ((t.filter fun e => e.owing != .drained).map fun e => e.report.binId)
  have hnodup : (List.insertionSort (fun a b : BinId => a.toNat ≤ b.toNat)
      ((t.filter fun e => e.owing != .drained).map fun e => e.report.binId)).Nodup := by
    rw [(List.perm_insertionSort _ _).nodup_iff]
    exact List.Pairwise.map _ (fun _ _ k => k) (List.Pairwise.filter _ (hw.1.imp fun k => k.2))
  exact (hsorted.and hnodup).imp fun ⟨hle, hne⟩ => lt_of_le_of_ne hle fun k => hne (BitVec.eq_of_toNat_eq k)

/-! ### The accepted START -/

section
variable {s : State} {args : List Byte}

/-- An accepted record's START, run and replied (R175). -/
theorem exec_start_runs (hready : s.port.ready = true) (hlen : args.length = 43) (hrun : s.running = false)
    (haccept : startFailure args = none) :
    ∃ result, exec (.start args) s =
      .next (s.replied args (0x00 :: result) (s.startRunning (appliedConfig args) (readRecord args).noticeMask)) := by
  have hfield : (readRecord args).refusedField = none := by
    rwa [startFailure_eq_refusedField hlen, Option.map_eq_none_iff] at haccept
  exact ⟨_, by rw [exec_start_of_length hready hlen, State.startAct_accepted hrun hfield, appliedConfig]⟩

end

end Sys2Proof.Machine
end

section
open Sys2Proof Sys2Proof.Machine

/-- Settles O12: the state START gives, read off its record form. -/
theorem startRuns : Obligations.StartRuns := by
  intro s args hready hlen hrun haccept
  obtain ⟨result, hexec⟩ := exec_start_runs hready hlen hrun haccept
  have hstart := s.startRunning_eq (appliedConfig args) (readRecord args).noticeMask
  refine ⟨appliedConfig args, _, result, hexec, ?_⟩
  rw [hstart]
  refine ⟨rfl, ?_, ?_, rfl, rfl, rfl, rfl, rfl, rfl, rfl, fun htail => ?_, fun htail hbin => ?_, fun htail hgateway => ?_⟩
  · rw [appliedConfig_role_eq, recordIsBin, decide_eq_true_iff]
  · exact toNat_ofNat_fieldAt args 1 3
  · exact if_neg htail
  · have heng : s.startEngine (appliedConfig args) = s.eng.enterDoze (appliedConfig args).listenPeriod := by
      rw [State.startEngine, if_pos htail, hbin]
    exact ⟨by rw [heng]; rfl, by rw [heng]; rfl, by rw [heng]; rfl, by rw [heng]; rfl⟩
  · have heng : s.startEngine (appliedConfig args) = s.eng.enterAwake s.eng.carrier := by
      rw [State.startEngine, if_pos htail, hgateway]
    exact ⟨by rw [heng]; rfl, by rw [heng]; rfl, by rw [heng]; rfl, by rw [heng]; rfl, by rw [heng]; rfl⟩

/-- Settles O14: the retained table and the queue by role. -/
theorem startPreparesTheTable : Obligations.StartPreparesTheTable := by
  intro s args hready hlen hrun haccept hw
  obtain ⟨result, hexec⟩ := exec_start_runs hready hlen hrun haccept
  have hstart := s.startRunning_eq (appliedConfig args) (readRecord args).noticeMask
  refine ⟨appliedConfig args, _, result, (appliedConfig args).originOf, hexec, ?_⟩
  rw [hstart]
  refine ⟨rfl, HeldConfig.originOf_cases _, fun hbin => ⟨?_, ?_, fun habsent => ?_, fun e he hown => ?_⟩,
    fun hgateway => ⟨prepareTable_gateway hgateway _, ?_, ?_, fun b => ?_⟩⟩
  · simp only [prepareTable, hbin, if_true]
  · exact if_neg (by simp [hbin])
  · have hnone : s.entryOf (appliedConfig args).stationId = none := State.entryOf_eq_none.2 habsent
    simp only [hbin, if_true, hnone, startSequence]
  · have hsome : s.entryOf (appliedConfig args).stationId = some e := State.entryOf_of_holds ⟨hw, he, hown⟩
    simp only [hbin, if_true, hsome, startSequence, serial_eq_newer_iff]
  · simp [hgateway]
  · refine startQueue_rising hgateway ?_
    rw [prepareTable_gateway hgateway]
    exact tableWf_map (fun _ _ => ⟨rfl, rfl⟩) hw
  · rw [mem_startQueue hgateway, prepareTable_gateway hgateway]
    simp only [List.mem_map, exists_exists_and_eq_and]

end

section
/-! PROOFS. What a withdrawal and the building behind it leave: frames that name OWED entries alone, led as urgently as
anything admitted (R124, R125, R128, R129). -/

namespace Sys2Proof.Machine

section
variable {s t u : State} {f : FrameRec} {bins : List BinId} {e : Entry} {told : Told}

/-! ### The lead of what is built -/

theorem State.mayFill.unplaced (h : s.mayFill e) : { e with placed := .unplaced } = e := by
  obtain ⟨-, hplaced, -⟩ := h
  rw [← hplaced]

/-- In the bin role what is built is led at least as urgently as every admitted entry (R124, R125). -/
theorem State.nextFrame_ledWithin (hrole : s.role = .bin) (h : s.nextFrame = some (f, bins)) (he : e ∈ s.table)
    (hmay : s.mayFill e) : f.ledWithin e.report.cls := by
  rcases s.nextFrame_cases h with ⟨-, x, hprobe, -⟩ | ⟨-, -, lead, rest, htake, -, rfl⟩ | ⟨k, -⟩ | ⟨k, -⟩
  · obtain ⟨⟨hmute, -⟩, -⟩ := State.probeEntry_eq_some.1 hprobe
    exact absurd hmute hmay.2.2.1
  · refine ⟨lead.freeze, rest.map Entry.freeze, false, rfl, ?_⟩
    have hmem : e ∈ inSelectionOrder s.admittedEntries := mem_inSelectionOrder.2 (State.mem_admittedEntries.2 ⟨he, hmay⟩)
    have hsorted := inSelectionOrder_pairwise s.admittedEntries
    cases hsorder : inSelectionOrder s.admittedEntries with
    | nil =>
      rw [hsorder] at hmem
      cases hmem
    | cons x xs =>
      obtain rfl : x = lead := by
        rw [hsorder, List.take_succ_cons] at htake
        exact (List.cons_eq_cons.1 htake).1
      rw [hsorder] at hmem hsorted
      have hle : selectionRank x ≤ selectionRank e := by
        rcases List.mem_cons.1 hmem with rfl | hmem
        · exact le_refl _
        · exact (List.pairwise_cons.1 hsorted).1 e hmem
      have hcls : x.report.cls.val ≤ e.report.cls.val := by
        rcases Prod.Lex.toLex_le_toLex.1 hle with hlt | ⟨heq, -⟩
        · exact le_of_lt hlt
        · exact le_of_eq heq
      exact hcls
  · rw [hrole] at k
    cases k
  · rw [hrole] at k
    cases k

/-- An entry that a build places is unplaced before it. -/
theorem State.nextFrame_unplaced (hw : tableWf s.table) (h : s.nextFrame = some (f, bins)) (he : e ∈ s.table)
    (hbin : e.report.binId ∈ bins) : e.placed = .unplaced := by
  rcases s.nextFrame_cases h with ⟨-, x, hx, rfl, -⟩ | ⟨-, -, lead, rest, htake, rfl, -⟩ | ⟨-, -, rfl, -⟩ | ⟨-, -, rfl, -⟩
  · obtain ⟨-, hown, -, hplaced, -⟩ := State.probeEntry_eq_some.1 hx
    rwa [entry_unique hw he (s.ownEntry_mem hown).1 (.inl (by simpa using hbin))]
  · obtain ⟨x, hx, hsame⟩ := List.mem_map.1 hbin
    obtain ⟨hmem, -, hplaced, -⟩ := State.mem_of_take htake x hx
    rwa [entry_unique hw he hmem (.inl hsame.symm)]
  · cases hbin
  · cases hbin

/-! ### Building behind a withdrawal -/

/-- With nothing STAGED the tests on STAGE do nothing, and the selector builds (R126, R138). -/
theorem State.selectorSettle_of_not_staged (hrun : s.running = true) (hstage : s.sel.staged = none) :
    s.selectorSettle = s.buildAll := by
  have hfirst : s.drainFirst = s := by simp [State.drainFirst, hstage]
  have htest : s.rebuildTest = s := by simp [State.rebuildTest, hstage]
  rw [State.selectorSettle, if_pos hrun, hfirst, htest]

theorem State.withdrawBoth_unplaced (s : State) : ∀ e ∈ s.withdrawBoth.table, e.placed = .unplaced := by
  rw [State.withdrawBoth_eq]
  intro e he
  obtain ⟨x, -, rfl⟩ := List.mem_map.1 he
  rfl

theorem State.withdrawBuild_unplaced (s : State) :
    ∀ e ∈ s.withdrawBuild.table, e.placed = .unplaced ∨ e.placed = .stage := by
  rw [State.withdrawBuild_eq]
  intro e he
  obtain ⟨x, -, rfl⟩ := List.mem_map.1 he
  cases x.placed <;> simp

theorem State.reselects.mayFill (h : s.reselects t) (e : Entry) : t.mayFill e ↔ s.mayFill e := by
  rw [State.mayFill, State.mayFill, h.mon, h.allowance]

/-- Both slots EMPTY and nothing placed: what is then built is the most urgent (R125). -/
theorem State.selectorSettle_stageRebuilt (hrun : s.running = true) (hrole : s.role = .bin) (hbuild : s.sel.build = none)
    (hstage : s.sel.stage = none) (hun : ∀ e ∈ s.table, e.placed = .unplaced) : s.selectorSettle.stageRebuilt := by
  have hadmitted : ∀ e ∈ s.selectorSettle.table, s.selectorSettle.mayFill { e with placed := .unplaced } →
      ∃ x ∈ s.table, s.mayFill x ∧ x.report = e.report := fun e he hmay => by
    obtain ⟨p, hp⟩ := exists_mem_of_samePlacesAside (State.selectorSettle_sameAside s) he
    refine ⟨_, hp, ?_, rfl⟩
    obtain rfl := hun _ hp
    exact ((State.selectorSettle_reselects s).mayFill _).1 hmay
  have hreselects := State.selectorSettle_reselects s
  have hsettle := State.selectorSettle_of_not_staged hrun (show s.sel.staged = none by simp [Selector.staged, hstage])
  rcases hnext : s.nextFrame with _ | ⟨f, bins⟩
  · rw [State.buildAll_of_nothing hnext] at hsettle
    refine ⟨fun e he hmay => ?_, fun x hx => ?_⟩
    · obtain ⟨x, hx, hfill, -⟩ := hadmitted e he hmay
      exact absurd hfill (State.not_mayFill_of_nextFrame hnext hrole x hx)
    · rw [hsettle, hstage] at hx
      cases hx
  · have hstaged : s.selectorSettle.sel.stage = some { frame := f, cond := .staged } := by
      have hone := State.buildOne_stages hbuild hstage hnext
      rw [hsettle, State.buildAll, State.buildOne_stage_some (by rw [hone]; nofun), hone]
    refine ⟨fun e he hmay => ⟨_, hstaged, ?_⟩, fun x hx => ?_⟩
    · obtain ⟨x, hx, hfill, hreport⟩ := hadmitted e he hmay
      rw [← hreport]
      exact State.nextFrame_ledWithin hrole hnext hx hfill
    · rw [hstaged] at hx
      cases hx
      rw [hreselects.eligible]
      exact (State.mayBuild_of_nextFrame hnext).1

/-- BUILD EMPTY behind a frame that is not STAGED, and nothing placed there: what is then built is the most urgent. -/
theorem State.selectorSettle_buildRebuilt {x : StageSlot} (hrun : s.running = true) (hrole : s.role = .bin)
    (hw : tableWf s.table) (hbuild : s.sel.build = none) (hstage : s.sel.stage = some x) (hcond : x.cond ≠ .staged)
    (hun : ∀ e ∈ s.table, e.placed = .unplaced ∨ e.placed = .stage) : s.selectorSettle.buildRebuilt := by
  have hreselects := State.selectorSettle_reselects s
  have hsettle := State.selectorSettle_of_not_staged hrun (show s.sel.staged = none by
    simp [Selector.staged, hstage, hcond])
  rcases hnext : s.nextFrame with _ | ⟨f, bins⟩
  · rw [State.buildAll_of_nothing hnext] at hsettle
    rw [hsettle]
    refine ⟨fun e he hplaced hmay => ?_, fun g hg => ?_⟩
    · have hunplaced := (hun e he).resolve_right hplaced
      rw [← hunplaced] at hmay
      exact absurd hmay (State.not_mayFill_of_nextFrame hnext hrole e he)
    · rw [hbuild] at hg
      cases hg
  · have hone := State.buildOne_builds hbuild (by rw [hstage]; nofun) hnext
    have htwo : s.selectorSettle = { s with
        sel := { s.sel with build := some f }, table := placeBins bins .build s.table } := by
      rw [hsettle, State.buildAll, State.buildOne_of_built (by rw [hone]; nofun), hone]
    refine ⟨fun e he hplaced hmay => ⟨f, by rw [htwo], ?_⟩, fun g hg => ?_⟩
    · rw [htwo] at he
      obtain ⟨y, hy, rfl⟩ := List.mem_map.1 (show e ∈ placeBins _ _ _ from he)
      have hfill : s.mayFill { y with placed := .unplaced } := by
        refine (hreselects.mayFill _).1 ?_
        split at hmay <;> exact hmay
      have hunplaced : y.placed = .unplaced := by
        by_cases hbin : bins.contains y.report.binId = true
        · exact State.nextFrame_unplaced hw hnext hy (by simpa using hbin)
        · rw [if_neg hbin] at hplaced
          exact (hun y hy).resolve_right hplaced
      rw [← hunplaced] at hfill
      have hled := State.nextFrame_ledWithin hrole hnext hy hfill
      split <;> exact hled
    · rw [htwo] at hg
      cases hg
      rw [hreselects.eligible]
      exact (State.mayBuild_of_nextFrame hnext).1

/-! ### Preemption through what the selector hears (R129) -/

/-- The uncommitted frames are withdrawn, and what is built is the most urgent. -/
theorem State.withdrawBoth_settle (hrun : s.running = true) (hrole : s.role = .bin) :
    s.withdrawBoth.selectorSettle.stageRebuilt :=
  State.selectorSettle_stageRebuilt hrun hrole rfl rfl s.withdrawBoth_unplaced

theorem State.withdrawBuild_settle {x : StageSlot} (hrun : s.running = true) (hrole : s.role = .bin)
    (hw : tableWf s.table) (hstage : s.sel.stage = some x) (hcond : x.cond ≠ .staged) :
    s.withdrawBuild.selectorSettle.buildRebuilt :=
  State.selectorSettle_buildRebuilt (s := s.withdrawBuild) hrun hrole
    (tableWf_of_samePlacesAside (State.withdrawBuild_sameAside _) hw) rfl hstage hcond s.withdrawBuild_unplaced

theorem State.withdraw_cases (stage build : Bool) :
    (s.withdraw stage build = s.withdrawBoth ∧ stage = true ∧ s.sel.staged.isSome = true) ∨
      (s.withdraw stage build = s.withdrawBuild ∧ build = true ∧ s.sel.build.isSome = true ∧
        ¬ (stage = true ∧ s.sel.staged.isSome = true)) ∨
      (s.withdraw stage build = s ∧ ¬ (stage = true ∧ s.sel.staged.isSome = true) ∧
        ¬ (build = true ∧ s.sel.build.isSome = true)) := by
  unfold State.withdraw
  by_cases hstage : stage = true ∧ s.sel.staged.isSome = true
  · exact .inl ⟨if_pos (by simpa using hstage), hstage.1, hstage.2⟩
  · by_cases hbuild : build = true ∧ s.sel.build.isSome = true
    · refine .inr (.inl ⟨?_, hbuild.1, hbuild.2, hstage⟩)
      rw [if_neg (by simpa using hstage), if_pos (by simpa using hbuild)]
    · refine .inr (.inr ⟨?_, hstage, hbuild⟩)
      rw [if_neg (by simpa using hstage), if_neg (by simpa using hbuild)]

theorem State.preempt_of_empty (hstage : s.sel.stage = none) (fresh : List Urgency) : s.preempt fresh = s := by
  simp [State.preempt, hstage]

/-- What becomes OWED withdraws a frame that a larger class leads, and the slots are built anew (R129). -/
theorem State.hear_preemptedBy {cls : Urgency} (hrun : s.running = true) (hrole : s.role = .bin) (hw : tableWf s.table)
    (hcls : cls ∈ told.fresh) : s.preemptedBy (s.hear told) cls := by
  intro f lead rest probe hpayload hlt
  have hout : f.outranked told.fresh = true := (f.outranked_iff _).2 ⟨lead, rest, probe, hpayload, cls, hcls, hlt⟩
  refine ⟨fun hstage => ?_, fun ⟨x, hstage, hcond⟩ hbuild => ?_⟩
  · unfold State.hear
    rcases s.withdraw_cases told.stage told.build with ⟨k, -⟩ | ⟨k, -⟩ | ⟨k, -⟩ <;> rw [k]
    · rw [State.preempt_of_empty rfl]
      exact State.withdrawBoth_settle hrun hrole
    · rw [State.preempt_staged (s := s.withdrawBuild) hstage rfl hout]
      exact State.withdrawBoth_settle (s := s.withdrawBuild) hrun hrole
    · rw [State.preempt_staged hstage rfl hout]
      exact State.withdrawBoth_settle hrun hrole
  · have hnone : s.sel.staged = none := by simp [Selector.staged, hstage, hcond]
    unfold State.hear
    rcases s.withdraw_cases told.stage told.build with ⟨-, -, k⟩ | ⟨k, -⟩ | ⟨k, -⟩
    · rw [hnone] at k
      cases k
    · rw [k, State.preempt_behind_not (s := s.withdrawBuild) hstage hcond (fun _ => nofun)]
      exact State.withdrawBuild_settle hrun hrole hw hstage hcond
    · rw [k, State.preempt_behind hstage hcond hbuild hout]
      exact State.withdrawBuild_settle hrun hrole hw hstage hcond

/-! ### Withdrawal through what the selector hears (R128) -/

/-- The frame names OWED entries alone. -/
def State.namesOwed (s : State) (f : FrameRec) : Prop := ∀ r ∈ f.refs, s.owes r = true

theorem State.owes_iff {r : BinId × Seq} :
    s.owes r = true ↔ ∃ e ∈ s.table, e.report.binId = r.1 ∧ e.report.seq = r.2 ∧ e.owing = .owed := by
  simp [State.owes, and_assoc]

/-- What may be built names OWED entries alone. -/
theorem State.builds_namesOwed (s : State) : s.builds s.namesOwed := by
  intro w f _ _ htable ⟨_, hmade⟩ r hr
  cases hrole : w.role with
  | bin =>
    rw [hrole] at hmade
    obtain ⟨c, rest, probe, hpayload, hfrom⟩ := hmade
    rw [FrameRec.refs, hpayload] at hr
    obtain ⟨d, hd, rfl⟩ := List.mem_map.1 hr
    obtain ⟨e, he, howed, rfl⟩ := hfrom d hd
    obtain ⟨p, hp⟩ := exists_mem_of_samePlacesAside htable he
    exact State.owes_iff.2 ⟨_, hp, rfl, rfl, howed⟩
  | gateway =>
    rw [hrole] at hmade
    rcases hmade with ⟨items, hpayload, -⟩ | ⟨p, target, -, hpayload⟩ <;> simp [FrameRec.refs, hpayload] at hr

theorem State.hear_settles (told : Told) :
    (s.withdraw told.stage told.build).reselects (s.hear told) :=
  (State.preempt_reselects _ _).trans (State.selectorSettle_reselects _)

/-- A placed entry that the selector is told of is named by no uncommitted frame afterwards, unless it is OWED still. -/
theorem State.hear_withdrawsFrameOf (hstage : e.placed = .stage → told.stage = true)
    (hbuild : e.placed = .build → told.build = true) (howes : s.owes (e.report.binId, e.report.seq) = false) :
    s.withdrawsFrameOf (s.hear told) e := by
  have hnot : ∀ f, s.namesOwed f → (e.report.binId, e.report.seq) ∉ f.refs := fun f hf hr => by
    rw [hf _ hr] at howes
    cases howes
  have hsettles := State.hear_settles (s := s) told
  have hbuilds : (s.withdraw told.stage told.build).builds s.namesOwed :=
    s.builds_namesOwed.aside (by simp) (by simp) (State.withdraw_sameAside s _ _)
  refine ⟨fun hplaced hcond f hf => ?_, fun hplaced f hf => ?_⟩
  · obtain ⟨g, hg⟩ := Selector.stageCond_eq_staged.1 hcond
    rcases s.withdraw_cases told.stage told.build with ⟨k, -⟩ | ⟨-, -, -, k⟩ | ⟨-, k, -⟩
    · exact hnot f (hsettles.frames_builds (P := s.namesOwed) (by rw [k]; nofun) hbuilds f hf)
    · exact absurd ⟨hstage hplaced, by simp [Selector.staged, hg]⟩ k
    · exact absurd ⟨hstage hplaced, by simp [Selector.staged, hg]⟩ k
  · have hempty : (s.withdraw told.stage told.build).sel.build = none := by
      rcases s.withdraw_cases told.stage told.build with ⟨k, -⟩ | ⟨k, -⟩ | ⟨k, -, hno⟩
      · rw [k]
        rfl
      · rw [k]
        rfl
      · rw [k]
        by_contra hne
        exact hno ⟨hbuild hplaced, Option.isSome_iff_ne_none.2 hne⟩
    rw [Option.mem_toList] at hf
    rcases hsettles.build with k | k | ⟨g, k, hmade⟩ <;> rw [k] at hf
    · rw [hempty] at hf
      cases hf
    · cases hf
    · cases hf
      exact hnot f (hbuilds _ f rfl rfl rfl hmade)

/-! ### The engine behind the selector -/

theorem State.engineSettle_build : s.engineSettle.sel.build = s.sel.build := by
  rcases s.engineSettle_cases with h | ⟨-, -, -, -, h⟩ | ⟨-, -, -, -, -, -, h⟩ <;> rw [h]
  rcases s.commit_sel with ⟨k, -⟩ | ⟨f, hf, k⟩ <;> simp [State.enterWaking, k]

/-- The frame in STAGE stands, COMMITTED or in the condition it had. -/
theorem State.engineSettle_stage :
    s.engineSettle.sel.stage = s.sel.stage ∨ ∃ f, s.sel.stage = some { frame := f, cond := .staged } ∧
      s.engineSettle.sel.stage = some { frame := f, cond := .committed } := by
  rcases s.engineSettle_cases with h | ⟨-, -, -, -, h⟩ | ⟨-, -, -, -, -, -, h⟩ <;> rw [h]
  · exact .inl rfl
  · rcases s.commit_sel with ⟨k, -⟩ | ⟨f, hf, k⟩
    · exact .inl (by simp [State.enterWaking, k])
    · exact .inr ⟨f, hf, by simp [State.enterWaking, k]⟩
  · exact .inl rfl

theorem State.engineSettle_allowance : s.engineSettle.sel.allowance = s.sel.allowance := by
  rcases s.engineSettle_cases with h | ⟨-, -, -, -, h⟩ | ⟨-, -, -, -, -, -, h⟩ <;> rw [h]
  rcases s.commit_sel with ⟨k, -⟩ | ⟨f, hf, k⟩ <;> simp [State.enterWaking, k]

theorem State.engineSettle_eligible (f : FrameRec) : s.engineSettle.eligible f = s.eligible f :=
  State.eligible_congr (by simp) State.engineSettle_allowance f

theorem State.engineSettle_mayFill (e : Entry) : s.engineSettle.mayFill e ↔ s.mayFill e := by
  rw [State.mayFill, State.mayFill, State.engineSettle_allowance]
  simp

theorem State.stageRebuilt.engineSettle (h : s.stageRebuilt) : s.engineSettle.stageRebuilt := by
  obtain ⟨hled, helig⟩ := h
  refine ⟨fun e he hmay => ?_, fun x hx => ?_⟩
  · rw [State.engineSettle_mayFill] at hmay
    obtain ⟨x, hx, hwithin⟩ := hled e (by simpa using he) hmay
    rcases State.engineSettle_stage (s := s) with k | ⟨f, hf, k⟩
    · exact ⟨x, k.trans hx, hwithin⟩
    · rw [hf] at hx
      cases hx
      exact ⟨_, k, hwithin⟩
  · rw [State.engineSettle_eligible]
    rcases State.engineSettle_stage (s := s) with k | ⟨f, hf, k⟩
    · exact helig x (k.symm.trans hx)
    · rw [k] at hx
      cases hx
      exact helig { frame := f, cond := .staged } hf

theorem State.buildRebuilt.engineSettle (h : s.buildRebuilt) : s.engineSettle.buildRebuilt := by
  obtain ⟨hled, helig⟩ := h
  rw [State.buildRebuilt, State.engineSettle_build, State.engineSettle_table]
  exact ⟨fun e he hplaced hmay => hled e he hplaced ((State.engineSettle_mayFill _).1 hmay),
    fun f hf => (State.engineSettle_eligible f).trans (helig f hf)⟩

theorem State.preemptedBy.engineSettle {cls : Urgency} (h : s.preemptedBy t cls) : s.preemptedBy t.engineSettle cls :=
  fun f lead rest probe hpayload hlt =>
    have ⟨hstage, hbuild⟩ := h f lead rest probe hpayload hlt
    ⟨fun k => (hstage k).engineSettle, fun k k' => (hbuild k k').engineSettle⟩

theorem State.preemptedBy.congr {cls : Urgency} (h : u.preemptedBy t cls) (hstage : u.sel.stage = s.sel.stage)
    (hbuild : u.sel.build = s.sel.build) : s.preemptedBy t cls := by
  rw [State.preemptedBy, hstage, hbuild] at h
  exact h

theorem State.withdrawsFrameOf.engineSettle (h : s.withdrawsFrameOf t e) : s.withdrawsFrameOf t.engineSettle e := by
  rw [State.withdrawsFrameOf, State.engineSettle_frames, State.engineSettle_build]
  exact h

theorem State.withdrawsFrameOf.congr (h : u.withdrawsFrameOf t e) (hstage : u.sel.stage = s.sel.stage) :
    s.withdrawsFrameOf t e := by
  rw [State.withdrawsFrameOf, Selector.stageCond, hstage] at h
  exact h

end

end Sys2Proof.Machine
end

section
/-! PROOFS. The minute boundary and the allowance refill (O18). -/

namespace Sys2Proof.Machine

section
variable {s t : State} {e : Entry}

/-! ### Expiry (R90, R91) -/

theorem ageAt_eq_currentAge (rxAge rxTime now : Nat) : ageAt rxAge rxTime now = currentAge rxAge rxTime now := rfl

theorem State.expires_iff : s.expires e = true ↔ e.origin ≠ .own ∧ s.cfg.ageLimit ≤ currentAge e.rxAge e.rxTime s.clock := by
  rw [State.expires, Bool.and_eq_true, bne_iff_ne, decide_eq_true_iff, Entry.ageAt, ageAt_eq_currentAge]

theorem State.stands_eq (s : State) (e : Entry) :
    (!s.expires e) = decide (e.origin = .own ∨ currentAge e.rxAge e.rxTime s.clock < s.cfg.ageLimit) := by
  rw [Bool.eq_iff_iff, Bool.not_eq_true', ← Bool.not_eq_true, State.expires_iff, decide_eq_true_iff, not_and_or, not_not,
    Nat.not_le]

theorem Told.within_foldl_changed (l : List Entry) (told : Told) :
    told.within (l.foldl (fun told e => told.changed e) told) := by
  induction l generalizing told with
  | nil => exact told.within_refl
  | cons x l ih => exact (told.within_changed x).trans (ih _)

/-- What is told of an entry among those swept. -/
theorem Told.changed_placed (told : Told) (e : Entry) :
    (e.placed = .stage → (told.changed e).stage = true) ∧ (e.placed = .build → (told.changed e).build = true) := by
  unfold Told.changed
  cases e.placed <;> exact ⟨by simp, by simp⟩

theorem Told.foldl_changed_placed {l : List Entry} (he : e ∈ l) (told : Told) :
    (e.placed = .stage → (l.foldl (fun told e => told.changed e) told).stage = true) ∧
      (e.placed = .build → (l.foldl (fun told e => told.changed e) told).build = true) := by
  induction l generalizing told with
  | nil => cases he
  | cons x l ih =>
    rcases List.mem_cons.1 he with rfl | he
    · obtain ⟨hstage, hbuild⟩ := Told.within_foldl_changed l (told.changed e)
      obtain ⟨hs, hb⟩ := told.changed_placed e
      exact ⟨fun k => hstage (hs k), fun k => hbuild (hb k)⟩
    · exact ih he _

/-! ### What the selector and the engine move -/

theorem State.engineSettle_rest : s.engineSettle = { s with eng := s.engineSettle.eng, sel := s.engineSettle.sel } := by
  rcases s.engineSettle_cases with h | ⟨-, -, -, -, h⟩ | ⟨-, -, -, -, -, -, h⟩ <;> rw [h]
  rcases s.commit_sel with ⟨k, -⟩ | ⟨f, hf, k⟩ <;> rw [State.enterWaking, k]

/-- The engine's own way on moves nothing of the selector but the condition of the frame in STAGE. -/
theorem State.engineSettle_sel : s.engineSettle.sel = { s.sel with stage := s.engineSettle.sel.stage } := by
  rcases s.engineSettle_cases with h | ⟨-, -, -, -, h⟩ | ⟨-, -, -, -, -, -, h⟩ <;> rw [h]
  rcases s.commit_sel with ⟨k, -⟩ | ⟨f, hf, k⟩ <;> rw [State.enterWaking, k]

/-- A selection and what the engine then does of itself. -/
theorem State.reselects.sel (h : s.reselects t) :
    t.sel = { s.sel with build := t.sel.build, stage := t.sel.stage } := congrArg State.sel h.rest

theorem State.reselects.engineSettle_rest (h : s.reselects t) :
    t.engineSettle = { s with
      sel := { s.sel with build := t.engineSettle.sel.build, stage := t.engineSettle.sel.stage },
      table := t.engineSettle.table, eng := t.engineSettle.eng } := by
  have hsel : t.engineSettle.sel =
      { s.sel with build := t.engineSettle.sel.build, stage := t.engineSettle.sel.stage } := by
    conv_lhs => rw [State.engineSettle_sel, h.sel]
    rw [State.engineSettle_build]
  rw [← hsel, State.engineSettle_table]
  conv_lhs => rw [State.engineSettle_rest]
  congr 1 <;> rw [h.rest]

theorem State.reselects.engineSettle_onlySelects (h : s.reselects t) : s.onlySelects t.engineSettle := by
  refine ⟨?_, by simpa using h.table⟩
  conv_lhs => rw [h.engineSettle_rest]
  conv_rhs => rw [h.engineSettle_rest]

/-! ### The boundary's counts -/

theorem State.counted_eq (s : State) : s.countBoundary.countProbe =
    { s with
      sel := { s.sel with
        refillCount := if s.role = .bin then min s.cfg.refillInterval (s.sel.refillCount + 1) else s.sel.refillCount },
      mon := { s.mon with
        probeTimer := if s.mon.standing = .mute then s.mon.probeTimer - 1 else s.mon.probeTimer } } := by
  have hcount : s.countBoundary = { s with sel := { s.sel with
      refillCount := if s.role = .bin then min s.cfg.refillInterval (s.sel.refillCount + 1) else s.sel.refillCount } } := by
    unfold State.countBoundary
    split <;> rfl
  rw [hcount]
  unfold State.countProbe
  dsimp only
  split <;> rfl

theorem State.sweep_queue : s.sweep.1.gw.queue = s.gw.queue.filter (fun b => s.table.all (fun e =>
    decide (e.report.binId = b → e.origin = .own ∨ currentAge e.rxAge e.rxTime s.clock < s.cfg.ageLimit))) := by
  refine List.filter_congr fun b _ => ?_
  rw [Bool.eq_iff_iff, Bool.not_eq_true', List.any_eq_false, List.all_eq_true]
  refine ⟨fun h e he => decide_eq_true fun hb => ?_, fun h e he hb => ?_⟩
  · have hstands : (!s.expires e) = true := by
      by_contra k
      exact h e (List.mem_filter.2 ⟨he, by simpa using k⟩) (by simpa using hb)
    rw [State.stands_eq] at hstands
    exact of_decide_eq_true hstands
  · obtain ⟨he, hexpires⟩ := List.mem_filter.1 he
    obtain ⟨hown, hage⟩ := State.expires_iff.1 hexpires
    rcases of_decide_eq_true (h e he) (by simpa using hb) with k | k
    · exact hown k
    · omega

/-- What a due minute boundary makes of a running station (R91, R131, R148). -/
def State.swept (s : State) : State := (s.sweep.1.hear s.sweep.2).countBoundary.countProbe.engineSettle

theorem State.swept_eq (s : State) : s.swept = { s with
    table := s.swept.table, sel := s.swept.sel, eng := s.swept.eng, gw := { s.gw with queue := s.sweep.1.gw.queue },
    mon := { s.mon with
      probeTimer := if s.mon.standing = .mute then s.mon.probeTimer - 1 else s.mon.probeTimer } } := by
  obtain ⟨u, hcounted⟩ : ∃ u, u = (s.sweep.1.hear s.sweep.2).countBoundary.countProbe := ⟨_, rfl⟩
  have hu : u = { s with
      table := u.table, sel := u.sel, gw := { s.gw with queue := s.sweep.1.gw.queue },
      mon := { s.mon with probeTimer := if s.mon.standing = .mute then s.mon.probeTimer - 1 else s.mon.probeTimer } } := by
    rw [hcounted, State.counted_eq, (State.hear_reselects s.sweep.1 s.sweep.2).rest]
    rfl
  have hrest : s.swept = { u with eng := s.swept.eng, sel := s.swept.sel } := by
    rw [State.swept, ← hcounted]
    exact u.engineSettle_rest
  have htable : s.swept.table = u.table := by rw [hrest]
  rw [htable]
  conv_lhs => rw [hrest, hu]

theorem State.swept_table : samePlacesAside s.swept.table (s.table.filter (fun e =>
    decide (e.origin = .own ∨ currentAge e.rxAge e.rxTime s.clock < s.cfg.ageLimit))) := by
  have hfilter : s.sweep.1.table = s.table.filter (fun e =>
      decide (e.origin = .own ∨ currentAge e.rxAge e.rxTime s.clock < s.cfg.ageLimit)) :=
    List.filter_congr fun e _ => s.stands_eq e
  rw [State.swept, State.engineSettle_table, State.counted_eq, ← hfilter]
  exact (State.hear_reselects s.sweep.1 s.sweep.2).table

theorem State.swept_counts : s.swept.sel.allowance = s.sel.allowance ∧
    s.swept.sel.refillCount =
      (if s.role = .bin then min s.cfg.refillInterval (s.sel.refillCount + 1) else s.sel.refillCount) := by
  have hheard := State.hear_reselects s.sweep.1 s.sweep.2
  rw [State.swept, State.engineSettle_sel, State.counted_eq]
  exact ⟨hheard.allowance, by rw [hheard.role, hheard.cfg, hheard.sel]; rfl⟩

/-- An entry that expires takes its uncommitted frame with it (R91, R128). -/
theorem State.swept_withdrawsFrameOf {e : Entry} (hwf : tableWf s.table) (he : e ∈ s.table) (hown : e.origin ≠ .own)
    (hage : s.cfg.ageLimit ≤ currentAge e.rxAge e.rxTime s.clock) : s.withdrawsFrameOf s.swept e := by
  have hexpires : s.expires e = true := State.expires_iff.2 ⟨hown, hage⟩
  obtain ⟨hstage, hbuild⟩ := Told.foldl_changed_placed (List.mem_filter.2 ⟨he, hexpires⟩) .nothing
  have hfreed : s.sweep.1.owes (e.report.binId, e.report.seq) = false := by
    rw [← Bool.not_eq_true, State.owes_iff]
    rintro ⟨x, hx, hbin, -⟩
    obtain ⟨hx, hstands⟩ := List.mem_filter.1 (show x ∈ s.table.filter _ from hx)
    rw [entry_unique hwf hx he (.inl hbin), hexpires] at hstands
    cases hstands
  have hheardOf := State.hear_withdrawsFrameOf (s := s.sweep.1) hstage hbuild hfreed
  refine State.withdrawsFrameOf.engineSettle ?_
  rw [State.withdrawsFrameOf, State.counted_eq]
  exact hheardOf

end

end Sys2Proof.Machine
end

section
open Sys2Proof Sys2Proof.Machine

/-- Settles O18: the sweep and its withdrawal through what the selector hears, and the two counts. -/
theorem minuteBoundaryAndRefill : Obligations.MinuteBoundaryAndRefill := by
  refine ⟨fun s hdue => ⟨fun hrun => ?_, fun hrun => ?_⟩, fun s hrun hrole => ⟨fun hlt => ?_, fun hle => ?_⟩⟩
  · simp [exec, execMinuteBoundary, hdue, hrun]
  · have hexec : exec .minuteBoundary s = .next (State.swept { s with boundaryDue := false }) := by
      simp only [exec, execMinuteBoundary, hdue, if_true, hrun, State.swept]
    have hrest := State.swept_eq { s with boundaryDue := false }
    have hgw := congrArg State.gw hrest
    have hmon := congrArg State.mon hrest
    refine ⟨_, hexec, ?_, State.swept_table (s := { s with boundaryDue := false }), ?_,
      fun hwf e he hown hage => State.swept_withdrawsFrameOf (s := { s with boundaryDue := false }) hwf he hown hage,
      State.swept_counts.1, State.swept_counts.2, congrArg Monitor.probeTimer hmon⟩
    · rw [hgw, hmon]
      exact hrest
    · rw [hgw]
      exact State.sweep_queue (s := { s with boundaryDue := false })
  · exact if_neg fun ⟨_, k⟩ => absurd k (Nat.not_le.2 hlt)
  · have hexec : exec .allowanceRefill s = .next s.refill.engineSettle :=
      if_pos ⟨State.isBin_iff.2 ⟨hrun, hrole⟩, hle⟩
    have hreselects := State.selectorSettle_reselects { s with sel := { s.sel with
      refillCount := 0, allowance := min s.cfg.capacity (s.sel.allowance + 1) } }
    have hrest := hreselects.engineSettle_rest
    exact ⟨_, hexec, hreselects.engineSettle_onlySelects, congrArg (fun t => t.sel.refillCount) hrest,
      congrArg (fun t => t.sel.allowance) hrest⟩

end

section
/-! PROOFS. What a merge step leaves once its part is applied (O45), and the reports heard again or of no newer sequence
(O39). -/

namespace Sys2Proof.Machine

/-- The state after a merge step, from the state and the telling that its part gives (R106). -/
def State.merged (told : Told) (m : Merging) (u : State) : State :=
  (State.hear told { u with pair := u.pair.advance m }).engineSettle

section
variable {s u : State} {m : Merging} {told : Told} {e : Entry} {r : RxEntry} {rxTime : Nat}

theorem exec_mergeStep_of_merging (hm : s.pair.merging = some m) :
    exec .mergeStep s = .next ((s.mergePart m).1.merged (s.mergePart m).2 m) := by
  change Host.Outcome.next s.mergeOnce = _
  rw [State.mergeOnce, hm]
  rfl

theorem State.merged_rest : u.merged told m =
    { u with pair := u.pair.advance m, table := (u.merged told m).table, sel := (u.merged told m).sel,
             eng := (u.merged told m).eng } :=
  (State.hear_reselects { u with pair := u.pair.advance m } told).engineSettle_onlySelects.1

theorem State.merged_table : samePlacesAside (u.merged told m).table u.table := by
  rw [State.merged, State.engineSettle_table]
  exact (State.hear_reselects { u with pair := u.pair.advance m } told).table

theorem State.merged_preemptedBy {cls : Urgency} (hrun : u.running = true) (hrole : u.role = .bin)
    (hw : tableWf u.table) (hcls : cls ∈ told.fresh) : u.preemptedBy (u.merged told m) cls :=
  (State.hear_preemptedBy (s := { u with pair := u.pair.advance m }) hrun hrole hw hcls).engineSettle

theorem State.merged_withdrawsFrameOf (hstage : e.placed = .stage → told.stage = true)
    (hbuild : e.placed = .build → told.build = true) (howes : u.owes (e.report.binId, e.report.seq) = false) :
    u.withdrawsFrameOf (u.merged told m) e :=
  (State.hear_withdrawsFrameOf (s := { u with pair := u.pair.advance m }) hstage hbuild howes).engineSettle

/-- A part that alters the table alone. -/
theorem State.merged_mergesInto (hu : u = { s with table := u.table }) : s.mergesInto (u.merged told m) := by
  have hpair : (u.merged told m).pair = u.pair.advance m := congrArg State.pair State.merged_rest
  rw [State.mergesInto, hpair]
  conv_lhs => rw [State.merged_rest]
  congr 1 <;> rw [hu]

/-! ### The parts of a frame -/

theorem State.mergePart_entry (h : s.hearsEntry m r) : s.mergePart m = s.mergeEntry r m.frame.rxTime .nothing := by
  obtain ⟨-, es, hparts, hr⟩ := h
  simp only [State.mergePart, hparts, hr]

theorem State.mergePart_item {i : RxItem} (h : s.hearsItem m i) : s.mergePart m = s.mergeItem i .nothing := by
  obtain ⟨-, is, hparts, hi⟩ := h
  simp only [State.mergePart, hparts, hi]

theorem State.mergePart_target {g : Target} (h : m.frame.parts = .solicit g) : s.mergePart m = s.mergeTarget g .nothing := by
  simp only [State.mergePart, h]

/-- One report entry's step. -/
theorem exec_merge_entry (h : s.hearsEntry m r) :
    exec .mergeStep s = .next ((s.mergeEntry r m.frame.rxTime .nothing).1.merged
      (s.mergeEntry r m.frame.rxTime .nothing).2 m) := by
  rw [exec_mergeStep_of_merging h.1, State.mergePart_entry h]

/-! ### Reports of a held bin that are not newer (R109, R110, R113, R114) -/

/-- The sequence a report is compared with: the own sequence for the own bin, and else the entry's (R109, R113). -/
def State.comparedWith (s : State) (own : Bool) (e : Entry) : Seq := if own = true then s.est.nextSeq - 1 else e.report.seq

/-- A well-formed report of a held bin is heard; `own` says whether the bin is the own bin of a bin station. -/
def State.hearsHeld (s : State) (r : RxEntry) (e : Entry) (own : Bool) : Prop :=
  s.holds r.report.binId e ∧ s.running = true ∧ r.malformed = false ∧
    (own = true ↔ s.role = .bin ∧ r.report.binId = s.cfg.stationId)

theorem State.hearsHeld.mergeEntry {own : Bool} (h : s.hearsHeld r e own) : s.mergeEntry r rxTime told =
    if own = true then s.mergeOwnBin r.report.seq told else s.mergeHeldBin r rxTime e told := by
  obtain ⟨hbin, -, hmalformed, hown⟩ := h
  have hentry := State.entryOf_of_holds hbin
  by_cases ho : own = true
  · simp only [State.mergeEntry, hmalformed, Bool.false_eq_true, if_false, if_pos (hown.1 ho), ho, if_true]
  · simp only [State.mergeEntry, hmalformed, Bool.false_eq_true, if_false, if_neg (mt hown.2 ho), hentry, ho]

theorem State.hearsHeld.ownEntry (h : s.hearsHeld r e true) : s.ownEntry = some e := by
  obtain ⟨hbin, hrun, -, hown⟩ := h
  obtain ⟨hrole, hid⟩ := hown.1 rfl
  rw [State.ownEntry, if_pos (State.isBin_iff.2 ⟨hrun, hrole⟩), ← hid, State.entryOf_of_holds hbin]

theorem State.hearsHeld.mergeEntry_equal {own : Bool} (h : s.hearsHeld r e own)
    (hserial : serial r.report.seq (s.comparedWith own e) = .equal) :
    s.mergeEntry r rxTime told =
      if e.owing = .owed then s.alter e (Entry.hearAgain s.cfg.suppressCount) told else (s, told) := by
  rw [h.mergeEntry]
  cases own with
  | true =>
    have hserial : serial r.report.seq s.est.ownSeq = .equal := hserial
    simp only [if_true, State.mergeOwnBin, hserial, h.ownEntry]
  | false =>
    have hserial : serial r.report.seq e.report.seq = .equal := hserial
    simp only [Bool.false_eq_true, if_false, State.mergeHeldBin, hserial]

theorem State.hearsHeld.mergeEntry_unordered {own : Bool} (h : s.hearsHeld r e own)
    (hserial : serial r.report.seq (s.comparedWith own e) = .unordered) : s.mergeEntry r rxTime told = (s, told) := by
  rw [h.mergeEntry]
  cases own with
  | true =>
    have hserial : serial r.report.seq s.est.ownSeq = .unordered := hserial
    simp only [if_true, State.mergeOwnBin, hserial]
  | false =>
    have hserial : serial r.report.seq e.report.seq = .unordered := hserial
    simp only [Bool.false_eq_true, if_false, State.mergeHeldBin, hserial]

/-- An older report repairs a HELD entry below its limits in the bin role (R110, R114). -/
theorem State.hearsHeld.mergeEntry_older {own : Bool} (h : s.hearsHeld r e own)
    (hserial : serial r.report.seq (s.comparedWith own e) = .older) :
    s.mergeEntry r rxTime told =
      if s.role = .bin ∧ e.owing = .held ∧ e.sent < s.cfg.sendLimit ∧ (own = true ∨ e.hops < s.cfg.hopLimit) then
        s.alter e (fun x => { x with owing := .owed }) told
      else (s, told) := by
  rw [h.mergeEntry]
  cases own with
  | true =>
    have hserial : serial r.report.seq s.est.ownSeq = .older := hserial
    obtain ⟨-, -, -, hown⟩ := id h
    simp only [if_true, State.mergeOwnBin, hserial, h.ownEntry, true_or, and_true, (hown.1 rfl).1, true_and]
  | false =>
    have hserial : serial r.report.seq e.report.seq = .older := hserial
    simp only [Bool.false_eq_true, if_false, State.mergeHeldBin, hserial, false_or]

/-- The own bin's report with no OWN entry and no newer sequence (R109, R110). -/
theorem State.mergeEntry_noOwn (hrole : s.role = .bin) (hid : r.report.binId = s.cfg.stationId)
    (hmalformed : r.malformed = false) (habsent : ∀ e ∈ s.table, e.report.binId ≠ s.cfg.stationId)
    (hserial : serial r.report.seq (s.est.nextSeq - 1) ≠ .newer) : s.mergeEntry r rxTime told = (s, told) := by
  have hnone : s.ownEntry = none := by
    rw [State.ownEntry, State.entryOf_eq_none.2 habsent, ite_self]
  have hmerge : s.mergeEntry r rxTime told = s.mergeOwnBin r.report.seq told := by
    simp only [State.mergeEntry, hmalformed, Bool.false_eq_true, if_false, if_pos (And.intro hrole hid)]
  rw [hmerge, State.mergeOwnBin, hnone]
  cases k : serial r.report.seq s.est.ownSeq with
  | newer => exact absurd k hserial
  | equal | unordered | older => rfl

/-! ### A change of one entry (R88) -/

theorem State.alter_changesOne {f : Entry → Entry} (he : e.report.binId = r.report.binId) :
    changesOne r.report.binId f s.table ((s.alter e f told).1.merged (s.alter e f told).2 m).table := by
  have htable : (s.alter e f told).1.table = s.table.map fun x => if x.report.binId = r.report.binId then f x else x := by
    simp only [State.alter, changeEntry, he]
  rw [changesOne, ← htable]
  exact State.merged_table

/-- An entry that leaves OWED takes its uncommitted frame with it (R88, R128). -/
theorem State.alter_withdrawsFrameOf {f : Entry → Entry} (hw : tableWf s.table) (he : e ∈ s.table)
    (howed : e.owing = .owed) (hleaves : (f e).owing ≠ .owed) :
    s.withdrawsFrameOf ((s.alter e f .nothing).1.merged (s.alter e f .nothing).2 m) e := by
  obtain ⟨hstage, hbuild⟩ := Told.nothing.changed_placed e
  have htold : (s.alter e f .nothing).2 = Told.nothing.changed e := if_pos ⟨howed, hleaves⟩
  have hfreed : (s.alter e f .nothing).1.owes (e.report.binId, e.report.seq) = false := by
    rw [← Bool.not_eq_true, State.owes_iff]
    rintro ⟨x, hx, hsame, -, hx'⟩
    obtain ⟨y, hy, rfl⟩ := List.mem_map.1 (show x ∈ changeEntry _ _ s.table from hx)
    split at hsame
    · next hid =>
      obtain rfl := entry_unique hw hy he (.inl hid)
      rw [if_pos rfl] at hx'
      exact hleaves hx'
    · next hid => exact hid hsame
  rw [htold]
  exact (State.merged_withdrawsFrameOf (u := (s.alter e f .nothing).1) hstage hbuild hfreed).congr rfl

/-- An entry that becomes OWED preempts (R88, R129). -/
theorem State.alter_preemptedBy {f : Entry → Entry} (hrun : s.running = true) (hrole : s.role = .bin)
    (hw : tableWf s.table) (hnot : e.owing ≠ .owed) (howed : (f e).owing = .owed)
    (hf : ∀ x, (f x).position = x.position ∧ (f x).report.binId = x.report.binId) :
    s.preemptedBy ((s.alter e f .nothing).1.merged (s.alter e f .nothing).2 m) e.report.cls := by
  have htold : (s.alter e f .nothing).2 = Told.nothing.owed e := by
    simp only [State.alter, hnot, false_and, if_false, ne_eq, not_false_eq_true, howed, and_self, if_true]
  rw [htold]
  refine (State.merged_preemptedBy (u := (s.alter e f .nothing).1) hrun hrole ?_ (List.mem_cons_self ..)).congr rfl rfl
  refine tableWf_map (fun x _ => ?_) hw
  split
  · exact hf x
  · exact ⟨rfl, rfl⟩

end

end Sys2Proof.Machine
end

section
open Sys2Proof Sys2Proof.Machine

/-- Settles O45: the cursor from what a step leaves, and the parts that give the state itself. -/
theorem mergeStepMovesTheCursor : Obligations.MergeStepMovesTheCursor := by
  refine fun s => ⟨fun hnone => ?_, fun m hm => ⟨_, exec_mergeStep_of_merging hm, fun hlt => ?_, fun hle => ?_, fun h => ?_⟩⟩
  · change Host.Outcome.next s.mergeOnce = _
    rw [State.mergeOnce, hnone]
  · have hpair : (s.mergePart m).1.pair = s.pair := s.mergePart_moves m .pair (by simp)
    rw [congrArg State.pair State.merged_rest, hpair]
    exact if_pos hlt
  · have hpair : (s.mergePart m).1.pair = s.pair := s.mergePart_moves m .pair (by simp)
    rw [congrArg State.pair State.merged_rest, hpair, ReceivePair.advance, if_neg (Nat.not_lt.2 hle)]
    cases s.pair.waiting <;> rfl
  · have hnothing : s.mergePart m = (s, .nothing) := by
      rcases h with ⟨r, hr, hmalformed⟩ | ⟨i, hi, hmalformed⟩ | ⟨hrole, g, hg⟩
      · rw [State.mergePart_entry hr, State.mergeEntry, if_pos hmalformed]
      · rw [State.mergePart_item hi, State.mergeItem, if_pos hmalformed]
      · rw [State.mergePart_target hg, State.mergeTarget, if_pos hrole]
    rw [hnothing]
    exact ⟨State.merged_mergesInto rfl, State.merged_table⟩

/-- Settles O39: by the serial relation to the sequence compared with. -/
theorem hearingAgainSuppressesOrRepairs : Obligations.HearingAgainSuppressesOrRepairs := by
  have hnothing : ∀ {s : State} {m : Merging}, s.mergesInto (s.merged .nothing m) ∧
      samePlacesAside (s.merged .nothing m).table s.table := ⟨State.merged_mergesInto rfl, State.merged_table⟩
  refine ⟨fun s m r hears hmalformed _ hrole hid habsent hdist => ?_,
    fun s m r e own h hears hmalformed hrun hbin hown hh => ?_⟩
  · have hserial : serial r.report.seq (s.est.nextSeq - 1) ≠ .newer := fun k => by
      rw [serial_eq_newer_iff] at k
      omega
    refine ⟨_, exec_merge_entry hears, ?_⟩
    rw [State.mergeEntry_noOwn hrole hid hmalformed habsent hserial]
    exact hnothing
  · obtain rfl : h = s.comparedWith own e := hh
    have hheld : s.hearsHeld r e own := ⟨hbin, hrun, hmalformed, hown⟩
    have hequal := hheld.mergeEntry_equal (rxTime := m.frame.rxTime) (told := .nothing)
    have hunordered := hheld.mergeEntry_unordered (rxTime := m.frame.rxTime) (told := .nothing)
    have holder := hheld.mergeEntry_older (rxTime := m.frame.rxTime) (told := .nothing)
    rw [serial_eq_equal_iff] at hequal
    rw [serial_eq_unordered_iff] at hunordered
    rw [serial_eq_older_iff] at holder
    have hbound : (r.report.seq - s.comparedWith own e).toNat < 65536 := BitVec.isLt _
    obtain ⟨hw, he, hid⟩ := id hbin
    refine ⟨_, exec_merge_entry hears, fun hdist => ?_, fun hdist howed => ?_, fun hdist hrole howing hsent hhops => ?_,
      fun hdist => ?_⟩
    · refine State.merged_mergesInto ?_
      rcases (by omega : (r.report.seq - s.comparedWith own e).toNat = 0 ∨
        (r.report.seq - s.comparedWith own e).toNat = 32768 ∨
        32769 ≤ (r.report.seq - s.comparedWith own e).toNat ∧ (r.report.seq - s.comparedWith own e).toNat ≤ 65535)
        with k | k | k
      · rw [hequal k]
        split <;> rfl
      · rw [hunordered k]
      · rw [holder k]
        split <;> rfl
    · rw [hequal hdist, if_pos howed]
      refine ⟨State.alter_changesOne hid, fun hsuppress => State.alter_withdrawsFrameOf hw he howed ?_⟩
      simp [Entry.hearAgain, bump, Config.smallCountMax, hsuppress]
    · rw [holder (by omega), if_pos ⟨hrole, howing, hsent, hhops⟩]
      exact ⟨State.alter_changesOne hid,
        State.alter_preemptedBy hrun hrole hw (by rw [howing]; nofun) rfl fun _ => ⟨rfl, rfl⟩⟩
    · have hstands : s.mergeEntry r m.frame.rxTime .nothing = (s, .nothing) := by
        rcases hdist with ⟨k, hnot⟩ | k | ⟨k, hnot⟩
        · rw [hequal k, if_neg hnot]
        · rw [hunordered k]
        · rw [holder (by omega), if_neg]
          rintro ⟨hrole, howing, hsent, hhops⟩
          rcases hnot with h | h | h | ⟨h, h'⟩
          · rw [hrole] at h
            cases h
          · exact h howing
          · omega
          · rcases hhops with k | k
            · rw [h] at k
              cases k
            · omega
      rw [hstands]
      exact State.merged_table

end

section
/-! PROOFS. Where an insert puts its entry (R92 to R95). -/

namespace Sys2Proof.Machine

/-! ### The table with an entry placed -/

/-- The entries of a table with a newcomer among them, in order of position. -/
def addedTo (new : Entry) (t : List Entry) : List Entry :=
  t.filter (fun e => decide (e.position < new.position)) ++ new :: t.filter (fun e => decide (new.position < e.position))

/-- An entry takes its place among those of lower and of higher position. -/
theorem placeEntry_eq {new : Entry} : ∀ {t : List Entry}, t.Pairwise (fun a b => a.position < b.position) →
    (∀ e ∈ t, e.position ≠ new.position) →
    placeEntry new t = addedTo new t
  | [], _, _ => rfl
  | x :: xs, hsorted, hfree => by
    obtain ⟨hx, hxs⟩ := List.pairwise_cons.1 hsorted
    have hne := hfree x (by simp)
    unfold placeEntry
    split
    · next hlt =>
      have hall : ∀ e ∈ x :: xs, new.position < e.position := fun e he => by
        rcases List.mem_cons.1 he with rfl | he
        · exact hlt
        · exact hlt.trans (hx e he)
      rw [addedTo, List.filter_eq_nil_iff.2 fun e he => by simpa using le_of_lt (hall e he),
        List.filter_eq_self.2 fun e he => by simpa using hall e he, List.nil_append]
    · next hge =>
      have hlt : x.position < new.position := by omega
      rw [placeEntry_eq hxs fun e he => hfree e (List.mem_cons_of_mem _ he), addedTo, addedTo,
        List.filter_cons_of_pos (by simpa using hlt), List.filter_cons_of_neg (by simpa using le_of_lt hlt),
        List.cons_append]

/-- An entry placed where another was takes its place in the table. -/
theorem placeEntry_replaces {new v : Entry} : ∀ {t : List Entry}, t.Pairwise (fun a b => a.position < b.position) →
    v ∈ t → v.position = new.position →
    placeEntry new (t.filter fun e => e.position != new.position) =
      t.map fun e => if e.position = new.position then new else e
  | x :: xs, hsorted, hv, hp => by
    obtain ⟨hx, hxs⟩ := List.pairwise_cons.1 hsorted
    by_cases hsame : x.position = new.position
    · have hrest : ∀ e ∈ xs, e.position ≠ new.position := fun e he => by
        have := hx e he
        omega
      rw [List.filter_cons_of_neg (by simpa using hsame), List.filter_eq_self.2 fun e he => by simpa using hrest e he,
        List.map_cons, if_pos hsame, List.map_congr_left fun e he => if_neg (hrest e he), List.map_id']
      cases xs with
      | nil => rfl
      | cons y ys => exact if_pos (hsame ▸ hx y (by simp))
    · have hv : v ∈ xs := by
        rcases List.mem_cons.1 hv with rfl | hv
        · exact absurd hp hsame
        · exact hv
      have hlt : x.position < new.position := hp ▸ hx v hv
      rw [List.filter_cons_of_pos (by simpa using hsame), List.map_cons, if_neg hsame, placeEntry,
        if_neg (Nat.not_lt.2 (le_of_lt hlt)), placeEntry_replaces hxs hv hp]

/-! ### The victim (R93, R94) -/

theorem State.evictable_iff {s : State} {newcomer : Origin} {e : Entry} :
    s.evictable newcomer e = true ↔ s.mayEvict newcomer e := by
  simp only [State.evictable, State.mayEvict, Bool.and_eq_true, bne_iff_ne, beq_iff_eq, Bool.not_eq_true',
    Bool.and_eq_false_iff, not_and_or, List.contains_eq_mem, decide_eq_false_iff_not, and_assoc]
  cases s.cfg.homeGuard <;> cases s.isGateway <;> simp

theorem evictionRank_injective {a b : Owing} (h : a.evictionRank = b.evictionRank) : a = b := by
  cases a <;> cases b <;> first | rfl | cases h

theorem evictedBefore_iff {now : Nat} {a b : Entry} : evictedBefore now a b = true ↔ evictsFirst now a b := by
  have hcurrent : ∀ e : Entry, currentAge e.rxAge e.rxTime now = e.ageAt now := fun _ => rfl
  unfold evictedBefore evictsFirst
  rw [hcurrent, hcurrent]
  by_cases howing : a.owing = b.owing
  · rw [if_neg (not_not.2 howing), howing]
    by_cases hcls : a.report.cls = b.report.cls
    · rw [if_neg (not_not.2 hcls), hcls]
      by_cases hage : a.ageAt now = b.ageAt now
      · rw [if_neg (not_not.2 hage), hage]
        simp
      · rw [if_pos hage]
        simp [hage]
    · rw [if_pos hcls]
      simp [hcls]
  · rw [if_pos howing]
    simp [howing]

theorem evictsFirst_asymm {now : Nat} {a b : Entry} (h : evictsFirst now a b) : ¬ evictsFirst now b a := by
  simp only [evictsFirst, Fin.lt_def, Fin.ext_iff] at *
  rcases h with h | ⟨howing, h⟩
  · rintro (k | ⟨k, -⟩)
    · omega
    · rw [k] at h
      omega
  · rw [howing]
    rintro (k | ⟨-, k⟩)
    · omega
    · rcases h with h | ⟨hcls, h⟩ <;> rcases k with k | ⟨kcls, k⟩ <;> omega

/-- The one that comes before every other in an order without loops is the first. -/
theorem firstBy_of_first {α : Type} {before : α → α → Bool} {v : α} :
    ∀ {l : List α}, v ∈ l → (∀ w ∈ l, w ≠ v → before v w = true ∧ before w v = false) → firstBy before l = some v
  | x :: xs, hv, hfirst => by
    have hfirst' : ∀ w ∈ xs, w ≠ v → before v w = true ∧ before w v = false := fun w hw =>
      hfirst w (List.mem_cons_of_mem _ hw)
    unfold firstBy
    by_cases hmem : v ∈ xs
    · rw [firstBy_of_first hmem hfirst']
      by_cases hx : x = v
      · simp [hx]
      · simp [(hfirst x (by simp) hx).1]
    · obtain rfl : v = x := (List.mem_cons.1 hv).resolve_right hmem
      rcases firstBy_cases before xs with ⟨-, k⟩ | ⟨y, hy, k⟩ <;> rw [k]
      have hne : y ≠ v := fun h => hmem (h ▸ hy)
      simp [(hfirst' y hy hne).2]

section
variable {s : State} {new v : Entry} {p : Nat}

theorem lowestFree_of_full {t : List Entry} (h : ∀ p < 128, ∃ e ∈ t, e.position = p) : lowestFree t = none := by
  rcases hfree : lowestFree t with _ | p
  · rfl
  · obtain ⟨hp, hnone, -⟩ := lowestFree_eq_some.1 hfree
    obtain ⟨e, he, hsame⟩ := h p hp
    exact absurd hsame (hnone e he)

/-- With a FREE position the lowest is taken (R92). -/
theorem State.insert_free (hw : tableWf s.table) (hp : lowestFreeIs s.table p) :
    s.insert new = ({ s with table := addedTo { new with position := p } s.table }, true) := by
  have hnone := hp.2.1
  have hposition : s.insertPosition new.origin = some p := by
    rw [State.insertPosition, lowestFree_eq_some.2 hp]
  have hfilter : s.table.filter (fun x => x.position != p) = s.table :=
    List.filter_eq_self.2 fun e he => by simpa using hnone e he
  simp only [State.insert, hposition, hfilter]
  rw [placeEntry_eq (hw.1.imp fun k => k.1) hnone]

/-- With none FREE the newcomer takes the position of the entry first in eviction order (R93, R94). -/
theorem State.insert_evicts (hw : tableWf s.table) (hfull : ∀ p < 128, ∃ e ∈ s.table, e.position = p) (hv : v ∈ s.table)
    (hmay : s.mayEvict new.origin v)
    (hfirst : ∀ w ∈ s.table, s.mayEvict new.origin w → w ≠ v → evictsFirst s.clock v w) :
    s.insert new = ({ s with table := s.table.map fun e =>
      if e.position = v.position then { new with position := v.position } else e }, true) := by
  have hvictim : s.victim new.origin = some v := by
    refine firstBy_of_first (List.mem_filter.2 ⟨hv, State.evictable_iff.2 hmay⟩) fun w hw hne => ?_
    obtain ⟨hw, hevictable⟩ := List.mem_filter.1 hw
    have hbefore := hfirst w hw (State.evictable_iff.1 hevictable) hne
    exact ⟨evictedBefore_iff.2 hbefore, eq_false_of_ne_true fun k => evictsFirst_asymm hbefore (evictedBefore_iff.1 k)⟩
  have hposition : s.insertPosition new.origin = some v.position := by
    rw [State.insertPosition, lowestFree_of_full hfull, hvictim]
    rfl
  simp only [State.insert, hposition]
  rw [placeEntry_replaces (new := { new with position := v.position }) (hw.1.imp fun k => k.1) hv rfl]

/-- With none FREE and none that may be evicted the newcomer is refused (R95). -/
theorem State.insert_refused (hfull : ∀ p < 128, ∃ e ∈ s.table, e.position = p)
    (hnone : ∀ v ∈ s.table, ¬ s.mayEvict new.origin v) :
    s.insert new = (({ s with refusals := bump Config.count16Max s.refusals }).raise .refusal, false) := by
  have hvictim : s.victim new.origin = none := by
    have hempty : s.table.filter (s.evictable new.origin) = [] :=
      List.filter_eq_nil_iff.2 fun v hv k => hnone v hv (State.evictable_iff.1 k)
    rw [State.victim, hempty]
    rfl
  have hposition : s.insertPosition new.origin = none := by
    rw [State.insertPosition, lowestFree_of_full hfull, hvictim]
    rfl
  simp only [State.insert, hposition]

/-- With a FREE position or an entry that may be evicted, the newcomer is stored. -/
theorem State.insert_stores (h : (∃ p, lowestFreeIs s.table p) ∨ ∃ v ∈ s.table, s.mayEvict new.origin v) :
    ∃ p, s.insertPosition new.origin = some p := by
  rw [← Option.isSome_iff_exists, State.insertPosition]
  rcases hfree : lowestFree s.table with _ | p
  · rcases h with ⟨p, hp⟩ | ⟨v, hv, hmay⟩
    · rw [lowestFree_eq_some.2 hp] at hfree
      cases hfree
    · rcases firstBy_cases (evictedBefore s.clock) (s.table.filter (s.evictable new.origin)) with ⟨hempty, -⟩ | ⟨x, -, hx⟩
      · have := List.mem_filter.2 ⟨hv, State.evictable_iff.2 hmay⟩
        rw [hempty] at this
        cases this
      · simp only [State.victim, hx, Option.map_some, Option.isSome_some]
  · rfl

end

end Sys2Proof.Machine
end

section
/-! PROOFS. Drain items, newer reports of held bins, and reports of absent bins (O44, O40, O42). -/

namespace Sys2Proof.Machine

section
variable {s u : State} {m : Merging} {told : Told} {e : Entry} {r : RxEntry} {rxTime : Nat}

/-- What a part gives, and what the selector and the engine then move. -/
theorem State.merged_eq
    (hu : u = { s with table := u.table, est := u.est, refusals := u.refusals, gw := u.gw, port := u.port }) :
    u.merged told m = { s with
      pair := (u.merged told m).pair, table := (u.merged told m).table, sel := (u.merged told m).sel,
      eng := (u.merged told m).eng, est := u.est, refusals := u.refusals, gw := u.gw, port := u.port } := by
  have hpair : (u.merged told m).pair = u.pair.advance m := congrArg State.pair State.merged_rest
  rw [hpair]
  conv_lhs => rw [State.merged_rest]
  congr 1 <;> rw [hu]

theorem State.merged_gw : (u.merged told m).gw = u.gw := by rw [State.merged_rest]
theorem State.merged_port : (u.merged told m).port = u.port := by rw [State.merged_rest]
theorem State.merged_est : (u.merged told m).est = u.est := by rw [State.merged_rest]
theorem State.merged_refusals : (u.merged told m).refusals = u.refusals := by rw [State.merged_rest]

/-- A part that moves the table, the queue, the flags and the refusal count alone. -/
theorem State.merged_queued
    (hu : u = { s with table := u.table, refusals := u.refusals, gw := { s.gw with queue := u.gw.queue },
                       port := { s.port with flags := u.port.flags } }) :
    u.merged told m = { s with
      pair := (u.merged told m).pair, table := (u.merged told m).table, sel := (u.merged told m).sel,
      eng := (u.merged told m).eng, refusals := u.refusals, gw := { s.gw with queue := (u.merged told m).gw.queue },
      port := { s.port with flags := (u.merged told m).port.flags } } := by
  have hpair : (u.merged told m).pair = u.pair.advance m := congrArg State.pair State.merged_rest
  rw [hpair, State.merged_gw, State.merged_port]
  conv_lhs => rw [State.merged_rest]
  congr 1 <;> rw [hu]

/-! ### Drain items (R119) -/

theorem equalOrOlder_iff {a b : Seq} : equalOrOlder a b = true ↔ (b - a).toNat < 32768 := by
  have hcomm := toNat_seq_sub_comm a b
  have ha : (a - b).toNat < 65536 := (a - b).isLt
  have hb : (b - a).toNat < 65536 := (b - a).isLt
  rw [equalOrOlder, Bool.or_eq_true, beq_iff_eq, beq_iff_eq, serial_eq_equal_iff, serial_eq_older_iff]
  omega

/-- The state with the entry of a bin made DRAINED and its bin off the queue (R119). -/
def State.drained (s : State) (b : BinId) : State :=
  { s with
    table := changeEntry b (fun x => { x with owing := .drained }) s.table,
    gw := { s.gw with queue := s.gw.queue.filter (fun x => decide (x ≠ b)) } }

theorem State.mergeItem_drains {i : RxItem} (hmalformed : i.malformed = false) (hbin : s.holds i.binId e)
    (hnot : e.owing ≠ .drained) (hdist : (i.seq - e.report.seq).toNat < 32768) :
    s.mergeItem i told = (s.drained i.binId, told.changed e) := by
  simp only [State.mergeItem, hmalformed, Bool.false_eq_true, if_false, State.entryOf_of_holds hbin]
  rw [if_pos ⟨hnot, equalOrOlder_iff.2 hdist⟩, State.queueLeave]
  simp only [ne_eq, State.drained, decide_not]
  rfl

theorem State.mergeItem_nothing {i : RxItem}
    (h : ∀ e ∈ s.table, e.report.binId = i.binId → e.owing = .drained ∨ 32768 ≤ (i.seq - e.report.seq).toNat) :
    s.mergeItem i told = (s, told) := by
  unfold State.mergeItem
  split
  · rfl
  · split
    · rfl
    · next e hentry =>
      obtain ⟨he, hid⟩ := State.mem_of_entryOf hentry
      refine if_neg fun ⟨hnot, hdist⟩ => ?_
      rw [equalOrOlder_iff] at hdist
      rcases h e he hid with k | k
      · exact hnot k
      · omega

/-! ### The export queue and its notice (R155, R156) -/

theorem State.queueJoin_rest (b : BinId) : s.queueJoin b =
    { s with gw := { s.gw with queue := (s.queueJoin b).gw.queue },
             port := { s.port with flags := (s.queueJoin b).port.flags } } := by
  unfold State.queueJoin
  dsimp only
  split_ifs <;> rfl

theorem State.queueJoin_spec (hrun : s.running = true) (b : BinId) :
    (s.queueJoin b).gw.queue = (if s.role = .gateway ∧ b ∉ s.gw.queue then s.gw.queue ++ [b] else s.gw.queue) ∧
      (s.queueJoin b).port.flags =
        (if s.role = .gateway ∧ s.gw.queue = [] then s.port.flags ||| 0x01 else s.port.flags) := by
  have hgateway : s.isGateway = true ↔ s.role = .gateway := by simp [State.isGateway_iff, hrun]
  by_cases hrole : s.role = .gateway
  · have hg := hgateway.2 hrole
    by_cases hmem : b ∈ s.gw.queue
    · have hne : s.gw.queue ≠ [] := List.ne_nil_of_mem hmem
      simp [State.queueJoin, hg, hmem, hne]
    · by_cases hempty : s.gw.queue = []
      · simp [State.queueJoin, hg, hrole, hempty]
        rfl
      · simp [State.queueJoin, hg, hrole, hmem, hempty]
  · have hg : s.isGateway = false := eq_false_of_ne_true fun k => hrole (hgateway.1 k)
    simp [State.queueJoin, hg, hrole]

/-! ### A newer report of a held bin (R112) -/

theorem State.storedAs_eq (r : RxEntry) (rxTime position : Nat) (origin : Origin) :
    s.received r rxTime position origin = s.storedAs r rxTime position origin := rfl

/-- The table with the entry superseded. -/
def State.supersededTable (s : State) (r : RxEntry) (rxTime : Nat) : List Entry :=
  s.table.map fun x => if x.report.binId = r.report.binId then s.storedAs r rxTime x.position x.origin else x

theorem State.mergeEntry_newer (hbin : s.holds r.report.binId e) (hmalformed : r.malformed = false)
    (hnot : s.role = .gateway ∨ r.report.binId ≠ s.cfg.stationId)
    (hserial : serial r.report.seq e.report.seq = .newer) :
    s.mergeEntry r rxTime told =
      (State.queueJoin r.report.binId { s with table := s.supersededTable r rxTime },
        if (s.storedAs r rxTime e.position e.origin).owing = .owed then
          (told.changed e).owed (s.storedAs r rxTime e.position e.origin)
        else told.changed e) := by
  have hother : ¬ (s.role = .bin ∧ r.report.binId = s.cfg.stationId) := fun ⟨hrole, hid⟩ => by
    rcases hnot with k | k
    · rw [hrole] at k
      cases k
    · exact k hid
  simp only [State.mergeEntry, hmalformed, Bool.false_eq_true, if_false, if_neg hother, State.entryOf_of_holds hbin,
    State.mergeHeldBin, hserial, State.supersede, hbin.2.2]
  rfl

end

end Sys2Proof.Machine
end

section
open Sys2Proof Sys2Proof.Machine

/-- Settles O44: the item's bin made DRAINED, or the state itself. -/
theorem drainItemDrains : Obligations.DrainItemDrains := by
  intro s m i hears hmalformed hw
  refine ⟨_, exec_mergeStep_of_merging hears.1, fun e hbin hnot hdist => ?_, fun h => ?_⟩
  · obtain ⟨-, he, hid⟩ := id hbin
    rw [State.mergePart_item hears, State.mergeItem_drains hmalformed hbin hnot hdist]
    obtain ⟨hstage, hbuild⟩ := Told.nothing.changed_placed e
    refine ⟨State.merged_eq rfl, State.merged_table, (State.merged_withdrawsFrameOf hstage hbuild ?_).congr rfl⟩
    rw [← Bool.not_eq_true, State.owes_iff]
    rintro ⟨x, hx, hsame, -, howed⟩
    obtain ⟨y, hy, rfl⟩ := List.mem_map.1 (show x ∈ changeEntry _ _ s.table from hx)
    split at hsame
    · next k =>
      rw [if_pos k] at howed
      cases howed
    · next k => exact k (hsame.trans hid)
  · rw [State.mergePart_item hears, State.mergeItem_nothing h]
    exact ⟨State.merged_mergesInto rfl, State.merged_table⟩

/-- Settles O40: the superseded table, what is told of it, and the queue's tail. -/
theorem newerReportSupersedes : Obligations.NewerReportSupersedes := by
  intro s m r e hears hmalformed hrun hbin hnot hlo hhi
  obtain ⟨hw, he, hid⟩ := id hbin
  have hserial : serial r.report.seq e.report.seq = .newer := (serial_eq_newer_iff _ _).2 ⟨hlo, hhi⟩
  have hmerge := State.mergeEntry_newer (rxTime := m.frame.rxTime) (told := .nothing) hbin hmalformed hnot hserial
  set v : State := { s with table := s.supersededTable r m.frame.rxTime } with hv
  have hjoin := v.queueJoin_rest r.report.binId
  obtain ⟨hqueue, hflags⟩ := v.queueJoin_spec hrun r.report.binId
  have htable : (v.queueJoin r.report.binId).table = s.supersededTable r m.frame.rxTime := by rw [hjoin]
  have hsel : (v.queueJoin r.report.binId).sel = s.sel := by rw [hjoin]
  refine ⟨_, exec_merge_entry hears, ?_⟩
  rw [hmerge]
  refine ⟨?_, ?_, ?_, fun howed => ?_, ?_, ?_⟩
  · refine (State.merged_queued (s := s) ?_).trans ?_
    · rw [hjoin]
    · rw [hjoin]
  · exact samePlacesAside_trans State.merged_table (by rw [htable]; rfl)
  · have hwithin : (Told.nothing.changed e).within (if (s.storedAs r m.frame.rxTime e.position e.origin).owing = .owed then
        (Told.nothing.changed e).owed (s.storedAs r m.frame.rxTime e.position e.origin) else Told.nothing.changed e) := by
      split
      · exact Told.within_owed _ _
      · exact Told.within_refl _
    obtain ⟨hstage, hbuild⟩ := Told.nothing.changed_placed e
    refine (State.merged_withdrawsFrameOf (fun k => hwithin.1 (hstage k)) (fun k => hwithin.2 (hbuild k)) ?_).congr
      (by rw [hsel])
    rw [← Bool.not_eq_true, State.owes_iff, htable]
    rintro ⟨x, hx, hsame, hseq, -⟩
    obtain ⟨y, hy, rfl⟩ := List.mem_map.1 hx
    split at hsame
    · next k =>
      rw [if_pos k] at hseq
      have hseq : r.report.seq = e.report.seq := hseq
      simp [hseq] at hlo
    · next k => exact k (hsame.trans hid)
  · rw [if_pos howed]
    have hrole : s.role = .bin := by
      cases k : s.role with
      | bin => rfl
      | gateway => simp [State.storedAs, k] at howed
    refine (State.merged_preemptedBy ?_ ?_ ?_ (List.mem_cons_self ..)).congr (by rw [hsel]) (by rw [hsel])
    · rw [hjoin]
      exact hrun
    · exact (State.role_congr (by rw [hjoin])).trans hrole
    · rw [htable]
      refine tableWf_map (fun x _ => ?_) hw
      split
      · next k => exact ⟨rfl, k.symm⟩
      · exact ⟨rfl, rfl⟩
  · rw [State.merged_gw]
    exact hqueue
  · rw [State.merged_port]
    exact hflags

end

section
/-! PROOFS. Reports of absent bins (O42). -/

namespace Sys2Proof.Machine

section
variable {s : State} {told : Told} {r : RxEntry} {rxTime : Nat} {origin : Origin}

/-- A well-formed report of an absent bin other than the own bin of a bin station is heard. -/
def State.hearsAbsent (s : State) (r : RxEntry) (origin : Origin) : Prop :=
  r.malformed = false ∧ (∀ e ∈ s.table, e.report.binId ≠ r.report.binId) ∧
    (s.role = .gateway ∨ r.report.binId ≠ s.cfg.stationId) ∧ s.cfg.originOf r.report.binId = origin

theorem HeldConfig.originOf_eq {c : HeldConfig} {b : BinId}
    (h : origin = .home ∧ c.matchesHome b ∨ origin = .passing ∧ ¬ c.matchesHome b) : c.originOf b = origin := by
  rcases c.originOf_cases b with ⟨k, hk⟩ | ⟨k, hk⟩ <;> rcases h with ⟨rfl, h⟩ | ⟨rfl, h⟩
  · exact k
  · exact absurd hk h
  · exact absurd h hk
  · exact k

theorem State.hearsAbsent.mergeEntry (h : s.hearsAbsent r origin) :
    s.mergeEntry r rxTime told = s.mergeAbsentBin r rxTime told := by
  obtain ⟨hmalformed, habsent, hnot, -⟩ := h
  have hother : ¬ (s.role = .bin ∧ r.report.binId = s.cfg.stationId) := fun ⟨hrole, hid⟩ => by
    rcases hnot with k | k
    · rw [hrole] at k
      cases k
    · exact k hid
  simp only [State.mergeEntry, hmalformed, Bool.false_eq_true, if_false, if_neg hother, State.entryOf_eq_none.2 habsent]

/-- Passing carry off, or the age limit reached: rejected (R115). -/
theorem State.hearsAbsent.rejected (h : s.hearsAbsent r origin)
    (hnot : (origin = .passing ∧ s.cfg.passingCarry = false) ∨ s.cfg.ageLimit ≤ currentAge r.age rxTime s.clock) :
    s.mergeEntry r rxTime told = (s, told) := by
  rw [h.mergeEntry]
  exact if_pos (h.2.2.2 ▸ hnot)

/-- Otherwise inserted, or refused (R116). -/
theorem State.hearsAbsent.accepted (h : s.hearsAbsent r origin) (hcarried : origin = .home ∨ s.cfg.passingCarry = true)
    (hage : currentAge r.age rxTime s.clock < s.cfg.ageLimit) :
    s.mergeEntry r rxTime told =
      if (s.insert (s.storedAs r rxTime 0 origin)).2 = true then
        ((s.insert (s.storedAs r rxTime 0 origin)).1.queueJoin r.report.binId,
          if (s.storedAs r rxTime 0 origin).owing = .owed then told.owed (s.storedAs r rxTime 0 origin) else told)
      else ((s.insert (s.storedAs r rxTime 0 origin)).1, told) := by
  obtain ⟨-, -, -, rfl⟩ := id h
  rw [h.mergeEntry]
  refine if_neg ?_
  rintro (⟨hpassing, hoff⟩ | hlimit)
  · rcases hcarried with k | k
    · rw [hpassing] at k
      cases k
    · rw [hoff] at k
      cases k
  · exact absurd hage (Nat.not_lt.2 hlimit)

theorem State.hearsAbsent.accepted_table (h : s.hearsAbsent r origin)
    (hcarried : origin = .home ∨ s.cfg.passingCarry = true) (hage : currentAge r.age rxTime s.clock < s.cfg.ageLimit) :
    (s.mergeEntry r rxTime told).1.table = (s.insert (s.storedAs r rxTime 0 origin)).1.table := by
  rw [h.accepted hcarried hage]
  split
  · simp
  · rfl

theorem State.hearsAbsent.rest (h : s.hearsAbsent r origin) :
    (s.mergeEntry r rxTime told).1 = { s with
      table := (s.mergeEntry r rxTime told).1.table, refusals := (s.mergeEntry r rxTime told).1.refusals,
      gw := { s.gw with queue := (s.mergeEntry r rxTime told).1.gw.queue },
      port := { s.port with flags := (s.mergeEntry r rxTime told).1.port.flags } } := by
  rw [h.mergeEntry]
  unfold State.mergeAbsentBin
  dsimp only
  split
  · rfl
  · rcases s.insert_cases (s.received r rxTime 0 (s.cfg.originOf r.report.binId)) with ⟨p, -, k⟩ | ⟨-, k⟩ <;> rw [k]
    · dsimp only
      rw [if_pos rfl, State.queueJoin_rest]
    · rfl

/-- What an insert that stores leaves: another well-formed table. -/
theorem State.insert_stored {new : Entry} (hw : tableWf s.table)
    (habsent : ∀ e ∈ s.table, e.report.binId ≠ new.report.binId)
    (h : (∃ p, lowestFreeIs s.table p) ∨ ∃ v ∈ s.table, s.mayEvict new.origin v) :
    ∃ table, s.insert new = ({ s with table := table }, true) ∧ tableWf table := by
  obtain ⟨p, hp⟩ := State.insert_stores h
  rcases s.insert_cases new with ⟨q, hq, hinsert⟩ | ⟨hnone, -⟩
  · refine ⟨_, hinsert, tableWf_placeEntry (State.insertPosition_lt hw hq) (fun x hx => ?_) (tableWf_filter _ hw)⟩
    obtain ⟨hx, hother⟩ := List.mem_filter.1 hx
    exact ⟨by simpa using hother, habsent x hx⟩
  · rw [hp] at hnone
    cases hnone

end

end Sys2Proof.Machine
end

section
open Sys2Proof Sys2Proof.Machine

/-- Settles O42: rejected, inserted as R92 to R94 place it, or refused. -/
theorem absentBinIsInserted : Obligations.AbsentBinIsInserted := by
  intro s m r origin hears hmalformed hrun hw habsent hnot horigin
  have h : s.hearsAbsent r origin := ⟨hmalformed, habsent, hnot, HeldConfig.originOf_eq horigin⟩
  have hrest := h.rest (rxTime := m.frame.rxTime) (told := .nothing)
  refine ⟨_, exec_merge_entry hears, ?_, fun hrejected => ?_, fun hcarried hage => ?_⟩
  · rw [State.merged_refusals]
    exact State.merged_queued hrest
  · rw [h.rejected hrejected]
    exact ⟨State.merged_mergesInto rfl, State.merged_table⟩
  · have htable := h.accepted_table (told := .nothing) hcarried hage
    have hmerged := State.merged_table (u := (s.mergeEntry r m.frame.rxTime .nothing).1)
      (told := (s.mergeEntry r m.frame.rxTime .nothing).2) (m := m)
    rw [htable] at hmerged
    refine ⟨fun p hp => ?_, fun hfull v hv hmay hfirst => ?_, fun hstores => ?_, fun hfull hnone => ?_⟩
    · rw [State.insert_free hw hp] at hmerged
      exact hmerged
    · rw [State.insert_evicts (new := s.storedAs r m.frame.rxTime 0 origin) hw hfull hv hmay hfirst] at hmerged
      exact hmerged
    · obtain ⟨table, hinsert, htableWf⟩ := State.insert_stored (new := s.storedAs r m.frame.rxTime 0 origin)
        hw habsent hstores
      have hmerge := h.accepted (told := .nothing) hcarried hage
      rw [hinsert] at hmerge
      simp only [if_true] at hmerge
      set v : State := { s with table := table } with hv
      have hjoin := v.queueJoin_rest r.report.binId
      obtain ⟨hqueue, hflags⟩ := v.queueJoin_spec hrun r.report.binId
      rw [hmerge]
      refine ⟨?_, fun howed => ?_, ?_, ?_⟩
      · rw [State.merged_refusals, hjoin]
      · have hrole : s.role = .bin := by
          cases k : s.role with
          | bin => rfl
          | gateway => simp [State.storedAs, k] at howed
        rw [if_pos howed]
        refine (State.merged_preemptedBy ?_ ?_ ?_ (List.mem_cons_self ..)).congr (by rw [hjoin]) (by rw [hjoin])
        · rw [hjoin]
          exact hrun
        · exact (State.role_congr (by rw [hjoin])).trans hrole
        · rw [hjoin]
          exact htableWf
      · rw [State.merged_gw]
        exact hqueue
      · rw [State.merged_port]
        exact hflags
    · have hrefused := State.insert_refused (new := s.storedAs r m.frame.rxTime 0 origin) hfull hnone
      have hmerge := h.accepted (told := .nothing) hcarried hage
      rw [hrefused, if_neg (by simp)] at hmerge
      rw [hrefused] at hmerged
      refine ⟨hmerged, ?_, ?_, ?_⟩
      · rw [State.merged_refusals, hmerge]
        rfl
      · rw [State.merged_gw, hmerge]
        rfl
      · rw [State.merged_port, hmerge]
        rfl

end

section
/-! PROOFS. An own report issued: where it is stored, what it withdraws and what it preempts (R73, R74). -/

namespace Sys2Proof.Machine

section
variable {s u w t : State} {told told' : Told} {f : Figures} {q next : Seq} {emptied : Bool}

theorem ownReport_eq (c : HeldConfig) (e : Estimator) (f : Figures) (t : Nat) (q : Seq) (emptied : Bool) :
    ownReport c t emptied q e f = c.reportOf e f t q emptied := by
  unfold ownReport HeldConfig.reportOf
  cases e.emptiedAt <;> rfl

theorem State.ownEntry_of_holds {own : Entry} (hrun : s.running = true) (hrole : s.role = .bin)
    (h : s.holds s.cfg.stationId own) : s.ownEntry = some own := by
  rw [State.ownEntry, if_pos (State.isBin_iff.2 ⟨hrun, hrole⟩), State.entryOf_of_holds h]

theorem State.ownEntry_of_absent (h : ∀ e ∈ s.table, e.report.binId ≠ s.cfg.stationId) : s.ownEntry = none := by
  rw [State.ownEntry, State.entryOf_eq_none.2 h, ite_self]

/-! ### What issuing gives -/

/-- The state with the report issued of the figures `f`, before it is stored. -/
def State.issued (f : Figures) (next : Seq) (s : State) : State :=
  ({ s with est := s.est.reported f s.clock next } : State).raise .ownIssued

/-- The report replaces the OWN entry in its position (R74). -/
theorem State.issueOwn_replaces {own : Entry} (hf : s.est.figures = some f) (hown : s.ownEntry = some own) :
    s.issueOwn s.clock emptied q next told =
      ({ s.issued f next with
          table := s.table.map fun e =>
            if e.report.binId = s.cfg.stationId then
              ownAt e.position (s.cfg.reportOf s.est f s.clock q emptied) s.clock
            else e },
        (told.changed own).owed (ownAt 0 (s.cfg.reportOf s.est f s.clock q emptied) s.clock)) := by
  obtain ⟨_, rfl, ⟨own', hown', k⟩ | ⟨hnone, -⟩⟩ := State.issueOwn_cases emptied q next told hf
  · rw [hown] at hown'
    cases hown'
    rw [k, ownReport_eq]
    rfl
  · rw [hown] at hnone
    cases hnone

/-- With no OWN entry the report is inserted (R74). -/
theorem State.issueOwn_inserts (hf : s.est.figures = some f) (hown : s.ownEntry = none) :
    s.issueOwn s.clock emptied q next told =
      (((s.issued f next).insert (ownAt 0 (s.cfg.reportOf s.est f s.clock q emptied) s.clock)).1,
        if ((s.issued f next).insert (ownAt 0 (s.cfg.reportOf s.est f s.clock q emptied) s.clock)).2 = true then
          told.owed (ownAt 0 (s.cfg.reportOf s.est f s.clock q emptied) s.clock)
        else told) := by
  obtain ⟨_, rfl, ⟨own', hown', -⟩ | ⟨-, k⟩⟩ := State.issueOwn_cases emptied q next told hf
  · rw [hown] at hown'
    cases hown'
  · rw [k, ownReport_eq]
    rfl

/-- What issuing moves: the table, the estimator, the refusal count and the flags, of which it raises OWN_ISSUED. -/
theorem State.issueOwn_rest (hf : s.est.figures = some f) :
    (s.issueOwn s.clock emptied q next told).1 = { s with
        table := (s.issueOwn s.clock emptied q next told).1.table, est := s.est.reported f s.clock next,
        refusals := (s.issueOwn s.clock emptied q next told).1.refusals,
        port := { s.port with flags := (s.issueOwn s.clock emptied q next told).1.port.flags } } ∧
      (s.issueOwn s.clock emptied q next told).1.port.flags.getLsbD 1 = true ∧
      ∀ i, s.port.flags.getLsbD i = true → (s.issueOwn s.clock emptied q next told).1.port.flags.getLsbD i = true := by
  have hissued : (s.issued f next).port.flags.getLsbD 1 = true ∧
      ∀ i, s.port.flags.getLsbD i = true → (s.issued f next).port.flags.getLsbD i = true := by
    simp only [State.issued, State.raise_flags, BitVec.getLsbD_or, Bool.or_eq_true]
    exact ⟨.inr rfl, fun i hi => .inl hi⟩
  rcases hown : s.ownEntry with _ | own
  · rw [State.issueOwn_inserts hf hown]
    rcases (s.issued f next).insert_cases (ownAt 0 (s.cfg.reportOf s.est f s.clock q emptied) s.clock) with
      ⟨p, -, k⟩ | ⟨-, k⟩ <;> rw [k]
    · exact ⟨rfl, hissued⟩
    · refine ⟨rfl, ?_, fun i hi => ?_⟩
      · rw [State.raise_flags, BitVec.getLsbD_or, hissued.1, Bool.true_or]
      · rw [State.raise_flags, BitVec.getLsbD_or, hissued.2 i hi, Bool.true_or]
  · rw [State.issueOwn_replaces hf hown]
    exact ⟨rfl, hissued⟩

end

end Sys2Proof.Machine
end

section
/-! PROOFS. An own report stored and told to the selector (R74). -/

namespace Sys2Proof.Machine

theorem addedTo_map {g : Entry → Entry} {new : Entry} {t : List Entry} (hg : ∀ e, (g e).position = e.position) :
    (addedTo new t).map g = addedTo (g new) (t.map g) := by
  simp only [addedTo, List.map_append, List.map_cons, List.filter_map, hg, Function.comp_def]

section
variable {s u w : State} {told : Told} {f : Figures} {q next : Seq} {emptied : Bool} {cls : Urgency} {raised : FlagSet}

/-- What is told leaves out nothing that was told. -/
def Told.extends (b a : Told) : Prop := a.within b ∧ ∀ cls ∈ a.fresh, cls ∈ b.fresh

theorem Told.extends_refl (a : Told) : a.extends a := ⟨a.within_refl, fun _ => id⟩

theorem State.hear_tookOwn (hrun : w.running = true) (hrole : w.role = .bin) (hw : tableWf w.table)
    (hsel : w.sel = s.sel) (hflags : w.port.flags = s.port.flags ||| raised) (hrefusals : w.refusals = s.refusals)
    (hcls : cls ∈ told.fresh) : s.tookOwn (w.hear told).engineSettle raised cls := by
  have hrest := (State.hear_reselects w told).engineSettle_onlySelects.1
  refine ⟨?_, ?_, ?_⟩
  · rw [hrest]
    exact hflags
  · rw [hrest]
    exact hrefusals
  · exact (State.hear_preemptedBy hrun hrole hw hcls).engineSettle.congr (by rw [hsel]) (by rw [hsel])

theorem State.hear_settled_table : samePlacesAside (w.hear told).engineSettle.table w.table :=
  (State.hear_reselects w told).engineSettle_onlySelects.2

/-- The own report that `u`, which is `s` with another estimator and other flags, issues is stored, the other entries are
then changed by `g`, and all is told. -/
theorem State.issueOwn_storesOwn {change g : Entry → Entry} {est : Estimator} {port : Port} {pair : ReceivePair}
    (hu : u = { s with est := est, port := port })
    (hraised : port.flags ||| 0x02 = s.port.flags ||| raised) (hrun : s.running = true) (hrole : s.role = .bin)
    (hf : est.figures = some f)
    (hg : ∀ e, (g e).position = e.position ∧ (g e).report.binId = e.report.binId ∧ (e.origin = .own → g e = e))
    (hchange : ∀ e ∈ s.table, e.report.binId ≠ s.cfg.stationId → change e = g e)
    (hw : w = { (u.issueOwn s.clock emptied q next .nothing).1 with
      pair := pair, table := (u.issueOwn s.clock emptied q next .nothing).1.table.map g })
    (htold : told.extends (u.issueOwn s.clock emptied q next .nothing).2) :
    s.storesOwn (w.hear told).engineSettle change raised (s.cfg.reportOf est f s.clock q emptied) := by
  subst hu
  set u : State := { s with est := est, port := port }
  set r := s.cfg.reportOf est f s.clock q emptied with hr
  have htook : ∀ {table : List Entry} {told' : Told},
      u.issueOwn s.clock emptied q next .nothing = ({ u.issued f next with table := table }, told') →
      tableWf table → r.cls ∈ told'.fresh →
      s.tookOwn (w.hear told).engineSettle raised r.cls ∧
        samePlacesAside (w.hear told).engineSettle.table (table.map g) := fun {table _} k hwf hcls => by
    rw [k] at hw htold
    subst hw
    have hmapped : tableWf (table.map g) := tableWf_map (fun e _ => ⟨(hg e).1, (hg e).2.1⟩) hwf
    exact ⟨State.hear_tookOwn hrun hrole hmapped rfl hraised rfl (htold.2 _ hcls), State.hear_settled_table⟩
  refine ⟨fun own hown => ?_, fun hwf habsent => ?_⟩
  · obtain ⟨hwf, hmem, hid⟩ := id hown
    have hissue := State.issueOwn_replaces (s := u) (q := q) (next := next) (emptied := emptied) (told := .nothing) hf
      (State.ownEntry_of_holds (own := own) hrun hrole hown)
    have hmapped : (s.table.map fun e => if e.report.binId = s.cfg.stationId then ownAt e.position r s.clock else e).map g =
        s.table.map fun e => if e.report.binId = s.cfg.stationId then ownAt e.position r s.clock else change e := by
      rw [List.map_map]
      refine List.map_congr_left fun e he => ?_
      simp only [Function.comp_apply]
      split
      · exact (hg _).2.2 rfl
      · next hne => exact (hchange e he hne).symm
    obtain ⟨htook, htables⟩ := htook hissue (tableWf_map (fun e _ => by
      split
      · next k => exact ⟨rfl, k.symm⟩
      · exact ⟨rfl, rfl⟩) hwf) (List.mem_cons_self ..)
    refine ⟨htook, fun hseq => ?_, hmapped ▸ htables⟩
    change u.issueOwn s.clock emptied q next .nothing = _ at hissue
    rw [hissue] at hw htold
    subst hw
    obtain ⟨hstage, hbuild⟩ := Told.nothing.changed_placed own
    refine ((State.hear_withdrawsFrameOf (fun k => htold.1.1 (hstage k)) (fun k => htold.1.2 (hbuild k))
      ?_).engineSettle).congr rfl
    rw [← Bool.not_eq_true, State.owes_iff]
    rintro ⟨x, hx, hsame, hseq', -⟩
    obtain ⟨y, hy, rfl⟩ := List.mem_map.1 (hmapped ▸ hx)
    split at hsame
    · next k =>
      rw [if_pos k] at hseq'
      exact hseq hseq'.symm
    · next k =>
      rw [hchange y hy k, (hg y).2.1, hid] at hsame
      exact k hsame
  · have hissue := State.issueOwn_inserts (s := u) (q := q) (next := next) (emptied := emptied) (told := .nothing) hf
      (State.ownEntry_of_absent habsent)
    change u.issueOwn s.clock emptied q next .nothing =
      (((u.issued f next).insert (ownAt 0 r s.clock)).1,
        if ((u.issued f next).insert (ownAt 0 r s.clock)).2 = true then Told.nothing.owed (ownAt 0 r s.clock) else .nothing)
      at hissue
    have hmapped : s.table.map change = s.table.map g :=
      List.map_congr_left fun e he => hchange e he (habsent e he)
    have hinserted : ∀ {table : List Entry},
        (u.issued f next).insert (ownAt 0 r s.clock) = ({ u.issued f next with table := table }, true) →
        ((∃ p, lowestFreeIs s.table p) ∨ ∃ v ∈ s.table, s.mayEvict .own v) →
        s.tookOwn (w.hear told).engineSettle raised r.cls ∧
          samePlacesAside (w.hear told).engineSettle.table (table.map g) := fun {table} k hstores => by
      obtain ⟨table', k', hwf'⟩ := State.insert_stored (s := u.issued f next) (new := ownAt 0 r s.clock) hwf habsent hstores
      have hsame : table' = table := congrArg (fun x => x.1.table) (k'.symm.trans k)
      rw [k] at hissue
      exact htook hissue (hsame ▸ hwf') (List.mem_cons_self ..)
    refine ⟨fun p hp => ?_, fun hfull v hv hmay hfirst => ?_⟩
    · obtain ⟨htook, htables⟩ :=
        hinserted (State.insert_free (s := u.issued f next) (new := ownAt 0 r s.clock) hwf hp) (.inl ⟨p, hp⟩)
      have hadded : (addedTo (ownAt p r s.clock) s.table).map g = addedTo (ownAt p r s.clock) (s.table.map change) := by
        rw [addedTo_map fun e => (hg e).1, hmapped, (hg (ownAt p r s.clock)).2.2 rfl]
      exact ⟨htook, show samePlacesAside _ (addedTo _ _) from hadded ▸ htables⟩
    · obtain ⟨htook, htables⟩ :=
        hinserted (State.insert_evicts (s := u.issued f next) (new := ownAt 0 r s.clock) hwf hfull hv hmay hfirst)
          (.inr ⟨v, hv, hmay⟩)
      refine ⟨htook, ?_⟩
      rw [List.map_map] at htables
      rw [← List.map_congr_left (l := s.table) (f := g ∘ _) fun e he => ?_]
      · exact htables
      · simp only [Function.comp_apply]
        split
        · exact (hg _).2.2 rfl
        · exact (hchange e he (habsent e he)).symm

end

end Sys2Proof.Machine
end

section
/-! PROOFS. Sequence jumps of the own bin (O41), and samples that issue a report (O23). -/

namespace Sys2Proof.Machine

section
variable {s : State} {m : Merging} {r : RxEntry} {told : Told} {heard : Seq}

/-! ### Sequence jumps (R72, R111) -/

/-- The state in which a jump to a heard sequence is noticed, before a report is issued (R72). -/
def State.jumped (heard : Seq) (s : State) : State :=
  { s with est := { s.est with nextSeq := heard + 1 }, port := { s.port with flags := s.port.flags ||| 0x10 } }

/-- Past the heard sequence lies the half distance when it lies 32767 ahead. -/
theorem serial_succ_unordered (a b : Seq) (h : (a - b).toNat ≤ 32767) :
    serial (a + 1) b = .unordered ↔ (a - b).toNat = 32767 := by
  rw [serial_eq_unordered_iff]
  bv_omega

theorem State.sequenceJump_half (h : (heard - (s.est.nextSeq - 1)).toNat = 32767) :
    s.sequenceJump heard told = (s.jumped heard).issueOwn s.clock false heard (heard + 1) told := by
  exact if_pos ((serial_succ_unordered heard (s.est.nextSeq - 1) (by omega)).2 h)

theorem State.sequenceJump_ahead (h : (heard - (s.est.nextSeq - 1)).toNat < 32767) :
    s.sequenceJump heard told = (s.jumped heard).issueOwn s.clock false (heard + 1) (heard + 1 + 1) told := by
  refine if_neg fun k => ?_
  have := (serial_succ_unordered heard (s.est.nextSeq - 1) (by omega)).1 k
  omega

theorem State.mergeEntry_jump {rxTime : Nat} (hmalformed : r.malformed = false) (hrole : s.role = .bin)
    (hid : r.report.binId = s.cfg.stationId) (hserial : serial r.report.seq (s.est.nextSeq - 1) = .newer) :
    s.mergeEntry r rxTime told = s.sequenceJump r.report.seq told := by
  have hserial : serial r.report.seq s.est.ownSeq = .newer := hserial
  simp only [State.mergeEntry, hmalformed, Bool.false_eq_true, if_false, if_pos (And.intro hrole hid), State.mergeOwnBin,
    hserial]

/-- What a part leaves that moves the table, the estimator, the refusal count and the flags. -/
theorem State.merged_issued {u : State} {est : Estimator}
    (hu : u = { s with
      table := u.table, est := est, refusals := u.refusals, port := { s.port with flags := u.port.flags } }) :
    u.merged told m = { s with
      pair := (u.merged told m).pair, table := (u.merged told m).table, sel := (u.merged told m).sel,
      eng := (u.merged told m).eng, refusals := (u.merged told m).refusals, est := est,
      port := { s.port with flags := (u.merged told m).port.flags } } := by
  have hpair : (u.merged told m).pair = u.pair.advance m := congrArg State.pair State.merged_rest
  rw [hpair, State.merged_refusals, State.merged_port]
  conv_lhs => rw [State.merged_rest]
  congr 1 <;> rw [hu]

/-- A part that issues an own report, after which the other entries stand (R74). -/
theorem State.merged_storesOwn {u : State} {f : Figures} {q next : Seq} {emptied : Bool} {est : Estimator} {port : Port}
    {raised : FlagSet} (hu : u = { s with est := est, port := port })
    (hraised : port.flags ||| 0x02 = s.port.flags ||| raised) (hrun : s.running = true) (hrole : s.role = .bin)
    (hf : est.figures = some f) :
    s.storesOwn ((u.issueOwn s.clock emptied q next .nothing).1.merged (u.issueOwn s.clock emptied q next .nothing).2 m) id
      raised (s.cfg.reportOf est f s.clock q emptied) :=
  State.issueOwn_storesOwn (g := id) hu hraised hrun hrole hf (fun _ => ⟨rfl, rfl, fun _ => rfl⟩) (fun _ _ _ => rfl)
    (by rw [List.map_id]) (Told.extends_refl _)

/-! ### Samples (R56, R70, R186) -/

theorem Estimator.triggered_iff {c : HeldConfig} {t : Nat} {emptied : Bool} {e : Estimator} :
    e.triggered c t emptied = true ↔ e.mustReport c t emptied := by
  have hapart : ∀ a b d : Nat, d ≤ apart a b ↔ b + d ≤ a ∨ a + d ≤ b := fun a b d => by
    unfold apart
    omega
  unfold Estimator.triggered Estimator.mustReport
  rcases e.figures with _ | f
  · simp
  · rcases e.lastReport with _ | r
    · simp
    · simp only [Option.some.injEq, exists_eq_left', reduceCtorEq, false_or, Bool.or_eq_true, decide_eq_true_eq,
        bne_iff_ne, hapart, or_assoc]

/-- What is left where the table, the estimator, the refusal count and the flags moved before it is told. -/
theorem State.hear_issued {v t : State} {est : Estimator} (ht : t = (v.hear told).engineSettle)
    (hv : v = { s with
      table := v.table, est := est, refusals := v.refusals, port := { s.port with flags := v.port.flags } }) :
    t = { s with est := t.est, table := t.table, refusals := t.refusals, sel := t.sel, eng := t.eng, port := t.port } ∧
      t.est = est ∧ t.port = { s.port with flags := t.port.flags } ∧ t.port.flags = v.port.flags := by
  have hrest : t = { v with sel := t.sel, table := t.table, eng := t.eng } :=
    ht ▸ (State.hear_reselects v told).engineSettle_onlySelects.1
  refine ⟨?_, ?_, ?_, ?_⟩
  · conv_lhs => rw [hrest]
    have hport : t.port = v.port := by rw [hrest]
    have hrefusals : t.refusals = v.refusals := by rw [hrest]
    have hest : t.est = v.est := by rw [hrest]
    rw [hport, hrefusals, hest]
    congr 1 <;> rw [hv]
  · rw [hrest, hv]
  · rw [hrest, hv]
  · rw [hrest]

/-- A trigger finds figures to report. -/
theorem Estimator.mustReport.figures {c : HeldConfig} {t : Nat} {emptied : Bool} {e : Estimator}
    (h : e.mustReport c t emptied) : ∃ f, e.figures = some f := by
  obtain ⟨f, hf, -⟩ := h
  exact ⟨f, hf⟩

/-- What POST_SAMPLE does to a running bin station (R56, R70). -/
def State.sampled (range : Nat) (flags : Byte) (s : State) : State :=
  if (s.taken range flags).1.triggered s.cfg s.clock (s.taken range flags).2 = true then
    ((s.sampleIssue range flags).1.hear (s.sampleIssue range flags).2).engineSettle
  else { s with est := (s.taken range flags).1 }

theorem State.sampleAct_eq (range : Nat) (flags : Byte) (s : State) : State.sampleAct range flags s =
    (s.sampled range flags,
      [0x00, (sampleKind flags (kindOf s.cfg.kindCode)).outcome,
        markByte ((s.taken range flags).1.triggered s.cfg s.clock (s.taken range flags).2)] ++
        toBytes 2 (s.sampled range flags).est.ownSeq.toNat) := by
  rfl

theorem exec_postSample_running {r1 r0 flags : Byte} (hready : s.port.ready = true) (hrun : s.running = true)
    (hrole : s.role = .bin) :
    exec (.postSample [r1, r0, flags]) s = .next (s.replied [r1, r0, flags]
      [0x00, (sampleKind flags (kindOf s.cfg.kindCode)).outcome,
        markByte ((s.taken (r1.toNat * 256 + r0.toNat) flags).1.triggered s.cfg s.clock
          (s.taken (r1.toNat * 256 + r0.toNat) flags).2),
        BitVec.ofNat 8 ((s.sampled (r1.toNat * 256 + r0.toNat) flags).est.ownSeq.toNat / 256),
        BitVec.ofNat 8 (s.sampled (r1.toNat * 256 + r0.toNat) flags).est.ownSeq.toNat]
      (s.sampled (r1.toNat * 256 + r0.toNat) flags)) := by
  have hrange : fieldAt [r1, r0, flags] 0 2 = r1.toNat * 256 + r0.toNat := by
    simp [fieldAt, ofBytes]
  have hflags : BitVec.ofNat 8 (fieldAt [r1, r0, flags] 2 1) = flags := by
    simp [fieldAt, ofBytes]
  rw [exec_postSample, execPostSample, State.serve_in_role _ hready hrun hrole rfl rfl, hrange, hflags, State.sampleAct_eq,
    toBytes_succ_eq_append, toBytes_one]
  rfl

end

end Sys2Proof.Machine
end

section
open Sys2Proof Sys2Proof.Machine

/-- Settles O41: the jump noticed, then an own report issued under the heard sequence or the one after it. -/
theorem sequenceJumpIssues : Obligations.SequenceJumpIssues := by
  intro s m r hears hmalformed hrun hrole hid hlo hhi
  have hserial : serial r.report.seq (s.est.nextSeq - 1) = .newer := (serial_eq_newer_iff _ _).2 ⟨hlo, hhi⟩
  have hmerge := State.mergeEntry_jump (rxTime := m.frame.rxTime) (told := .nothing) hmalformed hrole hid hserial
  have hjumped : (s.jumped r.report.seq).port.flags.getLsbD 4 = true := by
    change (s.port.flags ||| 0x10).getLsbD 4 = true
    rw [BitVec.getLsbD_or]
    exact Bool.or_true _
  have hissue : ∃ q next, s.mergeEntry r m.frame.rxTime .nothing = (s.jumped r.report.seq).issueOwn s.clock false q next .nothing ∧
      ((r.report.seq - (s.est.nextSeq - 1)).toNat = 32767 → q = r.report.seq ∧ next = r.report.seq + 1) ∧
      ((r.report.seq - (s.est.nextSeq - 1)).toNat < 32767 → q = r.report.seq + 1 ∧ next = r.report.seq + 2) := by
    rcases Nat.lt_or_eq_of_le hhi with h | h
    · exact ⟨_, _, hmerge.trans (State.sequenceJump_ahead h), fun k => by omega, fun _ => ⟨rfl, by bv_omega⟩⟩
    · exact ⟨_, _, hmerge.trans (State.sequenceJump_half h), fun _ => ⟨rfl, rfl⟩, fun k => by omega⟩
  obtain ⟨q, next, hissue, hhalf, hahead⟩ := hissue
  refine ⟨_, exec_merge_entry hears, ?_⟩
  rw [hissue]
  rcases hf : s.est.figures with _ | f
  · have hnone : (s.jumped r.report.seq).issueOwn s.clock false q next .nothing = (s.jumped r.report.seq, .nothing) := by
      simp only [State.issueOwn, State.jumped, hf]
    rw [hnone]
    refine ⟨?_, fun _ => ⟨State.merged_eq rfl, State.merged_table⟩, nofun⟩
    rw [State.merged_port]
    exact hjumped
  · obtain ⟨hrest, hown, hkeeps⟩ := (s.jumped r.report.seq).issueOwn_rest (q := q) (next := next) (emptied := false)
      (told := .nothing) hf
    refine ⟨?_, nofun, fun f' q' next' hf' hhalf' hahead' => ?_⟩
    · rw [State.merged_port]
      exact hkeeps 4 hjumped
    · cases hf'
      obtain ⟨rfl, rfl⟩ : q' = q ∧ next' = next := by
        rcases Nat.lt_or_eq_of_le hhi with h | h
        · exact ⟨(hahead' h).1.trans (hahead h).1.symm, (hahead' h).2.trans (hahead h).2.symm⟩
        · exact ⟨(hhalf' h).1.trans (hhalf h).1.symm, (hhalf' h).2.trans (hhalf h).2.symm⟩
      refine ⟨?_, ?_, ?_⟩
      · exact State.merged_issued hrest
      · rw [State.merged_port]
        exact hown
      · exact State.merged_storesOwn (est := (s.jumped r.report.seq).est) (port := (s.jumped r.report.seq).port) rfl
          (BitVec.or_assoc _ 0x10 0x02) hrun hrole hf

/-- Settles O23: the trigger check on the estimator the sample gives, and the report issued of it. -/
theorem postSampleReports : Obligations.PostSampleReports := by
  intro s r1 r0 flags e emptied hready hrun hrole htake
  have htaken : s.taken (r1.toNat * 256 + r0.toNat) flags = (e, emptied) := htake
  have hexec := exec_postSample_running (r1 := r1) (r0 := r0) (flags := flags) hready hrun hrole
  have hsampled : s.sampled (r1.toNat * 256 + r0.toNat) flags =
      if e.triggered s.cfg s.clock emptied = true then
        (State.hear (State.issueOwn s.clock emptied e.nextSeq (e.nextSeq + 1) { s with est := e } .nothing).2
          (State.issueOwn s.clock emptied e.nextSeq (e.nextSeq + 1) { s with est := e } .nothing).1).engineSettle
      else { s with est := e } := by
    rw [State.sampled, State.sampleIssue, htaken]
    rfl
  rw [htaken] at hexec
  refine ⟨_, _, _, _, e.triggered s.cfg s.clock emptied, hexec, ?_, ?_, Estimator.triggered_iff, fun hno => ?_,
    fun hyes => ?_⟩
  · unfold sampleKind
    split_ifs <;> rfl
  · rw [← Estimator.ownSeq]
    generalize (s.sampled (r1.toNat * 256 + r0.toNat) flags).est.ownSeq = q
    apply BitVec.eq_of_toNat_eq
    have := q.isLt
    rw [BitVec.toNat_append, ← Nat.shiftLeft_add_eq_or_of_lt (BitVec.isLt _), BitVec.toNat_ofNat, BitVec.toNat_ofNat,
      Nat.shiftLeft_eq]
    omega
  · rw [hsampled, hno]
    rfl
  · obtain ⟨f, hf⟩ := (Estimator.triggered_iff.1 hyes).figures
    obtain ⟨hrest, hown, -⟩ := State.issueOwn_rest (s := { s with est := e }) (q := e.nextSeq) (next := e.nextSeq + 1)
      (emptied := emptied) (told := .nothing) hf
    rw [hsampled, if_pos hyes]
    obtain ⟨ht, hest, hport, hflags⟩ := State.hear_issued rfl hrest
    refine ⟨f, hf, hest, ht, hport, hflags ▸ hown, ?_⟩
    exact State.issueOwn_storesOwn (g := id) (port := s.port) rfl rfl hrun hrole hf (fun _ => ⟨rfl, rfl, fun _ => rfl⟩)
      (fun _ _ _ => rfl) (by rw [List.map_id]) (Told.extends_refl _)

end

section
/-! PROOFS. The target of a SOLICIT frame at a bin station (O43). -/

namespace Sys2Proof.Machine

section
variable {s v : State} {m : Merging} {g : Target} {told : Told} {e : Entry}

theorem Target.selects_iff {b : BinId} : g.selects b = true ↔ g.addresses b := maskedMatch_iff

/-- An entry after the relayed entries' answer (R118). -/
def State.relayed (s : State) (g : Target) (e : Entry) : Entry := if s.answers g e = true then e.solicited else e

theorem State.answers_iff : s.answers g e = true ↔ e.origin ≠ .own ∧ g.addresses e.report.binId ∧
    e.report.cls ≤ g.maxClass ∧ e.owing ≠ .owed ∧ e.hops < s.cfg.hopLimit := by
  simp only [State.answers, Bool.and_eq_true, bne_iff_ne, Target.selects_iff, decide_eq_true_eq, and_assoc]

theorem State.relayed_keeps : (s.relayed g e).position = e.position ∧ (s.relayed g e).report.binId = e.report.binId ∧
    (e.origin = .own → s.relayed g e = e) := by
  refine ⟨?_, ?_, fun hown => if_neg fun k => (State.answers_iff.1 k).1 hown⟩ <;> · unfold State.relayed; split <;> rfl

theorem State.relayed_stands (h : ¬ g.addresses e.report.binId ∨ g.maxClass < e.report.cls ∨ e.owing = .owed ∨
    s.cfg.hopLimit ≤ e.hops) : s.relayed g e = e := by
  refine if_neg fun k => ?_
  obtain ⟨-, haddresses, hcls, howing, hhops⟩ := State.answers_iff.1 k
  rcases h with h | h | h | h
  · exact h haddresses
  · exact absurd hcls (not_le.2 h)
  · exact howing h
  · omega

/-! ### The two answers (R117, R118) -/

/-- The part with the own bin's answer given. -/
theorem State.mergePart_relays {told : Told} (hparts : m.frame.parts = .solicit g) (hrole : s.role = .bin)
    (hown : (if g.selects s.cfg.stationId = true then s.solicitOwn .nothing else (s, .nothing)) = (v, told))
    (hcfg : v.cfg = s.cfg) :
    s.mergePart m = ({ v with table := v.table.map (s.relayed g) },
      (v.table.filter (s.answers g)).foldl (fun told e => told.owed e) told) := by
  have hnot : ¬ s.role = .gateway := by simp [hrole]
  have hanswers : v.answers g = s.answers g := by
    funext e
    simp only [State.answers, hcfg]
  rw [State.mergePart_target hparts, State.mergeTarget, if_neg hnot]
  simp only [hown, State.solicitRelayed, hanswers]
  rfl

theorem Told.extends_foldl_owed (l : List Entry) (told : Told) :
    (l.foldl (fun told e => told.owed e) told).extends told ∧
      ∀ e ∈ l, e.report.cls ∈ (l.foldl (fun told e => told.owed e) told).fresh := by
  induction l generalizing told with
  | nil => exact ⟨told.extends_refl, List.forall_mem_nil _⟩
  | cons x l ih =>
    obtain ⟨⟨hwithin, hfresh⟩, hall⟩ := ih (told.owed x)
    refine ⟨⟨(told.within_owed x).trans hwithin, fun c hc => hfresh c (List.mem_cons_of_mem _ hc)⟩, fun e he => ?_⟩
    rcases List.mem_cons.1 he with rfl | he
    · exact hfresh _ (List.mem_cons_self ..)
    · exact hall e he

/-- What is told of as owed preempts. -/
theorem State.merged_target_preemptedBy {cls : Urgency} (hs : s.tableOk) (hrun : s.running = true) (hrole : s.role = .bin)
    (hv : v = { s with table := v.table, est := v.est, refusals := v.refusals, port := v.port })
    (hstep : s.mergePart m = ({ v with table := v.table.map (s.relayed g) },
      (v.table.filter (s.answers g)).foldl (fun told e => told.owed e) told))
    (hcls : cls ∈ ((v.table.filter (s.answers g)).foldl (fun told e => told.owed e) told).fresh) :
    s.preemptedBy ((s.mergePart m).1.merged (s.mergePart m).2 m) cls := by
  have hwf := ((s.mergePart_alters m).tableOk hs hrun).1
  rw [hstep] at hwf ⊢
  have hsel : v.sel = s.sel := by rw [hv]
  refine (State.merged_preemptedBy (u := { v with table := v.table.map (s.relayed g) }) ?_ ?_ hwf hcls).congr
    (congrArg Selector.stage hsel) (congrArg Selector.build hsel)
  · change v.running = true
    rw [hv]
    exact hrun
  · refine (State.role_congr (s := s) ?_).trans hrole
    change v.config = s.config
    rw [hv]

/-- What the entries of other bins become, and that each that is owed again preempts. -/
theorem State.merged_relays {change : Entry → Entry} (hs : s.tableOk) (hrun : s.running = true) (hrole : s.role = .bin)
    (hv : v = { s with table := v.table, est := v.est, refusals := v.refusals, port := v.port })
    (hstep : s.mergePart m = ({ v with table := v.table.map (s.relayed g) },
      (v.table.filter (s.answers g)).foldl (fun told e => told.owed e) told))
    (hkeeps : ∀ y ∈ v.table, e.report.binId = y.report.binId → e ∈ v.table) (hown : e.origin ≠ .own)
    (hchange : change e = s.relayed g e) :
    (g.addresses e.report.binId → e.report.cls ≤ g.maxClass → e.owing ≠ .owed → e.hops < s.cfg.hopLimit →
      change e = { e with owing := .owed, heard := 0, sent := 0 } ∧
        ((∃ x ∈ ((s.mergePart m).1.merged (s.mergePart m).2 m).table, x.report.binId = e.report.binId) →
          s.preemptedBy ((s.mergePart m).1.merged (s.mergePart m).2 m) e.report.cls)) ∧
      (¬ g.addresses e.report.binId ∨ g.maxClass < e.report.cls ∨ e.owing = .owed ∨ s.cfg.hopLimit ≤ e.hops →
        change e = e) := by
  rw [hchange]
  refine ⟨fun haddresses hcls howing hhops => ?_, fun h => State.relayed_stands h⟩
  have hanswers : s.answers g e = true := State.answers_iff.2 ⟨hown, haddresses, hcls, howing, hhops⟩
  refine ⟨if_pos hanswers, fun ⟨x, hx, hid⟩ => ?_⟩
  have hx' := hx
  rw [hstep] at hx'
  obtain ⟨p, hp⟩ := exists_mem_of_samePlacesAside State.merged_table hx'
  obtain ⟨y, hy, hsame⟩ := List.mem_map.1 hp
  have hid' : y.report.binId = x.report.binId := (State.relayed_keeps (s := s) (g := g)).2.1.symm.trans (by rw [hsame])
  have hmem := hkeeps y hy (hid.symm.trans hid'.symm)
  have hcls' := (Told.extends_foldl_owed (v.table.filter (s.answers g)) told).2 e (List.mem_filter.2 ⟨hmem, hanswers⟩)
  exact State.merged_target_preemptedBy hs hrun hrole hv hstep hcls'
/-- A target's step, from the own bin's answer: what is left, and what it leaves of the entries of other bins. -/
theorem State.merged_target {told : Told} (hstep : s.mergePart m = ({ v with table := v.table.map (s.relayed g) },
      (v.table.filter (s.answers g)).foldl (fun told e => told.owed e) told))
    (hv : v = { s with table := v.table, est := v.est, refusals := v.refusals,
                       port := { s.port with flags := v.port.flags } })
    {t : State} (ht : t = (s.mergePart m).1.merged (s.mergePart m).2 m) :
    t = { s with pair := t.pair, table := t.table, sel := t.sel, eng := t.eng, est := t.est, refusals := t.refusals,
                 port := { s.port with flags := t.port.flags } } ∧
      t.est = v.est ∧ t.refusals = v.refusals ∧ t.port.flags = v.port.flags ∧
      samePlacesAside t.table (v.table.map (s.relayed g)) := by
  rw [hstep] at ht
  have hest : t.est = v.est := by rw [ht, State.merged_est]
  subst ht
  refine ⟨?_, hest, State.merged_refusals, by rw [State.merged_port], State.merged_table⟩
  rw [hest]
  refine State.merged_issued ?_
  conv_lhs => rw [hv]

/-- Issuing an own report leaves the entries of other bins, but for one that is evicted. -/
theorem State.mem_issueOwn {f : Figures} {q next : Seq} {emptied : Bool} {y : Entry} (hf : s.est.figures = some f)
    (hw : tableWf s.table) (he : e ∈ s.table) (hother : e.report.binId ≠ s.cfg.stationId)
    (hy : y ∈ (s.issueOwn s.clock emptied q next told).1.table) (hsame : e.report.binId = y.report.binId) :
    e ∈ (s.issueOwn s.clock emptied q next told).1.table := by
  rcases hown : s.ownEntry with _ | own
  · rw [State.issueOwn_inserts hf hown] at hy ⊢
    rcases (s.issued f next).insert_cases (ownAt 0 (s.cfg.reportOf s.est f s.clock q emptied) s.clock) with
      ⟨p, -, k⟩ | ⟨-, k⟩ <;> rw [k] at hy ⊢
    · rcases mem_placeEntry.1 hy with rfl | hmem
      · exact absurd hsame hother
      · have hy' : y ∈ s.table := List.mem_of_mem_filter hmem
        rw [entry_unique hw he hy' (.inl hsame)]
        exact mem_placeEntry.2 (.inr hmem)
    · exact he
  · rw [State.issueOwn_replaces hf hown]
    exact List.mem_map.2 ⟨e, he, if_neg hother⟩

/-! ### The own bin's answer (R71, R117) -/

theorem State.solicitOwn_issues {f : Figures} (hf : s.est.figures = some f)
    (h : s.est.triggered s.cfg s.clock false = true ∨ s.est.sampleSince = true) :
    s.solicitOwn told =
      (s.raise .solicited).issueOwn s.clock false s.est.nextSeq (s.est.nextSeq + 1) told := by
  rw [State.solicitOwn, hf, Option.isSome_some, Bool.true_and, if_pos (Bool.or_eq_true _ _ ▸ h)]
  rfl

theorem State.solicitOwn_issued {f : Figures} (hf : s.est.figures = some f)
    (h : s.est.triggered s.cfg s.clock false = true ∨ s.est.sampleSince = true) :
    (s.solicitOwn told).1 = { s with
        table := (s.solicitOwn told).1.table, est := s.est.reported f s.clock (s.est.nextSeq + 1),
        refusals := (s.solicitOwn told).1.refusals, port := { s.port with flags := (s.solicitOwn told).1.port.flags } } ∧
      (s.solicitOwn told).1.port.flags.getLsbD 1 = true ∧ (s.solicitOwn told).1.port.flags.getLsbD 3 = true := by
  rw [State.solicitOwn_issues hf h]
  obtain ⟨hrest, hissued, hkeeps⟩ := (s.raise .solicited).issueOwn_rest (q := s.est.nextSeq)
    (next := s.est.nextSeq + 1) (emptied := false) (told := told) hf
  refine ⟨hrest, hissued, hkeeps 3 ?_⟩
  rw [State.raise_flags, BitVec.getLsbD_or]
  exact Bool.or_true _

theorem State.mem_solicitOwn {f : Figures} {y : Entry} (hf : s.est.figures = some f)
    (h : s.est.triggered s.cfg s.clock false = true ∨ s.est.sampleSince = true) (hw : tableWf s.table) (he : e ∈ s.table)
    (hother : e.report.binId ≠ s.cfg.stationId) (hy : y ∈ (s.solicitOwn told).1.table)
    (hsame : e.report.binId = y.report.binId) : e ∈ (s.solicitOwn told).1.table := by
  rw [State.solicitOwn_issues hf h] at hy ⊢
  exact State.mem_issueOwn (s := s.raise .solicited) hf hw he hother hy hsame

/-- The own bin's report is stored, with the relayed entries' answer behind it (R74, R118). -/
theorem State.merged_storesOwn_relayed {f : Figures} (hrun : s.running = true) (hrole : s.role = .bin)
    (hf : s.est.figures = some f) (h : s.est.triggered s.cfg s.clock false = true ∨ s.est.sampleSince = true)
    (htold : told.extends (s.solicitOwn .nothing).2) :
    s.storesOwn (State.merged told m { (s.solicitOwn .nothing).1 with
        table := (s.solicitOwn .nothing).1.table.map (s.relayed g) }) (s.relayed g) 0x0A
      (s.cfg.reportOf s.est f s.clock s.est.nextSeq false) := by
  rw [State.solicitOwn_issues hf h] at htold ⊢
  exact State.issueOwn_storesOwn (u := s.raise .solicited) (port := (s.raise .solicited).port)
    (pair := ((s.raise .solicited).issueOwn s.clock false s.est.nextSeq (s.est.nextSeq + 1) .nothing).1.pair.advance m) rfl
    (BitVec.or_assoc _ 0x08 0x02) hrun hrole hf (fun _ => State.relayed_keeps) (fun _ _ _ => rfl) rfl htold

theorem State.solicitOwn_owed (hrun : s.running = true) (hrole : s.role = .bin)
    (htrigger : s.est.triggered s.cfg s.clock false = false) (h : s.est.figures = none ∨ s.est.sampleSince = false) :
    (s.solicitOwn told).1 =
      { s with table := s.table.map fun e => if e.report.binId = s.cfg.stationId then e.solicited else e,
               port := { s.port with flags := s.port.flags ||| 0x08 } } ∧
      ∀ own, s.ownEntry = some own → own.owing ≠ .owed → (s.solicitOwn told).2 = told.owed own := by
  have hnot : (s.est.figures.isSome && (s.est.triggered s.cfg s.clock false || s.est.sampleSince)) = false := by
    rcases h with h | h
    · rw [h]
      rfl
    · rw [htrigger, h, Bool.or_self, Bool.and_false]
  have hentry : s.ownEntry = s.entryOf s.cfg.stationId := if_pos (State.isBin_iff.2 ⟨hrun, hrole⟩)
  simp only [State.solicitOwn, hnot, Bool.false_eq_true, if_false]
  rcases hown : s.ownEntry with _ | own
  · refine ⟨?_, fun _ hsome => by cases hsome⟩
    rw [hentry] at hown
    have habsent : (s.table.map fun e => if e.report.binId = s.cfg.stationId then e.solicited else e) = s.table := by
      conv_rhs => rw [← List.map_id s.table]
      exact List.map_congr_left fun e he => if_neg (State.entryOf_eq_none.1 hown e he)
    rw [habsent]
    rfl
  · rw [hentry] at hown
    obtain ⟨-, hid⟩ := State.mem_of_entryOf hown
    refine ⟨?_, fun own' hown' hne => ?_⟩
    · simp only [State.alter, changeEntry, hid]
      rfl
    · cases hown'
      exact (if_neg fun k => hne k.1).trans (if_pos ⟨hne, rfl⟩)

end

end Sys2Proof.Machine
end

section
open Sys2Proof Sys2Proof.Machine

/-- Settles O43: by whether the own bin is addressed and, if so, whether it issues a report. -/
theorem solicitationIsAnswered : Obligations.SolicitationIsAnswered := by
  intro s m g hm hparts hrun hrole hs
  have hother : ∀ e ∈ s.table, e.origin ≠ .own → e.report.binId ≠ s.cfg.stationId := fun e he hown hid =>
    hown ((hs.2 e he).2 ⟨State.isBin_iff.2 ⟨hrun, hrole⟩, hid⟩)
  have hexec := exec_mergeStep_of_merging hm
  by_cases haddressed : g.addresses s.cfg.stationId
  · have hselects := Target.selects_iff.2 haddressed
    by_cases hissues : s.est.mustReport s.cfg s.clock false ∨ s.est.figures ≠ none ∧ s.est.sampleSince = true
    · obtain ⟨f, hf⟩ : ∃ f, s.est.figures = some f := by
        rcases hissues with h | ⟨h, -⟩
        · exact h.figures
        · exact Option.ne_none_iff_exists'.1 h
      have hown := State.solicitOwn_issues (told := .nothing) hf
        (hissues.imp Estimator.triggered_iff.2 And.right)
      have hissues' := hissues.imp Estimator.triggered_iff.2 And.right
      obtain ⟨hv, hflag, hflag'⟩ := State.solicitOwn_issued (told := .nothing) hf hissues'
      have hstep := State.mergePart_relays (v := (s.solicitOwn .nothing).1) (told := (s.solicitOwn .nothing).2) hparts hrole
        (if_pos hselects) (by rw [hv]; rfl)
      obtain ⟨ht, hest, -, hflags, -⟩ := State.merged_target hstep (by rw [hv]) rfl
      refine ⟨_, s.relayed g, hexec, ht, fun e he hown => ?_, fun k => absurd haddressed k, fun _ => ⟨fun _ => ?_,
        fun k k' => ?_⟩⟩
      · exact State.merged_relays hs hrun hrole (by rw [hv]) hstep
          (fun y hy => State.mem_solicitOwn hf hissues' hs.1 he (hother e he hown) hy) hown rfl
      · refine ⟨f, hf, hest.trans (by rw [hv]), fun i hi => ?_, ?_⟩
        · rw [hflags]
          rcases hi with rfl | rfl
          · exact hflag
          · exact hflag'
        · rw [hstep]
          exact State.merged_storesOwn_relayed hrun hrole hf hissues' (Told.extends_foldl_owed _ _).1
      · rcases hissues with h | ⟨h, h'⟩
        · exact absurd h k
        · rcases k' with k' | k'
          · exact absurd k' h
          · rw [h'] at k'
            cases k'
    · have htrigger : s.est.triggered s.cfg s.clock false = false :=
        eq_false_of_ne_true fun k => hissues (.inl (Estimator.triggered_iff.1 k))
      have hsince : s.est.figures = none ∨ s.est.sampleSince = false := by
        by_contra k
        obtain ⟨k, k'⟩ := not_or.1 k
        exact hissues (.inr ⟨k, by simpa using k'⟩)
      obtain ⟨hv, howed⟩ := State.solicitOwn_owed (told := .nothing) hrun hrole htrigger hsince
      have hstep := State.mergePart_relays (v := (s.solicitOwn .nothing).1) (told := (s.solicitOwn .nothing).2) hparts hrole
        (if_pos hselects) (by rw [hv]; rfl)
      obtain ⟨ht, hest, hrefusals, hflags, htable⟩ := State.merged_target hstep (by rw [hv]) rfl
      have hchanged : (s.solicitOwn .nothing).1.table.map (s.relayed g) = s.table.map fun e =>
          if e.report.binId = s.cfg.stationId then e.solicited else s.relayed g e := by
        rw [hv, List.map_map]
        refine List.map_congr_left fun e he => ?_
        simp only [Function.comp_apply]
        split
        · next hid => exact State.relayed_keeps.2.2 ((hs.2 e he).2 ⟨State.isBin_iff.2 ⟨hrun, hrole⟩, hid⟩)
        · rfl
      rw [hchanged] at htable
      refine ⟨_, fun e => if e.report.binId = s.cfg.stationId then e.solicited else s.relayed g e, hexec, ht,
        fun e he hown => ?_, fun k => absurd haddressed k, fun _ => ⟨fun k => absurd k hissues,
        fun _ _ => ⟨hest.trans (by rw [hv]), hrefusals.trans (by rw [hv]), hflags.trans (by rw [hv]), htable,
          fun own hown => ⟨?_, fun hne => ?_⟩⟩⟩⟩
      · have hid := hother e he hown
        refine State.merged_relays (change := fun e => if e.report.binId = s.cfg.stationId then e.solicited else s.relayed g e)
          hs hrun hrole (by rw [hv]) hstep (fun _ _ _ => ?_) hown (if_neg hid)
        rw [hv]
        exact List.mem_map.2 ⟨e, he, if_neg hid⟩
      · obtain ⟨-, -, hid⟩ := hown
        exact if_pos hid
      · refine State.merged_target_preemptedBy hs hrun hrole (by rw [hv]) hstep
          ((Told.extends_foldl_owed _ _).1.2 _ ?_)
        rw [howed own (State.ownEntry_of_holds hrun hrole hown) hne]
        exact List.mem_cons_self ..
  · have hnot : ¬ g.selects s.cfg.stationId = true := fun k => haddressed (Target.selects_iff.1 k)
    have hstep := State.mergePart_relays hparts hrole (if_neg hnot) rfl
    obtain ⟨ht, hest, hrefusals, hflags, htable⟩ := State.merged_target hstep rfl rfl
    refine ⟨_, s.relayed g, hexec, ht, fun e he hown => ?_, fun _ => ⟨hest, hrefusals, hflags, htable, fun own hown => ?_⟩,
      fun k => absurd k haddressed⟩
    · exact State.merged_relays hs hrun hrole rfl hstep (fun _ _ _ => he) hown rfl
    · obtain ⟨-, -, hid⟩ := hown
      exact State.relayed_stands (.inl (hid ▸ haddressed))

end

section
/-! PROOFS. What a gateway builds (R126), and a new solicit (O24). -/

namespace Sys2Proof.Machine

section
variable {s t : State} {f : FrameRec} {bins : List BinId} {p : FrameRec → Bool}

/-! ### Building into empty slots -/

/-- With both slots EMPTY the next frame is staged. -/
theorem State.selectorSettle_stages (hrun : s.running = true) (hbuild : s.sel.build = none) (hstage : s.sel.stage = none)
    (hnext : s.nextFrame = some (f, bins)) : s.selectorSettle.sel.stage = some { frame := f, cond := .staged } := by
  have hone := State.buildOne_stages hbuild hstage hnext
  rw [State.selectorSettle_of_not_staged hrun (by simp [Selector.staged, hstage]), State.buildAll,
    State.buildOne_stage_some (by rw [hone]; nofun), hone]

theorem State.nextFrame_drain {i : DrainItem} {is : List DrainItem} (hrole : s.role = .gateway)
    (hitems : s.admittedItems = i :: is) :
    s.nextFrame = some ({
      key := drainKey s.cfg.stationId,
      payload := .drain (((i :: is).take Config.drainMax).map (fun x => (x.binId, x.seq))) }, []) := by
  simp only [State.nextFrame, hrole, hitems]

theorem State.nextFrame_pending {q : PendingSolicit} (hrole : s.role = .gateway) (hitems : s.admittedItems = [])
    (hsolicit : s.admittedSolicit = some q) :
    s.nextFrame = some ({
      key := solicitKey (urgencyOf q.maxClass) s.cfg.stationId,
      payload := .solicit { binId := q.binId, mask := q.mask, maxClass := urgencyOf q.maxClass } q.serial }, []) := by
  simp only [State.nextFrame, hrole, hitems, hsolicit]

/-- A STAGED SOLICIT frame gives way to what is listed (R126). -/
theorem State.selectorSettle_drainFirst (hrun : s.running = true) (hne : s.gw.drainList ≠ [])
    (hstage : s.sel.stage = some { frame := f, cond := .staged })
    (hf : f.isSolicit = true) : s.selectorSettle = s.withdrawBoth.selectorSettle := by
  have hempty : s.gw.drainList.isEmpty = false := by simpa using hne
  have hfirst : s.drainFirst = s.withdrawBoth := by
    rw [State.drainFirst, Selector.staged_eq_some.2 hstage, hempty]
    simp [hf]
  have hsecond : s.withdrawBoth.drainFirst = s.withdrawBoth := by
    simp [State.drainFirst, State.withdrawBoth, Selector.staged]
  have hrun' : s.withdrawBoth.running = true := hrun
  simp only [State.selectorSettle, hfirst, hsecond, hrun, hrun', if_true]

/-- With both slots EMPTY, or a STAGED SOLICIT frame in STAGE, the DRAIN frame of the whole list is staged (R126). -/
theorem State.selectorSettle_stagesDrains (hrun : s.running = true) (hrole : s.role = .gateway)
    (hmute : s.mon.standing ≠ .mute)
    (h : s.sel.stage = none ∧ s.sel.build = none ∨
      ∃ f, s.sel.stage = some { frame := f, cond := .staged } ∧ f.isSolicit = true) : s.selectorSettle.stagesDrains := by
  have hempty : ∀ {s : State}, s.running = true → s.role = .gateway → s.mon.standing ≠ .mute → s.sel.stage = none →
      s.sel.build = none → s.selectorSettle.stagesDrains := fun {s} hrun hrole hmute hstage hbuild hne hlen => by
    have hre := s.selectorSettle_reselects
    rw [hre.gw] at hne hlen
    obtain ⟨i, is, hlist⟩ := List.exists_cons_of_ne_nil hne
    have hitems := (State.admittedItems_of_empty hmute hbuild hstage).trans hlist
    have htake : (i :: is).take Config.drainMax = s.gw.drainList := by
      rw [← hlist]
      exact List.take_of_length_le hlen
    have hnext := State.nextFrame_drain hrole hitems
    rw [htake] at hnext
    refine ⟨_, State.selectorSettle_stages hrun hbuild hstage hnext, ?_, ?_⟩
    · rw [hre.gw]
    · rw [hre.cfg, drainKey_toNat]
  rcases h with ⟨hstage, hbuild⟩ | ⟨f, hstage, hf⟩
  · exact hempty hrun hrole hmute hstage hbuild
  · intro hne hlen
    rw [s.selectorSettle_reselects.gw] at hne hlen
    rw [State.selectorSettle_drainFirst hrun hne hstage hf] at *
    exact hempty (s := s.withdrawBoth) hrun hrole hmute rfl rfl (by rwa [State.selectorSettle_reselects .. |>.gw])
      (by rwa [State.selectorSettle_reselects .. |>.gw])

/-! ### Withdrawal by kind (R128) -/

/-- No uncommitted frame of the kind stands. -/
theorem State.withdrawWhere_clears (p : FrameRec → Bool) :
    (s.withdrawWhere p).sel.staged.any p = false ∧ (s.withdrawWhere p).sel.build.any p = false := by
  rcases State.withdraw_cases (s := s) (s.sel.staged.any p) (s.sel.build.any p) with
    ⟨k, -, -⟩ | ⟨k, -, -, hstage⟩ | ⟨k, hstage, hbuild⟩ <;> rw [State.withdrawWhere, k]
  · exact ⟨rfl, rfl⟩
  · refine ⟨?_, rfl⟩
    change s.sel.staged.any p = false
    cases hs : s.sel.staged <;> simp_all
  · constructor
    · cases hs : s.sel.staged <;> simp_all
    · cases hs : s.sel.build <;> simp_all

theorem State.withdrawWhere_of_empty (hstage : s.sel.stage = none) (hbuild : s.sel.build = none) :
    s.withdrawWhere p = s := by
  simp [State.withdrawWhere, State.withdraw, Selector.staged, hstage, hbuild]

/-- An uncommitted frame stood uncommitted before, or may be built. -/
theorem State.reselects.uncommitted (h : s.reselects t)
    (hf : t.sel.stage = some { frame := f, cond := .staged } ∨ t.sel.build = some f) :
    (s.sel.stage = some { frame := f, cond := .staged } ∨ s.sel.build = some f) ∨ s.mayBuild f := by
  rcases hf with hf | hf
  · rcases h.stage with hsame | ⟨-, hnone | ⟨g, hg, hmay⟩⟩
    · exact .inl (.inl (hsame ▸ hf))
    · rw [hnone] at hf
      cases hf
    · rw [hg] at hf
      cases hf
      exact .inr hmay
  · rcases h.build with hsame | hnone | ⟨g, hg, hmay⟩
    · exact .inl (.inr (hsame ▸ hf))
    · rw [hnone] at hf
      cases hf
    · rw [hg] at hf
      cases hf
      exact .inr hmay

theorem State.engineSettle_uncommitted
    (hf : s.engineSettle.sel.stage = some { frame := f, cond := .staged } ∨ s.engineSettle.sel.build = some f) :
    s.sel.stage = some { frame := f, cond := .staged } ∨ s.sel.build = some f := by
  rw [State.engineSettle_build] at hf
  rcases hf with hf | hf
  · rcases State.engineSettle_stage (s := s) with hsame | ⟨g, -, hg⟩
    · exact .inl (hsame ▸ hf)
    · rw [hg] at hf
      cases hf
  · exact .inr hf

end

end Sys2Proof.Machine
end

section
/-! PROOFS. SOLICIT (O24). -/

namespace Sys2Proof.Machine

section
variable {s : State}

/-- Three bytes of an argument, the most significant first. -/
theorem ofNat_ofBytes_three (b2 b1 b0 : Byte) : BitVec.ofNat 24 (ofBytes [b2, b1, b0]) = b2 ++ b1 ++ b0 := by
  apply BitVec.eq_of_toNat_eq
  have h2 := b2.isLt
  have h1 := b1.isLt
  have h0 := b0.isLt
  rw [BitVec.toNat_append, ← Nat.shiftLeft_add_eq_or_of_lt h0, BitVec.toNat_append, ← Nat.shiftLeft_add_eq_or_of_lt h1,
    BitVec.toNat_ofNat, Nat.shiftLeft_eq, Nat.shiftLeft_eq]
  simp only [ofBytes, List.foldl_cons, List.foldl_nil]
  omega

theorem urgencyOf_val (n : Nat) : (urgencyOf n).val = min 3 n := by
  unfold urgencyOf
  split
  · exact (Nat.min_eq_right (by omega)).symm
  · exact (Nat.min_eq_left (by omega)).symm

/-- The state with the new solicit, an earlier one's uncommitted frame withdrawn (R163, R128). -/
def State.resolicited (bin mask : BinId) (maxClass : Nat) (s : State) : State :=
  if s.gw.solicit.isSome then (s.made bin mask maxClass).withdrawWhere FrameRec.isSolicit else s.made bin mask maxClass

theorem exec_solicit_running {b2 b1 b0 m2 m1 m0 k : Byte} (hready : s.port.ready = true) (hrun : s.running = true)
    (hrole : s.role = .gateway) :
    exec (.solicit [b2, b1, b0, m2, m1, m0, k]) s =
      .next (s.replied [b2, b1, b0, m2, m1, m0, k] [if s.gw.solicit = none then 0x00 else 0x06]
        (s.resolicited (b2 ++ b1 ++ b0) (m2 ++ m1 ++ m0) k.toNat).selectorSettle.engineSettle) := by
  have hmax : fieldAt [b2, b1, b0, m2, m1, m0, k] 6 1 = k.toNat := by simp [fieldAt, ofBytes]
  have hresult : (if s.gw.solicit.isSome = true then ResultCode.replaced.byte else ResultCode.ok.byte) =
      if s.gw.solicit = none then 0x00 else 0x06 := by
    cases s.gw.solicit <;> rfl
  rw [exec_solicit, execSolicit, State.serve_in_role _ hready hrun hrole rfl rfl, hmax, ← hresult,
    ← ofNat_ofBytes_three b2 b1 b0, ← ofNat_ofBytes_three m2 m1 m0]
  rfl

theorem State.resolicited_reselects (bin mask : BinId) (maxClass : Nat) :
    (s.made bin mask maxClass).reselects (s.resolicited bin mask maxClass) := by
  unfold State.resolicited
  split
  · exact State.withdrawWhere_reselects _ _
  · exact .refl _

/-- No uncommitted frame carries a solicit that is not pending. -/
theorem State.resolicited_uncommitted {bin mask : BinId} {maxClass n : Nat} {f : FrameRec} {target : Target}
    (hrole : s.role = .gateway) (hpending : s.gw.solicit ≠ none)
    (hf : (s.resolicited bin mask maxClass).selectorSettle.engineSettle.sel.stage = some { frame := f, cond := .staged } ∨
      (s.resolicited bin mask maxClass).selectorSettle.engineSettle.sel.build = some f)
    (hpayload : f.payload = .solicit target n) : n = s.gw.nextSerial := by
  have hsolicit : f.isSolicit = true := by simp [FrameRec.isSolicit, hpayload]
  have hre := State.resolicited_reselects (s := s) bin mask maxClass
  rcases (State.selectorSettle_reselects _).uncommitted (State.engineSettle_uncommitted hf) with hold | ⟨-, hmay⟩
  · exfalso
    obtain ⟨hstage, hbuild⟩ := State.withdrawWhere_clears (s := s.made bin mask maxClass) FrameRec.isSolicit
    rw [State.resolicited, if_pos (Option.isSome_iff_ne_none.2 hpending)] at hold
    rcases hold with h | h
    · rw [Selector.staged_eq_some.2 h] at hstage
      simp [hsolicit] at hstage
    · rw [h] at hbuild
      simp [hsolicit] at hbuild
  · rw [hre.role, show (s.made bin mask maxClass).role = .gateway from hrole] at hmay
    rcases hmay with ⟨items, hitems, -⟩ | ⟨q, target', hq, hq'⟩
    · rw [hpayload] at hitems
      cases hitems
    · rw [hre.gw] at hq
      rw [hpayload] at hq'
      cases hq
      cases hq'
      rfl

/-- In ACTIVE with both slots EMPTY and nothing listed the pending solicit is staged (R126). -/
theorem State.resolicited_stages (bin mask : BinId) (maxClass : Nat) (hrun : s.running = true) (hrole : s.role = .gateway)
    (hbuild : s.sel.build = none) (hstage : s.sel.stage = none) (hlist : s.gw.drainList = [])
    (hactive : s.mon.standing = .active) :
    ∃ x, (s.resolicited bin mask maxClass).selectorSettle.engineSettle.sel.stage = some x ∧
      x.frame = {
        key := solicitKey (urgencyOf maxClass) s.cfg.stationId,
        payload := .solicit { binId := bin, mask := mask, maxClass := urgencyOf maxClass } s.gw.nextSerial } := by
  have hmade : s.resolicited bin mask maxClass = s.made bin mask maxClass := by
    unfold State.resolicited
    split
    · exact State.withdrawWhere_of_empty hstage hbuild
    · rfl
  have hitems : (s.made bin mask maxClass).admittedItems = [] := by
    have hnot : s.mon.standing ≠ .mute := by
      rw [hactive]
      nofun
    exact (State.admittedItems_of_empty hnot hbuild hstage).trans hlist
  have hpending : (s.made bin mask maxClass).admittedSolicit = (s.made bin mask maxClass).gw.solicit := by
    have hcarries : ∀ q, (s.made bin mask maxClass).sel.carriesSolicit q = false := fun q => by
      simp [Selector.carriesSolicit, Selector.frames, State.made, hbuild, hstage]
    have hactive : (s.made bin mask maxClass).mon.standing = .active := hactive
    simp only [State.admittedSolicit, hactive, hcarries]
    rfl
  have hnext := State.nextFrame_pending (s := s.made bin mask maxClass) hrole hitems hpending
  have hstages := State.selectorSettle_stages (s := s.made bin mask maxClass) hrun hbuild hstage hnext
  rw [hmade]
  rcases State.engineSettle_stage (s := (s.made bin mask maxClass).selectorSettle) with hsame | ⟨f, hf, hcommitted⟩
  · exact ⟨_, hsame.trans hstages, rfl⟩
  · rw [hstages] at hf
    cases hf
    exact ⟨_, hcommitted, rfl⟩

end

end Sys2Proof.Machine
end

section
open Sys2Proof Sys2Proof.Machine

/-- Settles O24: what is made pending, and what the selector then builds into empty slots. -/
theorem solicitMakesAPendingSolicit : Obligations.SolicitMakesAPendingSolicit := by
  intro s b2 b1 b0 m2 m1 m0 k hready hrun hrole
  have hre := (State.resolicited_reselects (s := s) (b2 ++ b1 ++ b0) (m2 ++ m1 ++ m0) k.toNat).trans
    (State.selectorSettle_reselects _)
  obtain ⟨hrest, htable⟩ := hre.engineSettle_onlySelects
  refine ⟨_, exec_solicit_running hready hrun hrole, ?_, htable, ?_,
    fun hpending f target n hf hpayload => State.resolicited_uncommitted hrole hpending hf hpayload,
    fun hbuild hstage hlist hactive => ?_⟩
  · conv_lhs => rw [hrest]
    rw [show (State.resolicited (b2 ++ b1 ++ b0) (m2 ++ m1 ++ m0) k.toNat s).selectorSettle.engineSettle.gw =
      (s.made (b2 ++ b1 ++ b0) (m2 ++ m1 ++ m0) k.toNat).gw by rw [hrest]]
    rfl
  · rw [hrest]
    rfl
  · obtain ⟨x, hx, hframe⟩ := State.resolicited_stages (b2 ++ b1 ++ b0) (m2 ++ m1 ++ m0) k.toNat hrun hrole hbuild hstage
      hlist hactive
    refine ⟨x, _, hx, by rw [hframe], rfl, rfl, urgencyOf_val k.toNat, ?_⟩
    rw [hframe, solicitKey_toNat, urgencyOf_val]

end

section
/-! PROOFS. The completion of an export (O26). -/

namespace Sys2Proof.Machine

/-! ### The drain list (R161) -/

section
variable {b : BinId} {r : Seq} {l : List DrainItem}

theorem find?_item_eq_none : l.find? (fun i => i.binId == b) = none ↔ ∀ i ∈ l, i.binId ≠ b := by
  simp [List.find?_eq_none]

theorem enterDrainList_appends (habsent : ∀ i ∈ l, i.binId ≠ b) (hlen : l.length < 8) :
    enterDrainList b r l = (l ++ [⟨b, r, 0⟩], false, true) := by
  have hlen : l.length < Config.drainMax := hlen
  simp only [enterDrainList, find?_item_eq_none.2 habsent, if_pos hlen]

theorem enterDrainList_pushes {i : DrainItem} {is : List DrainItem} (habsent : ∀ x ∈ i :: is, x.binId ≠ b)
    (hlen : is.length = 7) : enterDrainList b r (i :: is) = (is ++ [⟨b, r, 0⟩], true, true) := by
  have hlen : ¬ (i :: is).length < Config.drainMax := by
    rw [List.length_cons, hlen]
    decide
  simp only [enterDrainList, find?_item_eq_none.2 habsent, if_neg hlen, List.drop_one, List.tail_cons]

/-- The item of a bin in a list without repetition, changed. -/
theorem map_item {before after : List DrainItem} {i : DrainItem} {g : DrainItem → DrainItem} (hi : i.binId = b)
    (hnodup : ((before ++ i :: after).map (fun x => x.binId)).Nodup) :
    (before ++ i :: after).map (fun x => if x.binId = b then g x else x) = before ++ g i :: after := by
  rw [List.map_append, List.map_cons, List.nodup_append] at hnodup
  obtain ⟨-, hafter, hbefore⟩ := hnodup
  have hother : ∀ {xs : List DrainItem}, (∀ x ∈ xs, x.binId ≠ b) →
      xs.map (fun x => if x.binId = b then g x else x) = xs := fun {xs} h => by
    conv_rhs => rw [← List.map_id xs]
    exact List.map_congr_left fun x hx => if_neg (h x hx)
  rw [List.map_append, List.map_cons, if_pos hi, hother, hother]
  · intro x hx hxb
    exact (List.nodup_cons.1 hafter).1 (List.mem_map.2 ⟨x, hx, hxb.trans hi.symm⟩)
  · intro x hx hxb
    exact hbefore _ (List.mem_map_of_mem hx) _ (List.mem_cons_self ..) (hxb.trans hi.symm)

theorem enterDrainList_listed {before after : List DrainItem} {i : DrainItem} (hi : i.binId = b)
    (hnodup : ((before ++ i :: after).map (fun x => x.binId)).Nodup) :
    (enterDrainList b r (before ++ i :: after)).2.1 = false ∧
      (enterDrainList b r (before ++ i :: after)).1 =
        before ++ (if (r - i.seq).toNat < 32768 then { i with seq := r, sent := 0 } else i) :: after := by
  have hbefore : before.find? (fun i => i.binId == b) = none := by
    rw [List.map_append, List.map_cons, List.nodup_append] at hnodup
    exact find?_item_eq_none.2 fun x hx hxb =>
      hnodup.2.2 _ (List.mem_map_of_mem hx) _ (List.mem_cons_self ..) (hxb.trans hi.symm)
  have hfind : (before ++ i :: after).find? (fun i => i.binId == b) = some i := by
    rw [List.find?_append, hbefore, List.find?_cons_of_pos (by simpa using hi)]
    rfl
  simp only [enterDrainList, hfind]
  cases hserial : serial r i.seq with
  | newer =>
    obtain ⟨-, hlt⟩ := (serial_eq_newer_iff _ _).1 hserial
    rw [if_pos (by omega)]
    exact ⟨rfl, map_item (g := fun x => { x with seq := r, sent := 0 }) hi hnodup⟩
  | equal =>
    have hsame := (serial_eq_equal_iff _ _).1 hserial
    have hseq : i.seq = r := by
      bv_omega
    rw [if_pos (by omega)]
    refine ⟨rfl, (map_item (g := fun x => { x with sent := 0 }) hi hnodup).trans ?_⟩
    rw [← hseq]
  | older =>
    have hdist := (serial_eq_older_iff _ _).1 hserial
    exact ⟨rfl, by rw [if_neg (by omega)]⟩
  | unordered =>
    have hdist := (serial_eq_unordered_iff _ _).1 hserial
    exact ⟨rfl, by rw [if_neg (by omega)]⟩

/-- A list that was changed holds the delivered report. -/
theorem enterDrainList_changed (h : (enterDrainList b r l).1 ≠ l) :
    (enterDrainList b r l).2.2 = true ∧ (enterDrainList b r l).1 ≠ [] := by
  rcases hfind : l.find? (fun i => i.binId == b) with _ | i
  · simp only [enterDrainList, hfind]
    split_ifs <;> exact ⟨rfl, by simp⟩
  · have hne : l ≠ [] := List.ne_nil_of_mem (List.mem_of_find?_eq_some hfind)
    cases hserial : serial r i.seq with
    | newer | equal =>
      simp only [enterDrainList, hfind, hserial]
      exact ⟨trivial, by simpa using hne⟩
    | older | unordered =>
      simp only [enterDrainList, hfind, hserial] at h
      exact absurd rfl h

end

section
variable {s : State} {b : BinId} {r : Seq}

/-- The engine's own way on may commit the frame staged for the drain list. -/
theorem State.stagesDrains.engineSettle (h : s.stagesDrains) (hne : s.gw.drainList ≠ []) (hlen : s.gw.drainList.length ≤ 8) :
    ∃ x, s.engineSettle.sel.stage = some x ∧ s.engineSettle.drainsAll x.frame := by
  obtain ⟨f, hf, hdrains⟩ := h hne hlen
  have hdrains' : s.engineSettle.drainsAll f := by
    rw [State.drainsAll, State.engineSettle_rest]
    exact hdrains
  rcases State.engineSettle_stage (s := s) with hsame | ⟨g, hg, hcommitted⟩
  · exact ⟨_, hsame.trans hf, hdrains'⟩
  · rw [hf] at hg
    cases hg
    exact ⟨_, hcommitted, hdrains'⟩

/-- The state of a completed export, the DRAIN frame withdrawn where the list was changed (R158, R128). -/
def State.delivered (b : BinId) (r : Seq) (s : State) : State :=
  State.deliver b r { s with port := { s.port with resultAt := none } }

theorem exec_exportNextCompletion_inHand (hhand : s.gw.inHand = some (b, r)) :
    exec .exportNextCompletion s = .next (s.delivered b r).selectorSettle.engineSettle := by
  rw [exec_exportNextCompletion, execExportNextCompletion]
  simp only [hhand]
  rfl

theorem State.delivered_reselects (b : BinId) (r : Seq) :
    (State.handed b r { s with port := { s.port with resultAt := none } }).reselects (s.delivered b r) := by
  rw [State.delivered, State.deliver_eq]
  split
  · exact State.withdrawWhere_reselects _ _
  · exact .refl _

/-- What the completion leaves of the drain list, the queue and the table. -/
theorem State.delivered_settles (b : BinId) (r : Seq) {t : State}
    (ht : t = (s.delivered b r).selectorSettle.engineSettle) :
    t = { s with gw := (s.handed b r).gw, table := t.table, sel := t.sel, eng := t.eng,
                 port := { s.port with resultAt := none } } ∧ samePlacesAside t.table (s.handed b r).table := by
  subst ht
  obtain ⟨hrest, htable⟩ :=
    ((State.delivered_reselects (s := s) b r).trans (State.selectorSettle_reselects _)).engineSettle_onlySelects
  exact ⟨hrest, htable⟩

theorem State.handed_of_still {e : Entry} (he : s.holds b e) (hseq : e.report.seq = r) :
    (s.handed b r).gw.queue = s.gw.queue.filter (fun x => decide (x ≠ b)) ∧
      (s.handed b r).table = changeEntry b Entry.delivered s.table := by
  obtain ⟨-, hmem, hid⟩ := he
  have hstill : s.table.any (fun e => e.report.binId == b && e.report.seq == r) = true :=
    List.any_eq_true.2 ⟨e, hmem, by simp [hid, hseq]⟩
  simp only [State.handed, hstill, if_true, and_true]
  exact List.filter_congr fun x _ => by rw [bne, Bool.beq_eq_decide_eq, decide_not]

theorem State.handed_of_gone (h : ∀ e ∈ s.table, e.report.binId = b → e.report.seq ≠ r) :
    (s.handed b r).gw.queue = s.gw.queue ∧ (s.handed b r).table = s.table := by
  have hstill : s.table.any (fun e => e.report.binId == b && e.report.seq == r) = false :=
    List.any_eq_false.2 fun e he => by simpa using h e he
  simp only [State.handed, hstill, Bool.false_eq_true, if_false, and_self]

/-- A changed list is staged at once where nothing is committed (R126, R128). -/
theorem State.delivered_stagesDrains (hrun : s.running = true) (hrole : s.role = .gateway)
    (hmute : s.mon.standing ≠ .mute) (hchanged : (s.handed b r).gw.drainList ≠ s.gw.drainList)
    (hfill : ∀ f ∈ s.sel.frames, f.isFill = false) (hbuild : s.sel.stage = none → s.sel.build = none)
    (hstaged : ∀ x, s.sel.stage = some x → x.cond = .staged) : (s.delivered b r).selectorSettle.stagesDrains := by
  have hre := State.delivered_reselects (s := s) b r
  obtain ⟨hflag, -⟩ := enterDrainList_changed (b := b) (r := r) (l := s.gw.drainList) hchanged
  set v := State.handed b r { s with port := { s.port with resultAt := none } } with hv
  have hwithdrawn : s.delivered b r = v.withdrawWhere FrameRec.isDrain := by
    rw [State.delivered, State.deliver_eq, if_pos hflag]
  rw [hwithdrawn]
  refine State.selectorSettle_stagesDrains ?_ ?_ ?_ ?_
  · rw [← hwithdrawn, hre.running]
    exact hrun
  · rw [← hwithdrawn, hre.role]
    exact hrole
  · rw [← hwithdrawn, hre.mon]
    exact hmute
  · rcases hstage : s.sel.stage with _ | ⟨f, cond⟩
    · rw [State.withdrawWhere_of_empty (s := v) hstage (hbuild hstage)]
      exact .inl ⟨hstage, hbuild hstage⟩
    · obtain rfl : cond = .staged := hstaged _ hstage
      have hkind := hfill f (by simp [Selector.frames, hstage])
      have hsel : v.sel.staged = some f := Selector.staged_eq_some.2 hstage
      have hbefore : (v.withdrawWhere FrameRec.isDrain).sel.stage = none ∧
            (v.withdrawWhere FrameRec.isDrain).sel.build = none ∨
          f.isDrain = false ∧ (v.withdrawWhere FrameRec.isDrain).sel.stage = v.sel.stage := by
        rcases State.withdraw_cases (s := v) (v.sel.staged.any FrameRec.isDrain) (v.sel.build.any FrameRec.isDrain) with
          ⟨k, -, -⟩ | ⟨k, -, -, hnot⟩ | ⟨k, hnot, -⟩ <;> rw [State.withdrawWhere, k]
        · exact .inl ⟨rfl, rfl⟩
        · exact .inr ⟨by simpa [hsel] using hnot, rfl⟩
        · exact .inr ⟨by simpa [hsel] using hnot, rfl⟩
      refine hbefore.imp id fun ⟨hdrain, hsame⟩ => ⟨f, hsame.trans hstage, ?_⟩
      cases hpayload : f.payload <;> simp_all [FrameRec.isFill, FrameRec.isDrain, FrameRec.isSolicit]

end

end Sys2Proof.Machine
end

section
open Sys2Proof Sys2Proof.Machine

/-- Settles O26: the entry, the queue and the drain list of the completion, and the frame staged for the list. -/
theorem exportCompletes : Obligations.ExportCompletes := by
  refine ⟨fun s b r hhand hw => ?_, fun s b r hhand => ?_⟩
  · obtain ⟨hrest, htable⟩ := State.delivered_settles (s := s) b r rfl
    refine ⟨_, exec_exportNextCompletion_inHand hhand, ?_⟩
    generalize ht : (s.delivered b r).selectorSettle.engineSettle = t at *
    have hgw : t.gw = (s.handed b r).gw := by rw [hrest]
    refine ⟨by rw [hgw]; exact hrest, by rw [hgw]; rfl, fun e he hseq => ?_, fun hgone => ?_,
      fun hrun hrole hmute hlen hchanged hfill hbuild hstaged => ?_⟩
    · obtain ⟨hqueue, hentries⟩ := State.handed_of_still he hseq
      rw [hgw]
      rw [hentries] at htable
      exact ⟨hqueue, htable⟩
    · obtain ⟨hqueue, hentries⟩ := State.handed_of_gone hgone
      rw [hgw]
      exact ⟨hqueue, hentries ▸ htable⟩
    · rw [hgw] at hlen hchanged
      have hne : (s.handed b r).gw.drainList ≠ [] := (enterDrainList_changed hchanged).2
      have hdrains := State.delivered_stagesDrains hrun hrole hmute hchanged hfill hbuild hstaged
      rw [← hgw] at hlen hne
      subst ht
      exact hdrains.engineSettle (by simpa using hne) (by simpa using hlen)
  · obtain ⟨hrest, -⟩ := State.delivered_settles (s := s) b r rfl
    refine ⟨_, exec_exportNextCompletion_inHand hhand, ?_⟩
    have hgw : (s.delivered b r).selectorSettle.engineSettle.gw = (s.handed b r).gw := by rw [hrest]
    rw [hgw]
    refine ⟨fun habsent hlen => ?_, fun habsent i is hlen hlist => ?_, fun before after i hlist hi hnodup => ?_⟩
    · have h := enterDrainList_appends (r := r) habsent hlen
      simp only [State.handed, h, Bool.false_eq_true, if_false, and_self]
    · have h := enterDrainList_pushes (r := r) (hlist ▸ habsent) hlen
      simp only [State.handed, hlist, h, if_true, true_and]
      rfl
    · obtain ⟨hflag, h⟩ := enterDrainList_listed (r := r) hi (hlist ▸ hnodup)
      simp only [State.handed, hlist, h, hflag, Bool.false_eq_true, if_false, and_self]

end

section
/-! PROOFS. The withdrawal check of a frame that lost its field (R127), at the waiting cap (O31) and in a field (O32). -/

namespace Sys2Proof.Machine

section
variable {s t : State} {f : FrameRec}

/-- The tests on STAGE do nothing at a frame that nothing listed goes ahead of, and that is eligible or has nothing to
give way to. -/
theorem State.selectorSettle_of_stands (hstage : s.sel.stage = some { frame := f, cond := .staged })
    (hsolicit : f.isSolicit = true → s.gw.drainList = []) (h : s.eligible f = true ∨ s.nextFrame = none) :
    s.selectorSettle = if s.running = true then s.buildAll else s := by
  have hstaged := Selector.staged_eq_some.2 hstage
  have hfirst : s.drainFirst = s := by
    refine if_neg ?_
    rw [hstaged]
    simp only [Option.any_some, Bool.and_eq_true, Bool.not_eq_true', not_and]
    intro hne hkind
    rw [hsolicit hkind] at hne
    cases hne
  have htest : s.rebuildTest = s := by
    refine if_neg ?_
    rw [State.stageEligible_of_staged hstage]
    rcases h with h | h
    · rw [h]
      simp
    · rw [State.nextFrame_eq_none.1 h]
      simp
  rw [State.selectorSettle, hfirst, htest]

/-- Such a frame stands. -/
theorem State.selectorSettle_stands (hstage : s.sel.stage = some { frame := f, cond := .staged })
    (hsolicit : f.isSolicit = true → s.gw.drainList = []) (h : s.eligible f = true ∨ s.nextFrame = none) :
    s.selectorSettle.sel.stage = some { frame := f, cond := .staged } := by
  rw [State.selectorSettle_of_stands hstage hsolicit h]
  split
  · rcases State.buildAll_stage (s := s) with hsame | ⟨hnone, -⟩
    · exact hsame.trans hstage
    · rw [hnone] at hstage
      cases hstage
  · exact hstage

/-- A STAGED frame that is not eligible gives way to what is admitted (R138). -/
theorem State.selectorSettle_gives_way (hrun : s.running = true) (hstage : s.sel.stage = some { frame := f, cond := .staged })
    (hkind : f.isSolicit = false) (hnot : s.eligible f = false) (hadmits : s.nextFrame ≠ none) :
    s.selectorSettle = s.withdrawBoth.selectorSettle := by
  have hstaged := Selector.staged_eq_some.2 hstage
  have hfirst : s.drainFirst = s := by
    refine if_neg ?_
    rw [hstaged]
    simp [hkind]
  have hadmits : s.admits = true := by
    by_contra k
    exact hadmits (State.nextFrame_eq_none.2 (by simpa using k))
  have htest : s.rebuildTest = s.withdrawBoth := by
    refine if_pos ?_
    rw [State.stageEligible_of_staged hstage, hstaged, hnot, hadmits]
    rfl
  rw [State.selectorSettle, if_pos hrun, hfirst, htest,
    State.selectorSettle_of_not_staged (s := s.withdrawBoth) hrun rfl]

/-- The frames built into empty slots. -/
theorem State.withdrawBoth_settle_frames {P : FrameRec → Prop} (h : ∀ f, s.withdrawBoth.mayBuild f → P f) :
    ∀ f ∈ s.withdrawBoth.selectorSettle.sel.frames, P f := fun f hf => by
  rcases (State.selectorSettle_reselects s.withdrawBoth).frames hf with hold | hmay
  · cases hold
  · exact h f hmay

/-! ### The withdrawal check (R127) -/

theorem State.lists_iff {i : BinId × Seq} : s.lists i = true ↔ ∃ x ∈ s.gw.drainList, (x.binId, x.seq) = i := by
  simp only [State.lists, List.any_eq_true, Bool.and_eq_true, beq_iff_eq, Prod.ext_iff]

theorem State.withdrawnAtLoss_fill {lead : Frozen} {rest : List Frozen} {probe : Bool}
    (hf : f.payload = .fill (lead :: rest) probe) :
    s.withdrawnAtLoss f = true ↔
      (∃ c ∈ lead :: rest,
        ∀ e ∈ s.table, e.report.binId = c.report.binId → e.report.seq = c.report.seq → e.owing ≠ .owed) ∨
      ∃ e ∈ s.table, e.owing = .owed ∧ e.placed = .unplaced ∧ e.report.cls < lead.report.cls := by
  have hrefs : f.refs = (lead :: rest).map fun c => (c.report.binId, c.report.seq) := by
    rw [FrameRec.refs, hf]
  simp only [State.withdrawnAtLoss, hf, List.head?_cons, Bool.or_eq_true, Bool.not_eq_true', List.all_eq_false, hrefs,
    List.mem_map, exists_exists_and_eq_and, Bool.not_eq_true, List.any_eq_true, Bool.and_eq_true, decide_eq_true_eq,
    Entry.candidate_iff, and_assoc]
  refine or_congr_left (exists_congr fun c => and_congr_right fun _ => ?_)
  rw [← Bool.not_eq_true, State.owes_iff]
  exact ⟨fun h e he hid hseq howed => h ⟨e, he, hid, hseq, howed⟩, fun h ⟨e, he, hid, hseq, howed⟩ => h e he hid hseq howed⟩

theorem State.withdrawnAtLoss_drain {items : List (BinId × Seq)} (hf : f.payload = .drain items)
    (hmute : s.mon.standing ≠ .mute) :
    s.withdrawnAtLoss f = true ↔
      (∃ i ∈ items, ∀ x ∈ s.gw.drainList, (x.binId, x.seq) ≠ i) ∨ ∃ x ∈ s.gw.drainList, ¬ s.sel.announces x := by
  simp only [State.withdrawnAtLoss, hf, Bool.or_eq_true, Bool.not_eq_true', List.all_eq_false]
  refine or_congr (exists_congr fun i => and_congr_right fun _ => ?_) ?_
  · rw [State.lists_iff]
    exact ⟨fun h x hx k => h ⟨x, hx, k⟩, fun h ⟨x, hx, k⟩ => h x hx k⟩
  · have hcarries : ∀ x, s.sel.carriesItem x = false ↔ ¬ s.sel.announces x := fun x => by
      rw [← Selector.carriesItem_iff, Bool.not_eq_true]
    rw [← Bool.not_eq_true, List.isEmpty_iff]
    refine ⟨fun h => ?_, fun ⟨x, hx, hnot⟩ hempty => ?_⟩
    · obtain ⟨x, hx⟩ := List.exists_mem_of_ne_nil _ h
      obtain ⟨-, hx, hnot⟩ := State.mem_admittedItems.1 hx
      exact ⟨x, hx, (hcarries x).1 hnot⟩
    · have hadmitted := State.mem_admittedItems.2 ⟨hmute, hx, (hcarries x).2 hnot⟩
      rw [hempty] at hadmitted
      cases hadmitted

theorem State.withdrawnAtLoss_solicit {target : Target} {n : Nat} (hf : f.payload = .solicit target n) :
    s.withdrawnAtLoss f = true ↔ (∀ p, s.gw.solicit = some p → p.serial ≠ n) ∨ s.gw.drainList ≠ [] := by
  simp only [State.withdrawnAtLoss, hf, Bool.or_eq_true, Bool.not_eq_true', List.isEmpty_eq_false_iff]
  refine or_congr_left ?_
  cases s.gw.solicit <;> simp

theorem State.afterLoss_withdrawn (h : s.withdrawnAtLoss f = true) : s.afterLoss f = s.withdrawBoth := if_pos h

theorem State.afterLoss_stands (h : s.withdrawnAtLoss f = false) :
    s.afterLoss f = { s with sel := { s.sel with stage := some { frame := f, cond := .staged } } } :=
  if_neg (by rw [h]; nofun)

/-- Beside a frame in STAGE nothing but an admitted candidate is built in the bin role. -/
theorem State.nextFrame_none_of_stage (hrole : s.role = .bin) (hstage : s.sel.stage ≠ none)
    (h : ∀ e ∈ s.table, ¬ s.mayFill e) : s.nextFrame = none := by
  have hprobe : s.probeEntry = none := if_neg fun ⟨_, _, _, k⟩ => hstage k
  have hadmitted : s.admittedEntries = [] := List.eq_nil_iff_forall_not_mem.2 fun e he => by
    obtain ⟨hmem, hmay⟩ := State.mem_admittedEntries.1 he
    exact h e hmem hmay
  rw [State.nextFrame_eq_none, State.admits, hrole, hprobe, hadmitted]
  rfl

/-- A FILL frame's check in the bin role. -/
theorem State.fieldLost_fill {lead : Frozen} {rest : List Frozen} {probe : Bool}
    (hstage : s.sel.stage = some { frame := f, cond := .committed }) (hrun : s.running = true) (hrole : s.role = .bin)
    (hf : f.payload = .fill (lead :: rest) probe) :
    (s.withdrawnAtLoss f = false →
      (s.eligible f = true ∨ (∀ e ∈ s.table, ¬ s.mayFill e) →
        s.fieldLost.sel.stage = some { frame := f, cond := .staged }) ∧
      (s.eligible f = false → (∃ e ∈ s.table, s.mayFill e) → s.fieldLost.stageRebuilt)) ∧
    (s.withdrawnAtLoss f = true → s.fieldLost.stageRebuilt ∧ ∀ g ∈ s.fieldLost.sel.frames, s.namesOwed g) := by
  have hkind : f.isSolicit = false := by simp [FrameRec.isSolicit, hf]
  rw [State.fieldLost_of_committed hstage]
  refine ⟨fun hstands => ?_, fun hwithdrawn => ?_⟩
  · rw [State.afterLoss_stands hstands]
    set v : State := { s with sel := { s.sel with stage := some { frame := f, cond := .staged } } } with hv
    refine ⟨fun h => ?_, fun hnot ⟨e, he, hmay⟩ => ?_⟩
    · refine State.selectorSettle_stands (s := v) rfl (fun k => absurd (hkind.symm.trans k) nofun) (h.imp id fun h => ?_)
      exact State.nextFrame_none_of_stage (s := v) hrole nofun h
    · have hnext : v.nextFrame ≠ none := fun hnone => State.not_mayFill_of_nextFrame (s := v) hnone hrole e he hmay
      rw [State.selectorSettle_gives_way (s := v) hrun rfl hkind hnot hnext]
      exact State.withdrawBoth_settle (s := v) hrun hrole
  · rw [State.afterLoss_withdrawn hwithdrawn]
    refine ⟨State.withdrawBoth_settle hrun hrole, State.withdrawBoth_settle_frames fun g hg => ?_⟩
    exact s.builds_namesOwed s.withdrawBoth g rfl rfl (State.withdrawBoth_sameAside s) hg

/-- A DRAIN or SOLICIT frame's check, of a frame that is withdrawn. -/
theorem State.fieldLost_withdrawn (hstage : s.sel.stage = some { frame := f, cond := .committed })
    (hrun : s.running = true) (hrole : s.role = .gateway) (hmute : s.mon.standing ≠ .mute)
    (hwithdrawn : s.withdrawnAtLoss f = true) :
    s.fieldLost.stagesDrains ∧ ∀ g ∈ s.fieldLost.sel.frames,
      (∃ items, g.payload = .drain items ∧ ∀ i ∈ items, ∃ x ∈ s.gw.drainList, (x.binId, x.seq) = i) ∨
        ∃ p target, s.gw.solicit = some p ∧ g.payload = .solicit target p.serial := by
  rw [State.fieldLost_of_committed hstage, State.afterLoss_withdrawn hwithdrawn]
  refine ⟨State.selectorSettle_stagesDrains (s := s.withdrawBoth) hrun hrole hmute (.inl ⟨rfl, rfl⟩),
    State.withdrawBoth_settle_frames fun g ⟨_, hmade⟩ => ?_⟩
  rw [show s.withdrawBoth.role = .gateway from hrole] at hmade
  exact hmade

/-- With nothing listed and no solicit to send a gateway builds nothing. -/
theorem State.nextFrame_none_of_idle (hrole : s.role = .gateway) (hlist : s.gw.drainList = [])
    (hactive : s.mon.standing ≠ .active) : s.nextFrame = none := by
  have hitems : s.admittedItems = [] := List.eq_nil_iff_forall_not_mem.2 fun i hi => by
    obtain ⟨-, hmem, -⟩ := State.mem_admittedItems.1 hi
    rw [hlist] at hmem
    cases hmem
  have hsolicit : s.admittedSolicit = none := Option.eq_none_iff_forall_ne_some.2 fun p hp =>
    hactive (State.admittedSolicit_eq_some.1 hp).1
  rw [State.nextFrame_eq_none, State.admits, hrole, hitems, hsolicit]
  rfl

/-- A frame that is not withdrawn is STAGED again (R127). -/
theorem State.fieldLost_stands (hstage : s.sel.stage = some { frame := f, cond := .committed })
    (hstands : s.withdrawnAtLoss f = false) (hsolicit : f.isSolicit = true → s.gw.drainList = [])
    (h : s.eligible f = true ∨ (s.role = .gateway ∧ s.gw.drainList = [] ∧ s.mon.standing ≠ .active)) :
    s.fieldLost.sel.stage = some { frame := f, cond := .staged } := by
  rw [State.fieldLost_of_committed hstage, State.afterLoss_stands hstands]
  refine State.selectorSettle_stands (s := { s with sel := { s.sel with stage := some { frame := f, cond := .staged } } })
    rfl hsolicit (h.imp id fun ⟨hrole, hlist, hactive⟩ => State.nextFrame_none_of_idle hrole hlist hactive)

theorem State.fieldLost_checked : s.checkedAtLoss s.fieldLost := by
  intro f hstage hrun
  refine ⟨fun lead rest probe hf hrole => ?_, fun items hf hrole hmute => ?_, fun target n hf hrole hmute => ?_⟩
  · obtain ⟨hstands, hwithdrawn⟩ := State.fieldLost_fill hstage hrun hrole hf
    have hiff := State.withdrawnAtLoss_fill (s := s) hf
    refine ⟨fun hall hless => hstands ?_, fun c hc hgone => ?_, fun hmore => (hwithdrawn (hiff.2 (.inr hmore))).1⟩
    · rw [← Bool.not_eq_true, hiff]
      rintro (⟨c, hc, hgone⟩ | ⟨e, he, howed, hplaced, hlt⟩)
      · obtain ⟨e, he, hid, hseq, howed⟩ := hall c hc
        exact hgone e he hid hseq howed
      · exact absurd (hless e he howed hplaced) (not_le.2 hlt)
    · obtain ⟨hrebuilt, hnames⟩ := hwithdrawn (hiff.2 (.inl ⟨c, hc, hgone⟩))
      refine ⟨hrebuilt, fun g hg hr => ?_⟩
      obtain ⟨e, he, hid, hseq, howed⟩ := State.owes_iff.1 (hnames g hg _ hr)
      exact hgone e he hid hseq howed
  · have hiff := State.withdrawnAtLoss_drain (s := s) hf hmute
    have hkind : f.isSolicit = false := by simp [FrameRec.isSolicit, hf]
    refine ⟨fun hlisted hannounced => ?_, fun i hi hnot g hg items' hitems' hi' => ?_, fun h =>
      (State.fieldLost_withdrawn hstage hrun hrole hmute (hiff.2 h)).1⟩
    · refine State.fieldLost_stands hstage ?_ (fun k => absurd (hkind.symm.trans k) nofun)
        (.inl (by simpa [State.eligible, hf] using hmute))
      rw [← Bool.not_eq_true, hiff]
      rintro (⟨i, hi, hnot⟩ | ⟨x, hx, hnot⟩)
      · obtain ⟨x, hx, hsame⟩ := hlisted i hi
        exact hnot x hx hsame
      · exact hnot (hannounced x hx)
    · obtain ⟨-, hframes⟩ := State.fieldLost_withdrawn hstage hrun hrole hmute (hiff.2 (.inl ⟨i, hi, hnot⟩))
      rcases hframes g hg with ⟨items'', hp, hlisted⟩ | ⟨p, target, -, hp⟩
      · rw [hitems'] at hp
        cases hp
        obtain ⟨x, hx, hsame⟩ := hlisted i hi'
        exact hnot x hx hsame
      · rw [hitems'] at hp
        cases hp
  · have hiff := State.withdrawnAtLoss_solicit (s := s) hf
    refine ⟨fun ⟨p, hp, hserial⟩ hlist => ?_, fun hother g hg target' hg' => ?_, ?_⟩
    · refine State.fieldLost_stands hstage ?_ (fun _ => hlist) ?_
      · rw [← Bool.not_eq_true, hiff]
        rintro (hother | hne)
        · exact hother p hp hserial
        · exact hne hlist
      · by_cases hactive : s.mon.standing = .active
        · exact .inl (by simp [State.eligible, hf, hactive])
        · exact .inr ⟨hrole, hlist, hactive⟩
    · obtain ⟨-, hframes⟩ := State.fieldLost_withdrawn hstage hrun hrole hmute (hiff.2 (.inl hother))
      rcases hframes g hg with ⟨items, hp, -⟩ | ⟨p, target'', hpending, hp⟩
      · rw [hg'] at hp
        cases hp
      · rw [hg'] at hp
        cases hp
        exact hother p hpending rfl
    · by_cases h : s.withdrawnAtLoss f = true
      · exact (State.fieldLost_withdrawn hstage hrun hrole hmute h).1
      · have hlist : s.gw.drainList = [] := by
          by_contra hne
          exact h (hiff.2 (.inr hne))
        rw [State.fieldLost_of_committed hstage, State.afterLoss_stands (by simpa using h)]
        intro hne
        rw [(State.selectorSettle_reselects _).gw] at hne
        exact absurd hlist hne

end

end Sys2Proof.Machine
end

section
/-! PROOFS. The waiting cap (O31), and the slots of the field (O32). -/

namespace Sys2Proof.Machine

section
variable {s : State}

/-- What the field outcome "lost" moves: nothing but the slots and the placements. -/
theorem State.fieldLost_onlySelects : s.onlySelects s.fieldLost := by
  refine ⟨?_, State.fieldLost_sameAside⟩
  have hkeeps := s.fieldLost_keeps
  generalize s.fieldLost = t at hkeeps
  obtain ⟨hpending, hrun, hconfig, hclock, hdue, -, hpair, hrefusals, hest, hmon, hgw, hport⟩ := hkeeps
  cases t
  cases hpending
  cases hrun
  cases hconfig
  cases hclock
  cases hdue
  cases hpair
  cases hrefusals
  cases hest
  cases hmon
  cases hgw
  cases hport
  rfl

/-- The engine of a contender that has lost (R25, R30). -/
def Engine.loses (e : Engine) : Engine := { e with part := .lost, lost := bump Config.count32Max e.lost }

theorem State.loseField_eq : s.loseField = State.fieldLost { s with eng := s.eng.loses } := rfl

/-- A contender whose engine stands at `e` loses. -/
theorem State.loseField_spec (e : Engine) :
    s.onlySelects (State.loseField { s with eng := e }) ∧ (State.loseField { s with eng := e }).eng = e.loses ∧
      s.checkedAtLoss (State.loseField { s with eng := e }) := by
  rw [State.loseField_eq]
  exact ⟨State.fieldLost_onlySelects (s := { s with eng := e.loses }), by simp,
    State.fieldLost_checked (s := { s with eng := e.loses })⟩

theorem State.loseField_uncommitted (h : s.sel.stageCond = some .committed) :
    s.loseField.sel.stageCond ≠ some .committed := by
  obtain ⟨f, hf⟩ := Selector.stageCond_eq_committed.1 h
  have hcore : s.loseField.sel.core = none := by
    rw [State.loseField_eq, State.fieldLost_of_committed (s := { s with eng := s.eng.loses }) hf,
      (State.selectorSettle_reselects _).core]
    exact State.afterLoss_core f
  intro k
  rw [Selector.stageCond_core (by decide), hcore] at k
  cases k

theorem exec_fieldSlot_field {carrier : Bool} (hstate : s.eng.state = .field) (hslot : s.eng.slot ≤ 16) :
    exec (.fieldSlot carrier) s = .next
      (if s.eng.part.contends && !s.eng.part.keys s.eng.slot && carrier then
        State.loseField { s with eng := s.eng.inSlot carrier }
      else { s with eng := s.eng.inSlot carrier }) :=
  if_pos ⟨hstate, Nat.lt_succ_of_le hslot⟩

theorem FieldPart.contends_iff {p : FieldPart} : p.contends = true ↔ ∃ key isFill, p = .contender key isFill := by
  cases p <;> simp [FieldPart.contends]

end

end Sys2Proof.Machine
end

section
open Sys2Proof Sys2Proof.Machine

/-- Settles O31: the engine in AWAKE under CARRIER stands, and the frame has gone through R127's check. -/
theorem wakingCapReportsLost : Obligations.WakingCapReportsLost := by
  intro s hstate hkey
  have honly := State.fieldLost_onlySelects (s := { s with eng := s.eng.enterAwake true })
  have heng : (State.fieldLost { s with eng := s.eng.enterAwake true }).eng = s.eng.enterAwake true := by simp
  have hexec : exec .wakingCap s = .next (State.fieldLost { s with eng := s.eng.enterAwake true }) := by
    refine (if_pos ⟨hstate, hkey⟩).trans (congrArg _ (State.engineSettle_of_not (.inr ?_)))
    rw [heng]
    rfl
  refine ⟨_, hexec, ⟨?_, honly.2⟩, ?_, ?_, ?_, ?_, State.fieldLost_checked (s := { s with eng := s.eng.enterAwake true })⟩
  · exact honly.1
  all_goals rw [heng]; rfl

/-- Settles O32: the slot keyed or listened to, and the loss. -/
theorem fieldSlotsAndLoss : Obligations.FieldSlotsAndLoss := by
  refine ⟨fun s carrier hstate hslot => ?_, fun s key isFill hstate hlo hhi hpart hkey => ?_⟩
  · have hexec := exec_fieldSlot_field (carrier := carrier) hstate hslot
    have hkeys : (∀ key isFill, s.eng.part = .contender key isFill →
          (s.eng.slot < 16 → s.eng.part.keys s.eng.slot = !key.getLsbD (15 - s.eng.slot)) ∧
            (s.eng.slot = 16 → s.eng.part.keys s.eng.slot = isFill)) ∧
        (s.eng.part = .listener ∨ s.eng.part = .lost → s.eng.part.keys s.eng.slot = false) := by
      refine ⟨fun key isFill hpart => ?_, fun h => ?_⟩
      · rw [hpart]
        exact ⟨fun h => if_pos h, fun h => if_neg (by rw [h]; decide)⟩
      · rcases h with h | h <;> rw [h] <;> rfl
    by_cases hlost : s.eng.part.contends && !s.eng.part.keys s.eng.slot && carrier
    · rw [if_pos hlost] at hexec
      obtain ⟨honly, heng, hchecked⟩ := s.loseField_spec (s.eng.inSlot carrier)
      refine ⟨_, _, hexec, honly, hkeys.1, hkeys.2, ?_⟩
      rw [heng]
      obtain ⟨hlistens, rfl⟩ := (Bool.and_eq_true ..).mp hlost
      obtain ⟨hcontends, hnot⟩ := (Bool.and_eq_true ..).mp hlistens
      have hnot : s.eng.part.keys s.eng.slot = false := by simpa using hnot
      obtain ⟨key, isFill, hpart⟩ := FieldPart.contends_iff.1 hcontends
      refine ⟨rfl, fun k => absurd (hnot.symm.trans k) nofun, rfl, fun _ _ _ => ⟨rfl, rfl, hchecked⟩, ?_⟩
      rintro (h | h | h | h)
      · rw [hnot] at h
        cases h
      · cases h
      · rw [hpart] at h
        cases h
      · rw [hpart] at h
        cases h
    · rw [if_neg hlost] at hexec
      refine ⟨_, _, hexec, ⟨rfl, rfl⟩, hkeys.1, hkeys.2, rfl, fun k => if_pos k, rfl, fun hnot hcarrier hpart => ?_,
        fun _ => ⟨rfl, rfl, rfl, rfl⟩⟩
      exact absurd (by rw [FieldPart.contends_iff.2 hpart, hnot, hcarrier]; rfl) hlost
  · have hcontends : s.eng.part.contends = true := FieldPart.contends_iff.2 ⟨key, isFill, hpart⟩
    obtain ⟨honly, heng, hchecked⟩ := s.loseField_spec
      { s.eng with kindObs := if s.eng.slot = Config.fieldSlots then some true else s.eng.kindObs }
    refine ⟨_, if_pos ⟨hstate, hlo, hcontends, hkey⟩, honly, heng, fun h => ?_, hchecked⟩
    exact State.loseField_uncommitted (s := { s with eng := { s.eng with
      kindObs := if s.eng.slot = Config.fieldSlots then some true else s.eng.kindObs } }) h

end

section
/-! PROOFS. A change of the monitor at the selector (R136, R138, R144), and good frames (O35). -/

namespace Sys2Proof.Machine

section
variable {s : State} {m : Monitor}

/-- What the monitor's new state moves besides the monitor: STANDING, where the standing changes, and the selector. -/
theorem State.setMonitor_rest (m : Monitor) : s.setMonitor m = { s with
    mon := m, table := (s.setMonitor m).table,
    sel := { s.sel with build := (s.setMonitor m).sel.build, stage := (s.setMonitor m).sel.stage },
    port := { s.port with
      flags := if m.standing = s.mon.standing then s.port.flags else s.port.flags ||| 0x80 } } := by
  rcases s.setMonitor_cases m with ⟨k, h⟩ | ⟨k, -, h⟩ | ⟨k, -, -, h⟩ | ⟨k, -, -, h⟩ <;> rw [h]
  · rw [if_pos k]
  · rw [if_neg k]
    exact (State.enterMute_reselects _).rest
  · rw [if_neg k]
    have hunprobed := (State.raise .standing { s with mon := m }).unprobed_eq
    generalize (State.raise .standing { s with mon := m }).unprobed = u at hunprobed
    have hrest := u.selectorSettle_reselects.rest
    generalize u.selectorSettle = t at hrest
    conv_lhs => rw [hrest, hunprobed]
    rfl
  · rw [if_neg k]
    exact (State.selectorSettle_reselects _).rest

theorem State.setMonitor_moves_only (m : Monitor) : s.setMonitor m = { s with
    mon := m, table := (s.setMonitor m).table, sel := (s.setMonitor m).sel,
    port := { s.port with flags := (s.setMonitor m).port.flags } } := by
  have hrest := s.setMonitor_rest m
  generalize s.setMonitor m = t at hrest ⊢
  conv_lhs => rw [hrest]
  conv_rhs => rw [hrest]

theorem State.setMonitor_of_same (h : m.standing = s.mon.standing) : s.setMonitor m = { s with mon := m } := if_pos h

theorem State.setMonitor_settles (h : m.standing ≠ s.mon.standing) : (s.setMonitor m).settled := by
  rcases s.setMonitor_cases m with ⟨k, -⟩ | ⟨-, -, k⟩ | ⟨-, -, -, k⟩ | ⟨-, -, -, k⟩
  · exact absurd k h
  all_goals rw [k]; exact State.selectorSettle_settled _

/-- A STAGED probe stands on as an ordinary frame where MUTE is left and its lead is exempt (R136). -/
theorem State.setMonitor_unprobes {g : FrameRec} {lead : Frozen} {rest : List Frozen} (hmute : s.mon.standing = .mute)
    (hleft : m.standing ≠ .mute) (hg : g.payload = .fill (lead :: rest) true)
    (hstage : s.sel.stage = some { frame := g, cond := .staged }) (hexempt : lead.origin = .own ∨ lead.report.cls = 0) :
    (s.setMonitor m).sel.stage = some { frame := { g with payload := .fill (lead :: rest) false }, cond := .staged } := by
  obtain ⟨key, payload⟩ := g
  obtain rfl : payload = .fill (lead :: rest) true := hg
  rcases s.setMonitor_cases m with ⟨k, -⟩ | ⟨-, k, -⟩ | ⟨-, -, -, k⟩ | ⟨-, -, k, -⟩
  · exact absurd (k.trans hmute) hleft
  · exact absurd k hleft
  · rw [k]
    have hunprobed : (State.raise .standing { s with mon := m }).unprobed =
        { State.raise .standing { s with mon := m } with
          sel := { s.sel with stage := some ⟨⟨key, .fill (lead :: rest) false⟩, .staged⟩ } } := by
      simp only [State.unprobed, State.raise, hstage]
    rw [hunprobed]
    refine State.selectorSettle_stands rfl (fun h => absurd h nofun) (.inl ?_)
    rw [State.eligible_fill_iff (lead := lead) (rest := rest) (probe := false) rfl]
    exact .inr (.inl ⟨hleft, hexempt⟩)
  · exact absurd hmute k

/-! ### The hand-over of a good frame (R103, R104) -/

/-- What a hand-over moves. -/
theorem State.handOver_rest (f : RxFrame) : s.handOver f =
    { s with pair := (s.handOver f).pair, port := { s.port with flags := (s.handOver f).port.flags } } := by
  unfold State.handOver
  dsimp only
  split_ifs <;> rfl

theorem State.handOver_clash {f : RxFrame} (h : f.sender = s.cfg.stationId) :
    (s.handOver f).pair = { s.pair with clash := min 65535 (s.pair.clash + 1) } ∧
      (s.handOver f).port.flags = s.port.flags := by
  rw [State.handOver, if_pos h]
  exact ⟨rfl, rfl⟩

theorem State.handOver_first {f : RxFrame} (h : f.sender ≠ s.cfg.stationId) (hmerging : s.pair.merging = none) :
    (s.handOver f).pair = { s.pair with merging := some { frame := f, cursor := 0 } } ∧
      (s.handOver f).port.flags = s.port.flags := by
  simp only [State.handOver, if_neg h, ReceivePair.place, hmerging, Bool.false_eq_true, if_false, and_self]

theorem State.handOver_second {f : RxFrame} (h : f.sender ≠ s.cfg.stationId) (hmerging : s.pair.merging ≠ none)
    (hwaiting : s.pair.waiting = none) :
    (s.handOver f).pair = { s.pair with waiting := some f } ∧ (s.handOver f).port.flags = s.port.flags := by
  obtain ⟨x, hx⟩ := Option.ne_none_iff_exists'.1 hmerging
  simp only [State.handOver, if_neg h, ReceivePair.place, hx, hwaiting, Bool.false_eq_true, if_false, and_self]

theorem State.handOver_third {f : RxFrame} (h : f.sender ≠ s.cfg.stationId) (hmerging : s.pair.merging ≠ none)
    (hwaiting : s.pair.waiting ≠ none) :
    (s.handOver f).pair = { s.pair with waiting := some f, overrun := min 65535 (s.pair.overrun + 1) } ∧
      (s.handOver f).port.flags = s.port.flags ||| 0x40 := by
  obtain ⟨x, hx⟩ := Option.ne_none_iff_exists'.1 hmerging
  obtain ⟨y, hy⟩ := Option.ne_none_iff_exists'.1 hwaiting
  simp only [State.handOver, if_neg h, ReceivePair.place, hx, hy, if_true]
  exact ⟨rfl, rfl⟩

/-- The flags of a hand-over: OVERRUN at an overwrite alone. -/
theorem State.handOver_flags {f : RxFrame} {clash : Bool} (h : clash = true ↔ f.sender = s.cfg.stationId) (i : Nat) :
    (s.handOver f).port.flags.getLsbD i =
      (s.port.flags.getLsbD i || (i == 6 && !clash && s.pair.merging.isSome && s.pair.waiting.isSome)) := by
  cases clash with
  | true =>
    rw [(State.handOver_clash (h.1 rfl)).2]
    simp
  | false =>
    have hsender : f.sender ≠ s.cfg.stationId := fun k => absurd (h.2 k) nofun
    by_cases hmerging : s.pair.merging = none
    · rw [(State.handOver_first hsender hmerging).2, hmerging]
      simp
    · by_cases hwaiting : s.pair.waiting = none
      · rw [(State.handOver_second hsender hmerging hwaiting).2, hwaiting]
        simp
      · rw [(State.handOver_third hsender hmerging hwaiting).2, BitVec.getLsbD_or,
          show (0x40 : FlagSet) = Notice.overrun.bit from rfl, Notice.bit_getLsbD,
          Option.isSome_iff_ne_none.2 hmerging, Option.isSome_iff_ne_none.2 hwaiting, Bool.eq_iff_iff]
        simp [Notice.vector]

/-- The engine that has taken a good frame (R17, R19). -/
def Engine.echoes (standing : Standing) (e : Engine) : Engine :=
  ({ e with heard := bump Config.count32Max e.heard } : Engine).enterEchoing standing

theorem State.goodFrame_eq {f : RxFrame} {clash : Bool} (monitorFirst : Bool)
    (h : clash = true ↔ f.sender = s.cfg.stationId) :
    s.goodFrame f monitorFirst =
      { (s.handOver f).setMonitor (s.mon.good clash) with
        eng := s.eng.echoes (if monitorFirst = true then (s.mon.good clash).standing else s.mon.standing) } := by
  have hclash : decide (f.sender = s.cfg.stationId) = clash := by
    rw [Bool.eq_iff_iff, decide_eq_true_eq]
    exact h.symm
  have hmon : (s.handOver f).mon = s.mon := by rw [State.handOver_rest]
  have heng : ((s.handOver f).setMonitor (s.mon.good clash)).eng = s.eng := by
    rw [State.setMonitor_rest, State.handOver_rest]
  have hstanding : ((s.handOver f).setMonitor (s.mon.good clash)).mon.standing = (s.mon.good clash).standing := by
    rw [State.setMonitor_rest]
  simp only [State.goodFrame, State.monitorGood, hclash, hmon, heng, hstanding]
  rfl

theorem judge_good_rxTime {rxd : List Bool} {seen : Option Bool} {second : Nat} {f : RxFrame}
    (h : judge rxd seen second = .good f) : f.rxTime = second := by
  obtain ⟨kept, body, -, -, -, hread⟩ := judge_good h
  unfold readBody at hread
  dsimp only at hread
  split_ifs at hread
  · obtain ⟨es, -, rfl⟩ := Option.map_eq_some_iff.1 hread
    rfl
  · cases hread
    rfl
  · obtain ⟨is, -, rfl⟩ := Option.map_eq_some_iff.1 hread
    rfl

end

end Sys2Proof.Machine
end

section
open Sys2Proof Sys2Proof.Machine

/-- Settles O35: the hand-over, the monitor's report of it, and the echo by the standing of the order taken. -/
theorem goodFrameIsHandedOver : Obligations.GoodFrameIsHandedOver := by
  intro s rxd monitorFirst clash f hstate honAir hgood hclash
  have hexec : exec (.goodFrame rxd monitorFirst) s = .next (s.goodFrame f monitorFirst) := by
    refine (if_pos ⟨hstate, Option.isSome_iff_ne_none.2 honAir⟩).trans ?_
    rw [hgood]
  have hv := s.handOver_rest f
  have hu := (s.handOver f).setMonitor_rest (s.mon.good clash)
  have hmoves := (s.handOver f).setMonitor_moves_only (s.mon.good clash)
  have htable := (s.handOver f).setMonitor_sameAside (s.mon.good clash)
  have hsame := State.setMonitor_of_same (s := s.handOver f) (m := s.mon.good clash)
  have hsettles := State.setMonitor_settles (s := s.handOver f) (m := s.mon.good clash)
  have hunprobes := fun g lead rest => State.setMonitor_unprobes (s := s.handOver f) (m := s.mon.good clash) (g := g)
    (lead := lead) (rest := rest)
  have hflags := State.handOver_flags (s := s) (f := f) hclash
  refine ⟨_, hexec, judge_good_rxTime hgood, ?_⟩
  rw [State.goodFrame_eq monitorFirst hclash]
  generalize (s.handOver f).setMonitor (s.mon.good clash) = u at *
  have hmon : (s.handOver f).mon = s.mon := by rw [hv]
  have hsel : (s.handOver f).sel = s.sel := by rw [hv]
  have hentries : (s.handOver f).table = s.table := by rw [hv]
  have hpair : u.pair = (s.handOver f).pair := by rw [hu]
  have humon : u.mon = s.mon.good clash := by rw [hu]
  have huflags : u.port.flags = if (s.mon.good clash).standing = s.mon.standing then (s.handOver f).port.flags
      else (s.handOver f).port.flags ||| 0x80 := by rw [hu, hmon]
  have hrest : u = { s with
      pair := u.pair, mon := s.mon.good clash, sel := u.sel, table := u.table,
      port := { s.port with flags := u.port.flags } } := by
    rw [hpair]
    conv_lhs => rw [hmoves, hv]
  rw [hmon] at hsame hsettles hunprobes
  rw [hentries] at htable
  refine ⟨?_, htable, fun hstanding => ?_, fun hchanged => hsettles (humon ▸ hchanged),
    fun hmute hleft g lead rest hg hstage hexempt => ?_,
    rfl, ?_, ?_, ?_, ?_, ?_, fun i => ?_⟩
  · conv_lhs => rw [hrest]
  · have hstanding' := hsame (humon ▸ hstanding)
    exact ⟨(congrArg State.sel hstanding').trans hsel, (congrArg State.table hstanding').trans hentries⟩
  · exact hunprobes g lead rest hmute (humon ▸ hleft) hg (hsel ▸ hstage) hexempt
  · change (_ == _) = true ↔ _
    rw [beq_iff_eq, humon]
  · exact fun hc => hpair.trans (State.handOver_clash (hclash.1 hc)).1
  · exact fun hc hmerging => hpair.trans (State.handOver_first (fun k => by rw [hclash.2 k] at hc; cases hc) hmerging).1
  · exact fun hc hmerging hwaiting =>
      hpair.trans (State.handOver_second (fun k => by rw [hclash.2 k] at hc; cases hc) hmerging hwaiting).1
  · exact fun hc hmerging hwaiting =>
      hpair.trans (State.handOver_third (fun k => by rw [hclash.2 k] at hc; cases hc) hmerging hwaiting).1
  · change u.port.flags.getLsbD i = _
    rw [huflags, ← humon]
    by_cases hstanding : u.mon.standing = s.mon.standing
    · rw [if_pos hstanding, hflags, show (u.mon.standing != s.mon.standing) = false by simp [hstanding], Bool.and_false,
        Bool.or_false]
    · rw [if_neg hstanding, BitVec.getLsbD_or, hflags, show (0x80 : FlagSet) = Notice.standing.bit from rfl,
        Notice.bit_getLsbD, show (u.mon.standing != s.mon.standing) = true by simp [hstanding], Bool.and_true,
        show decide (i + Notice.standing.vector = 8) = (i == 7) by
          rw [Bool.eq_iff_iff, decide_eq_true_eq, beq_iff_eq, Notice.vector]
          omega]
      ac_rfl

end

section
/-! PROOFS. The echo outcome: the engine back in AWAKE, the drain list and the solicit (O37). -/

namespace Sys2Proof.Machine

section
variable {s u : State}

/-! ### Back in AWAKE (R6, R20) -/

/-- The engine back in AWAKE has a gap of 0 and its linger restarted, so it stays there. -/
theorem State.frameEnd_engineSettle (carrier : Bool) :
    (u.frameEnd carrier).engineSettle = { u with eng := u.awakeAgain carrier u.eng } := by
  have hend : u.frameEnd carrier = { u with eng := u.awakeAgain carrier u.eng } := by
    unfold State.frameEnd State.startLinger State.awakeAgain
    have hrole : ({ u with eng := u.eng.enterAwake carrier } : State).role = u.role := rfl
    rw [hrole]
    split
    · simp only [Engine.enterAwake]
      rfl
    · simp only [Engine.enterAwake]
  rw [hend]
  cases helig : State.stageEligible { u with eng := u.awakeAgain carrier u.eng } with
  | true =>
    refine State.engineSettle_waits helig ?_
    have := Standing.le_gap u.mon.standing
    change 0 < u.mon.standing.gap
    omega
  | false =>
    refine State.engineSettle_stays helig ?_
    cases hrole : u.role with
    | gateway => exact .inl hrole
    | bin => exact .inr (.inl (if_pos hrole))

end

/-! ### The drain list after an outcome (R133) -/

section
variable {g : Gateway} {items : List (BinId × Seq)} {sendLimit : Nat} {f : FrameRec}

theorem Gateway.afterOutcome_fill (echoed : Bool) (hf : f.isFill = true) : g.afterOutcome echoed sendLimit f = g := by
  unfold Gateway.afterOutcome
  cases hp : f.payload <;> simp_all [FrameRec.isFill]

/-- ECHOED: the items announced leave. -/
theorem Gateway.afterOutcome_echoed (hf : f.payload = .drain items) :
    g.afterOutcome true sendLimit f =
      { g with drainList := g.drainList.filter (fun i => decide ((i.binId, i.seq) ∉ items)) } := by
  have hcontains : ∀ i : DrainItem, (!items.contains (i.binId, i.seq)) = decide ((i.binId, i.seq) ∉ items) := fun i => by
    rw [List.contains_eq_mem, decide_not]
  simp only [Gateway.afterOutcome, hf]
  split
  · next hempty =>
    rw [List.isEmpty_iff, List.filter_eq_nil_iff] at hempty
    have hall : g.drainList.filter (fun i => decide ((i.binId, i.seq) ∉ items)) = g.drainList :=
      List.filter_eq_self.2 fun i hi => by simpa using hempty i hi
    rw [hall]
  · simp only [Gateway.drainedBy, if_true, hcontains]

/-- An announced item counted once more, where the frame was UNECHOED (R133). -/
def DrainItem.counted (items : List (BinId × Seq)) (i : DrainItem) : DrainItem :=
  if (i.binId, i.seq) ∈ items then { i with sent := min 7 (i.sent + 1) } else i

/-- The item stays in the list after an UNECHOED frame (R133). -/
def DrainItem.stays (items : List (BinId × Seq)) (sendLimit : Nat) (i : DrainItem) : Bool :=
  decide ((i.binId, i.seq) ∉ items ∨ i.sent < sendLimit)

/-- The list after an UNECHOED frame, and how many items were dropped. -/
theorem filterMap_unechoed (l : List DrainItem) :
    l.filterMap (fun i => if items.contains (i.binId, i.seq) then i.unechoed sendLimit else some i) =
        (l.map (DrainItem.counted items)).filter (DrainItem.stays items sendLimit) ∧
      l.length = ((l.map (DrainItem.counted items)).filter (DrainItem.stays items sendLimit)).length +
        ((l.filter (fun i => items.contains (i.binId, i.seq))).filter
          (fun i => (i.unechoed sendLimit).isNone)).length := by
  induction l with
  | nil => exact ⟨rfl, rfl⟩
  | cons i l ih =>
    obtain ⟨hlist, hlen⟩ := ih
    rw [List.filterMap_cons, List.map_cons, List.filter_cons, List.filter_cons, hlist]
    by_cases hmem : (i.binId, i.seq) ∈ items
    · have hcontains : items.contains (i.binId, i.seq) = true := by simpa using hmem
      have hcounted : DrainItem.counted items i = { i with sent := min 7 (i.sent + 1) } := if_pos hmem
      by_cases hlimit : sendLimit ≤ min 7 (i.sent + 1)
      · have hnone : i.unechoed sendLimit = none := if_pos hlimit
        have hstays : DrainItem.stays items sendLimit (DrainItem.counted items i) = false := by
          rw [hcounted]
          exact decide_eq_false fun k => k.elim (fun k => k hmem) (Nat.not_lt.2 hlimit)
        simp only [hcontains, if_true, hnone, hstays, Bool.false_eq_true, if_false, List.filter_cons, Option.isNone_none,
          List.length_cons, true_and]
        omega
      · have hsome : i.unechoed sendLimit = some (DrainItem.counted items i) := by
          rw [hcounted]
          exact if_neg hlimit
        have hstays : DrainItem.stays items sendLimit (DrainItem.counted items i) = true := by
          rw [hcounted]
          exact decide_eq_true (.inr (Nat.not_le.1 hlimit))
        simp only [hcontains, if_true, hsome, hstays, List.filter_cons, Option.isNone_some, Bool.false_eq_true, if_false,
          List.length_cons, true_and]
        omega
    · have hcontains : items.contains (i.binId, i.seq) = false := by simpa using hmem
      have hcounted : DrainItem.counted items i = i := if_neg hmem
      have hstays : DrainItem.stays items sendLimit i = true := decide_eq_true (.inl hmem)
      simp only [hcontains, Bool.false_eq_true, if_false, hcounted, hstays, if_true, List.length_cons, true_and]
      omega

/-- UNECHOED: the items announced are counted, and dropped and counted at the send limit. -/
theorem Gateway.afterOutcome_unechoed (hf : f.payload = .drain items) :
    g.afterOutcome false sendLimit f = { g with
        drainList := (g.drainList.map (DrainItem.counted items)).filter (DrainItem.stays items sendLimit),
        drainDrop := (g.afterOutcome false sendLimit f).drainDrop } ∧
      (g.drainDrop ≤ 65535 → (g.afterOutcome false sendLimit f).drainDrop = min 65535 (g.drainDrop +
        (g.drainList.length -
          ((g.drainList.map (DrainItem.counted items)).filter (DrainItem.stays items sendLimit)).length))) := by
  obtain ⟨hlist, hlen⟩ := filterMap_unechoed (items := items) (sendLimit := sendLimit) g.drainList
  simp only [Gateway.afterOutcome, hf]
  split
  · next hempty =>
    have hnone := List.isEmpty_iff.1 hempty
    rw [List.filter_eq_nil_iff] at hnone
    have hsame : g.drainList.filterMap
        (fun i => if items.contains (i.binId, i.seq) then i.unechoed sendLimit else some i) = g.drainList := by
      rw [List.filterMap_congr fun i hi => if_neg (hnone i hi), List.filterMap_some]
    rw [← hlist, hsame]
    exact ⟨rfl, fun h => by omega⟩
  · have hdrained : g.drainedBy false sendLimit items = { g with
        drainList := (g.drainList.map (DrainItem.counted items)).filter (DrainItem.stays items sendLimit),
        drainDrop := (g.drainedBy false sendLimit items).drainDrop } := by
      rw [← hlist]
      rfl
    refine ⟨hdrained, fun _ => ?_⟩
    change min 65535 (g.drainDrop + _) = _
    congr 2
    omega

/-! ### The pending solicit after an outcome (R134) -/

theorem Gateway.afterOutcome_pending {echoed : Bool} {target : Target} {n : Nat} {p : PendingSolicit}
    (hf : f.payload = .solicit target n) (hp : g.solicit = some p) (hn : p.serial = n) :
    g.afterOutcome echoed sendLimit f = { g with
      solicit := if echoed = true ∨ sendLimit ≤ min 7 (p.sent + 1) then none
        else some { p with sent := min 7 (p.sent + 1) } } := by
  have hcond : (echoed || decide (sendLimit ≤ bump Config.smallCountMax p.sent)) = true ↔
      echoed = true ∨ sendLimit ≤ min 7 (p.sent + 1) := by
    rw [Bool.or_eq_true, decide_eq_true_eq]
    rfl
  simp only [Gateway.afterOutcome, hf, Gateway.solicitedBy, hp, hn, ne_eq, not_true_eq_false, if_false, hcond]
  split <;> rfl

theorem Gateway.afterOutcome_other {echoed : Bool} {target : Target} {n : Nat} (hf : f.payload = .solicit target n)
    (hn : ∀ p, g.solicit = some p → p.serial ≠ n) : g.afterOutcome echoed sendLimit f = g := by
  simp only [Gateway.afterOutcome, hf, Gateway.solicitedBy]
  split
  · rfl
  · next p hp => exact if_pos (hn p hp)

end

end Sys2Proof.Machine
end

section
/-! PROOFS. The echo outcome at the slots: the frame that moves up, MUTE, the drain list, and the notices (O37). -/

namespace Sys2Proof.Machine

section
variable {s u : State} {f g : FrameRec} {m : Monitor} {e : Entry}

/-! ### Entries placed in STAGE stand while building runs -/

theorem State.mem_buildOne (hw : tableWf s.table) (he : e ∈ s.table) (hplaced : e.placed ≠ .unplaced) :
    e ∈ s.buildOne.table := by
  unfold State.buildOne
  split
  · exact he
  · rcases hnext : s.nextFrame with _ | ⟨h, bins⟩
    · exact he
    · have hkeeps : ∀ p, e ∈ placeBins bins p s.table := fun p => by
        refine List.mem_map.2 ⟨e, he, if_neg fun k => hplaced ?_⟩
        exact State.nextFrame_unplaced hw hnext he (by simpa using k)
      dsimp only
      split
      · exact hkeeps _
      · exact hkeeps _

theorem State.mem_buildAll (hw : tableWf s.table) (he : e ∈ s.table) (hplaced : e.placed ≠ .unplaced) :
    e ∈ s.buildAll.table :=
  State.mem_buildOne (tableWf_of_samePlacesAside s.buildOne_reselects.table hw) (State.mem_buildOne hw he hplaced)
    hplaced

theorem State.selectorSettle_keeps_placed (hstage : s.sel.stage = some { frame := f, cond := .staged })
    (hkind : f.isSolicit = false) (helig : s.eligible f = true) (hw : tableWf s.table) (he : e ∈ s.table)
    (hplaced : e.placed ≠ .unplaced) : e ∈ s.selectorSettle.table := by
  rw [State.selectorSettle_of_stands hstage (fun k => absurd (hkind.symm.trans k) nofun) (.inl helig)]
  split
  · exact State.mem_buildAll hw he hplaced
  · exact he

/-- Beside a frame that is not STAGED a full BUILD leaves the selector nothing to do. -/
theorem State.selectorSettle_of_built (hstaged : s.sel.staged = none) (hbuild : s.sel.build ≠ none) :
    s.selectorSettle = s := by
  cases hrun : s.running with
  | false => exact if_neg (by simp [hrun])
  | true =>
    rw [State.selectorSettle_of_not_staged hrun hstaged, State.buildAll, State.buildOne_of_built hbuild,
      State.buildOne_of_built hbuild]

/-! ### The frame in BUILD moves up (R135) -/

theorem Selector.staged_of_sending {sel : Selector} (h : sel.stage = some { frame := f, cond := .sending }) :
    sel.staged = none := by
  simp [Selector.staged, h]

/-- Nothing is withdrawn where no uncommitted frame is of the kind. -/
theorem State.withdrawWhere_of_none {p : FrameRec → Bool} (hstaged : s.sel.staged.any p = false)
    (hbuild : s.sel.build.any p = false) : s.withdrawWhere p = s := by
  simp [State.withdrawWhere, State.withdraw, hstaged, hbuild]

/-- An outcome that withdraws nothing leaves the slots, and changes the entries it matches. -/
theorem State.applyOutcome_built (echoed : Bool) (hstage : s.sel.stage = some { frame := f, cond := .sending })
    (hbuild : s.sel.build = some g) (hsolicit : g.isSolicit = false) (hdrain : f.isDrain = false ∨ g.isDrain = false) :
    (s.applyOutcome echoed f).sel = s.sel ∧
      (s.applyOutcome echoed f).table = outcomeTable echoed s.cfg.sendLimit f s.table := by
  have hstaged := Selector.staged_of_sending hstage
  rcases hf : f.payload with ⟨es, probe⟩ | items | ⟨target, n⟩
  · simp only [State.applyOutcome, hf, State.fillOutcome]
    split <;> exact ⟨rfl, rfl⟩
  · have hg : g.isDrain = false := hdrain.resolve_left (by simp [FrameRec.isDrain, hf])
    rw [outcomeTable_of_not_fill (by simp [FrameRec.refs, hf])]
    simp only [State.applyOutcome, hf, State.drainOutcome]
    split_ifs
    · exact ⟨rfl, rfl⟩
    · rw [State.withdrawWhere_of_none (by simp [hstaged]) (by simp [hbuild, hg])]
      exact ⟨rfl, rfl⟩
    · rw [State.withdrawWhere_of_none (by simp [hstaged]) (by simp [hbuild, hg])]
      exact ⟨rfl, rfl⟩
  · rw [outcomeTable_of_not_fill (by simp [FrameRec.refs, hf])]
    simp only [State.applyOutcome, hf, State.solicitOutcome]
    split
    · exact ⟨rfl, rfl⟩
    · split_ifs
      · exact ⟨rfl, rfl⟩
      · rw [State.withdrawWhere_of_none (by simp [hstaged]) (by simp [hbuild, hsolicit])]
        exact ⟨rfl, rfl⟩
      · exact ⟨rfl, rfl⟩

theorem State.echoOutcome_counts (echoed : Bool) :
    (s.echoOutcome echoed).sel.allowance = s.sel.allowance ∧
      (s.echoOutcome echoed).sel.refillCount = s.sel.refillCount :=
  ⟨s.echoOutcome_moves echoed .allowance (by simp), s.echoOutcome_moves echoed .refillCount (by simp)⟩

/-- The frame in BUILD is STAGED and its entries, OWED still, are placed with it. -/
def State.movedUp (s : State) (g : FrameRec) (t : List Entry) : Prop :=
  s.sel.stage = some { frame := g, cond := .staged } ∧ tableWf s.table ∧ samePlacesAside s.table t ∧
    ∀ e ∈ t, e.movesUpWith g = true → { e with placed := .stage } ∈ s.table

theorem State.echoOutcome_movesUp (echoed : Bool) (hw : tableWf s.table)
    (hstage : s.sel.stage = some { frame := f, cond := .sending }) (hbuild : s.sel.build = some g)
    (hsolicit : g.isSolicit = false) (hdrain : f.isDrain = false ∨ g.isDrain = false) (helig : s.eligible g = true) :
    (s.echoOutcome echoed).movedUp g (outcomeTable echoed s.cfg.sendLimit f s.table) := by
  obtain ⟨hsel, htable⟩ := State.applyOutcome_built echoed hstage hbuild hsolicit hdrain
  have hbuilt : (s.applyOutcome echoed f).sel.build = some g := by rw [hsel, hbuild]
  have houtcome := State.echoOutcome_table echoed hstage
  rw [s.echoOutcome_of_sending echoed hstage] at houtcome ⊢
  set v := (s.applyOutcome echoed f).moveUp with hv
  have hmoved : v = { s.applyOutcome echoed f with
      sel := { (s.applyOutcome echoed f).sel with build := none, stage := some { frame := g, cond := .staged } },
      table := (s.applyOutcome echoed f).table.map
        (fun e => if e.movesUpWith g then { e with placed := .stage } else e) } := by
    rw [hv, State.moveUp, hbuilt]
  have hvstage : v.sel.stage = some { frame := g, cond := .staged } := by rw [hmoved]
  have hvelig : v.eligible g = true := by
    rw [← helig]
    refine State.eligible_congr ?_ ?_ g
    · rw [hmoved]
      simp
    · rw [hmoved, hsel]
  have hwf : tableWf (outcomeTable echoed s.cfg.sendLimit f s.table) :=
    tableWf_map (fun e _ => by split <;> exact ⟨rfl, rfl⟩) hw
  have hvwf : tableWf v.table := by
    rw [hmoved, htable]
    exact tableWf_map (fun e _ => by split <;> exact ⟨rfl, rfl⟩) hwf
  refine ⟨State.selectorSettle_stands hvstage (fun k => absurd (hsolicit.symm.trans k) nofun) (.inl hvelig),
    tableWf_of_samePlacesAside houtcome hwf, houtcome, fun e he hmoves => ?_⟩
  refine State.selectorSettle_keeps_placed hvstage hsolicit hvelig hvwf ?_ nofun
  rw [hmoved, htable]
  exact List.mem_map.2 ⟨e, he, if_pos hmoves⟩

/-- The frame moved up stands through a change of the monitor at which it stays eligible outside MUTE. -/
theorem State.movedUp.setMonitor {t : List Entry} (h : s.movedUp g t) (hsolicit : g.isSolicit = false)
    (hmute : s.mon.standing ≠ .mute) (hmute' : m.standing ≠ .mute)
    (helig : State.eligible { s with mon := m } g = true) : (s.setMonitor m).movedUp g t := by
  obtain ⟨hstage, hw, haside, hplaced⟩ := h
  have haside' := samePlacesAside_trans (s.setMonitor_sameAside m) haside
  have hw' := tableWf_of_samePlacesAside (s.setMonitor_sameAside m) hw
  rcases s.setMonitor_cases m with ⟨-, k⟩ | ⟨-, k, -⟩ | ⟨-, -, k, -⟩ | ⟨-, -, -, k⟩
  · rw [k]
    exact ⟨hstage, hw, haside, hplaced⟩
  · exact absurd k hmute'
  · exact absurd k hmute
  · refine ⟨?_, hw', haside', fun e he hmoves => ?_⟩
    · rw [k]
      exact State.selectorSettle_stands hstage (fun k => absurd (hsolicit.symm.trans k) nofun) (.inl helig)
    · rw [k]
      exact State.selectorSettle_keeps_placed hstage hsolicit helig hw (hplaced e he hmoves) nofun

/-- While the frame in STAGE is SENDING and BUILD is full, a change of the monitor outside MUTE moves no slot. -/
theorem State.setMonitor_of_built (hstage : s.sel.stage = some { frame := f, cond := .sending })
    (hbuild : s.sel.build = some g) (hmute : s.mon.standing ≠ .mute) (hmute' : m.standing ≠ .mute) :
    (s.setMonitor m).sel = s.sel ∧ (s.setMonitor m).table = s.table := by
  rcases s.setMonitor_cases m with ⟨-, k⟩ | ⟨-, k, -⟩ | ⟨-, -, k, -⟩ | ⟨-, -, -, k⟩
  · rw [k]
    exact ⟨rfl, rfl⟩
  · exact absurd k hmute'
  · exact absurd k hmute
  · have hbuild : s.sel.build ≠ none := by
      rw [hbuild]
      nofun
    have hsettle := State.selectorSettle_of_built (s := State.raise .standing { s with mon := m })
      (Selector.staged_of_sending hstage) hbuild
    rw [k, hsettle]
    exact ⟨rfl, rfl⟩

/-- In both orders of R136 the frame in BUILD moves up. -/
theorem State.takeOutcome_movesUp (echoed first : Bool) (hw : tableWf s.table)
    (hstage : s.sel.stage = some { frame := f, cond := .sending }) (hbuild : s.sel.build = some g)
    (hsolicit : g.isSolicit = false) (hdrain : f.isDrain = false ∨ g.isDrain = false) (hmute : s.mon.standing ≠ .mute)
    (hmute' : (s.mon.outcome echoed s.cfg.autoRejoin s.cfg.probeInterval).standing ≠ .mute)
    (helig : s.eligible g = true)
    (helig' : State.eligible { s with mon := s.mon.outcome echoed s.cfg.autoRejoin s.cfg.probeInterval } g = true) :
    (s.takeOutcome echoed first).movedUp g (outcomeTable echoed s.cfg.sendLimit f s.table) := by
  unfold State.takeOutcome
  split
  · obtain ⟨hsel, htable⟩ := State.setMonitor_of_built (m := s.mon.outcome echoed s.cfg.autoRejoin s.cfg.probeInterval)
      hstage hbuild hmute hmute'
    have hcfg : (s.monitorOutcome echoed).cfg = s.cfg := State.cfg_congr (by simp)
    have h := State.echoOutcome_movesUp (s := s.monitorOutcome echoed) (f := f) (g := g) echoed (htable ▸ hw)
      (by rw [State.monitorOutcome, hsel, hstage]) (by rw [State.monitorOutcome, hsel, hbuild]) hsolicit hdrain ?_
    · rw [hcfg] at h
      rw [show (s.monitorOutcome echoed).table = s.table from htable] at h
      exact h
    · rw [← helig']
      refine State.eligible_congr ?_ ?_ g
      · rw [State.monitorOutcome, State.setMonitor_rest]
      · rw [State.monitorOutcome, hsel]
  · have h := State.echoOutcome_movesUp echoed hw hstage hbuild hsolicit hdrain helig
    have hmon : (s.echoOutcome echoed).mon = s.mon := by simp
    have hcfg : (s.echoOutcome echoed).cfg = s.cfg := State.cfg_congr (by simp)
    rw [State.monitorOutcome, hmon, hcfg]
    refine h.setMonitor hsolicit (hmon ▸ hmute) hmute' ?_
    rw [← helig']
    exact State.eligible_congr
      (s := { s with mon := s.mon.outcome echoed s.cfg.autoRejoin s.cfg.probeInterval })
      (t := { s.echoOutcome echoed with mon := s.mon.outcome echoed s.cfg.autoRejoin s.cfg.probeInterval })
      rfl (s.echoOutcome_counts echoed).1 g

end

end Sys2Proof.Machine
end

section
/-! PROOFS. The echo outcome at MUTE, at the notices and at a changed drain list (O37). -/

namespace Sys2Proof.Machine

section
variable {s u : State} {f g : FrameRec} {m : Monitor} {e : Entry}

/-! ### Nothing is built in MUTE before the probe is due (R123, R136) -/

theorem State.nextFrame_none_of_mute (hmute : s.mon.standing = .mute)
    (hprobe : s.mon.probeTimer ≠ 0 ∨ s.sel.stage ≠ none) : s.nextFrame = none := by
  have hentry : s.probeEntry = none :=
    if_neg fun ⟨_, htimer, _, hstage⟩ => hprobe.elim (fun k => k htimer) (fun k => k hstage)
  have hentries : s.admittedEntries = [] := by simp [State.admittedEntries, hmute]
  have hitems : s.admittedItems = [] := by simp [State.admittedItems, hmute]
  have hsolicit : s.admittedSolicit = none := by simp [State.admittedSolicit, hmute]
  rw [State.nextFrame_eq_none, State.admits, hentry, hentries, hitems, hsolicit]
  cases s.role <;> rfl

/-- With no frame STAGED and nothing to build the selector stands. -/
theorem State.selectorSettle_of_nothing (hstaged : s.sel.staged = none) (hnext : s.nextFrame = none) :
    s.selectorSettle = s := by
  cases hrun : s.running with
  | false => exact if_neg (by simp [hrun])
  | true =>
    rw [State.selectorSettle_of_not_staged hrun hstaged, State.buildAll, State.buildOne_of_nothing hnext,
      State.buildOne_of_nothing hnext]

/-- With everything uncommitted withdrawn, the frame on its way alone is left. -/
theorem State.withdraw_all_sel :
    (s.withdraw true true).sel.stage = s.sel.core ∧ (s.withdraw true true).sel.build = none := by
  rcases hstaged : s.sel.staged with _ | g
  · have hcore : s.sel.core = s.sel.stage := by
      rcases hstage : s.sel.stage with _ | ⟨g, cond⟩
      · simp [Selector.core, hstage]
      · cases cond <;> simp_all [Selector.core, Selector.staged]
    rcases hbuild : s.sel.build with _ | g
    · simp [State.withdraw, hstaged, hbuild, hcore]
    · simp [State.withdraw, hstaged, hbuild, hcore, State.withdrawBuild_eq]
  · have hcore : s.sel.core = none := Selector.core_of_staged (by simp [hstaged])
    simp [State.withdraw, hstaged, hcore, State.withdrawBoth_eq]

/-- Entering MUTE with a probe timer to run leaves the frame on its way alone (R136). -/
theorem State.setMonitor_enters (hmute : s.mon.standing ≠ .mute) (hmute' : m.standing = .mute)
    (htimer : m.probeTimer ≠ 0) : (s.setMonitor m).sel.stage = s.sel.core ∧ (s.setMonitor m).sel.build = none := by
  rcases s.setMonitor_cases m with ⟨k, -⟩ | ⟨-, -, k⟩ | ⟨-, k, -⟩ | ⟨-, k, -⟩
  · exact absurd (k.symm.trans hmute') hmute
  · obtain ⟨hstage, hbuild⟩ := State.withdraw_all_sel (s := State.raise .standing { s with mon := m })
    have hstaged : ((State.raise .standing { s with mon := m }).withdraw true true).sel.staged = none := by
      rw [Selector.staged, hstage]
      split
      · next x hx => exact if_neg (Selector.core_cond hx).2
      · rfl
    have hmon : ((State.raise .standing { s with mon := m }).withdraw true true).mon = m := by simp
    have hnext := State.nextFrame_none_of_mute
      (s := (State.raise .standing { s with mon := m }).withdraw true true) (by rw [hmon, hmute']) (.inl (by rwa [hmon]))
    rw [k, State.enterMute, State.selectorSettle_of_nothing hstaged hnext]
    exact ⟨hstage, hbuild⟩
  · exact absurd hmute' k
  · exact absurd hmute' k

theorem Monitor.work_standing_ne_mute (m : Monitor) : m.work.standing ≠ .mute := by
  unfold Monitor.work
  dsimp only
  split <;> nofun

theorem Monitor.outcome_probeTimer_of_enters {echoed autoRejoin : Bool} {interval : Nat} (hmute : m.standing ≠ .mute)
    (h : (m.outcome echoed autoRejoin interval).standing = .mute) :
    (m.outcome echoed autoRejoin interval).probeTimer = interval := by
  unfold Monitor.outcome at h ⊢
  rw [if_neg hmute] at h ⊢
  split
  · next he =>
    rw [if_pos he] at h
    exact absurd h (Monitor.work_standing_ne_mute _)
  · next he =>
    rw [if_neg he] at h
    dsimp only at h ⊢
    split
    · rfl
    · next hcount =>
      rw [if_neg hcount] at h
      exact absurd h (Monitor.work_standing_ne_mute _)

theorem State.applyOutcome_build_none (echoed : Bool) (hstage : s.sel.stage = some { frame := f, cond := .sending })
    (hbuild : s.sel.build = none) : (s.applyOutcome echoed f).sel.build = none := by
  have hstaged := Selector.staged_of_sending hstage
  have hstands : ∀ (v : State) p, v.sel = s.sel → (v.withdrawWhere p).sel.build = none := fun v p hv => by
    rw [State.withdrawWhere_of_none (by simp [hv, hstaged]) (by simp [hv, hbuild]), hv, hbuild]
  unfold State.applyOutcome State.fillOutcome State.drainOutcome State.solicitOutcome
  dsimp only
  split
  · split <;> exact hbuild
  · split_ifs
    · exact hbuild
    · exact hstands _ _ rfl
    · exact hstands _ _ rfl
  · split
    · exact hbuild
    · split_ifs
      · exact hbuild
      · exact hstands _ _ rfl
      · exact hbuild

/-- An echo outcome taken in MUTE with an empty BUILD leaves both slots EMPTY while the probe is not due. -/
theorem State.echoOutcome_mute (echoed : Bool) (hstage : s.sel.stage = some { frame := f, cond := .sending })
    (hbuild : s.sel.build = none) (hmute : s.mon.standing = .mute) (htimer : s.mon.probeTimer ≠ 0) :
    (s.echoOutcome echoed).sel.stage = none ∧ (s.echoOutcome echoed).sel.build = none := by
  rw [s.echoOutcome_of_sending echoed hstage]
  have hbuilt := State.applyOutcome_build_none echoed hstage hbuild
  obtain ⟨hnone, hmoved⟩ := (s.applyOutcome echoed f).moveUp_sel
  have hempty : (s.applyOutcome echoed f).moveUp.sel.stage = none := by
    rcases hmoved with ⟨-, k⟩ | ⟨g, k, -⟩
    · exact k
    · exact absurd (hbuilt.symm.trans k) nofun
  have hmon : (s.applyOutcome echoed f).moveUp.mon = s.mon := by simp
  have hnext := State.nextFrame_none_of_mute (hmon ▸ hmute) (.inl (hmon ▸ htimer))
  rw [State.selectorSettle_of_nothing (by simp [Selector.staged, hempty]) hnext]
  exact ⟨hempty, hnone⟩

/-- Where the outcome enters MUTE with a probe interval, both slots are EMPTY in both orders of R136. -/
theorem State.takeOutcome_mute (echoed first : Bool) (hstage : s.sel.stage = some { frame := f, cond := .sending })
    (hmute : s.mon.standing ≠ .mute)
    (hmute' : (s.mon.outcome echoed s.cfg.autoRejoin s.cfg.probeInterval).standing = .mute)
    (hinterval : s.cfg.probeInterval ≠ 0) :
    (s.takeOutcome echoed first).sel.stage = none ∧ (s.takeOutcome echoed first).sel.build = none := by
  have htimer : (s.mon.outcome echoed s.cfg.autoRejoin s.cfg.probeInterval).probeTimer ≠ 0 := by
    rwa [Monitor.outcome_probeTimer_of_enters hmute hmute']
  unfold State.takeOutcome
  split
  · obtain ⟨hcore, hbuild⟩ := State.setMonitor_enters hmute hmute' htimer
    refine State.echoOutcome_mute echoed (hcore.trans (Selector.core_of_cond hstage nofun)) hbuild ?_ ?_
    · simpa [State.monitorOutcome] using hmute'
    · simpa [State.monitorOutcome] using htimer
  · obtain ⟨-, hcore⟩ := s.echoOutcome_core echoed hstage
    have hmon : (s.echoOutcome echoed).mon = s.mon := by simp
    have hcfg : (s.echoOutcome echoed).cfg = s.cfg := State.cfg_congr (by simp)
    have h := State.setMonitor_enters (m := s.mon.outcome echoed s.cfg.autoRejoin s.cfg.probeInterval)
      (s := s.echoOutcome echoed) (hmon ▸ hmute) hmute' htimer
    rw [State.monitorOutcome, hmon, hcfg, ← hcore]
    exact h

/-! ### The notices (R132, R145) -/

theorem State.ownEntry_any_iff {refs : List (BinId × Seq)} (hw : tableWf s.table) :
    s.ownEntry.any (fun e => e.matchedBy refs) = true ↔
      s.isBin = true ∧ ∃ e ∈ s.table, e.report.binId = s.cfg.stationId ∧ (e.report.binId, e.report.seq) ∈ refs := by
  rw [State.ownEntry]
  split
  · next hbin =>
    simp only [Option.any_eq_true, Entry.matchedBy, List.contains_eq_mem, decide_eq_true_eq, hbin, true_and]
    constructor
    · rintro ⟨e, he, href⟩
      exact ⟨e, List.mem_of_find?_eq_some he, by simpa using List.find?_some he, href⟩
    · rintro ⟨e, he, hown, href⟩
      exact ⟨e, State.entryOf_of_holds ⟨hw, he, hown⟩, href⟩
  · next h => simp [h]

theorem State.echoOutcome_flags (echoed : Bool) (hstage : s.sel.stage = some { frame := f, cond := .sending }) :
    (s.echoOutcome echoed).port.flags =
      if (echoed && s.ownEntry.any (fun e => e.matchedBy f.refs)) = true then s.port.flags ||| Notice.bit .ownSent
      else s.port.flags := by
  rw [s.echoOutcome_of_sending echoed hstage]
  have hkeeps : ((s.applyOutcome echoed f).moveUp).selectorSettle.port = (s.applyOutcome echoed f).port := by
    simp
  rw [hkeeps]
  have hnone : f.refs = [] → (echoed && s.ownEntry.any (fun e => e.matchedBy f.refs)) ≠ true := fun k => by
    simp [k, Entry.matchedBy]
  rcases hf : f.payload with ⟨es, probe⟩ | items | ⟨target, n⟩
  · simp only [State.applyOutcome, hf, State.fillOutcome]
    split_ifs <;> rfl
  · rw [if_neg (hnone (by simp [FrameRec.refs, hf]))]
    simp only [State.applyOutcome, hf, State.drainOutcome]
    split_ifs <;> simp
  · rw [if_neg (hnone (by simp [FrameRec.refs, hf]))]
    simp only [State.applyOutcome, hf, State.solicitOutcome]
    split
    · rfl
    · split_ifs <;> simp

/-! ### The changed drain list (R126, R128, R133) -/

/-- Withdrawing the frames of a kind leaves no such frame in BUILD behind a frame that is not STAGED. -/
theorem State.withdrawWhere_build {p : FrameRec → Bool} (hstaged : s.sel.staged = none) :
    (s.withdrawWhere p).sel.build = s.sel.build.filter (fun g => !p g) := by
  rcases hbuild : s.sel.build with _ | g
  · simp [State.withdrawWhere, State.withdraw, hstaged, hbuild]
  · cases hp : p g <;>
      simp [State.withdrawWhere, State.withdraw, hstaged, hbuild, hp, State.withdrawBuild_eq, Option.filter_some]

/-- A changed drain list is what is staged once the outcome is applied. -/
theorem State.echoOutcome_stagesDrains {items : List (BinId × Seq)} (echoed : Bool)
    (hstage : s.sel.stage = some { frame := f, cond := .sending }) (hf : f.payload = .drain items)
    (hrun : s.running = true) (hrole : s.role = .gateway) (hmute : s.mon.standing ≠ .mute)
    (hframes : ∀ g ∈ s.sel.frames, g.isFill = false)
    (hchanged : s.gw.afterOutcome echoed s.cfg.sendLimit f ≠ s.gw) : (s.echoOutcome echoed).stagesDrains := by
  rw [s.echoOutcome_of_sending echoed hstage]
  have hgw := State.applyOutcome_gw (s := s) echoed f
  have hkept : (s.applyOutcome echoed f).sel.build = s.sel.build.filter (fun g => !g.isDrain) := by
    have hstaged := Selector.staged_of_sending hstage
    simp only [State.applyOutcome, hf, State.drainOutcome] at hgw ⊢
    split_ifs at hgw ⊢
    · exact absurd hgw.symm hchanged
    · exact State.withdrawWhere_build hstaged
    · exact State.withdrawWhere_build hstaged
  obtain ⟨hnone, hmoved⟩ := (s.applyOutcome echoed f).moveUp_sel
  have hconfig : (s.applyOutcome echoed f).moveUp.config = s.config := by simp
  refine State.selectorSettle_stagesDrains (by simpa using hrun) ?_ (by simpa using hmute) ?_
  · rw [State.role, State.cfg_congr hconfig]
    exact hrole
  · rcases hmoved with ⟨-, hempty⟩ | ⟨g, hbuilt, hup⟩
    · exact .inl ⟨hempty, hnone⟩
    · rw [hkept, Option.filter_eq_some_iff] at hbuilt
      have hfill := hframes g (by simp [Selector.frames, hbuilt.1])
      refine .inr ⟨g, hup, ?_⟩
      have hdrain := hbuilt.2
      cases hp : g.payload <;> simp_all [FrameRec.isFill, FrameRec.isDrain, FrameRec.isSolicit]

/-- The staged drain list stands through a change of the monitor outside MUTE. -/
theorem State.stagesDrains.setMonitor (h : s.stagesDrains) (hmute : s.mon.standing ≠ .mute)
    (hmute' : m.standing ≠ .mute) : (s.setMonitor m).stagesDrains := by
  have hgw : (s.setMonitor m).gw = s.gw := by simp
  have hcfg : (s.setMonitor m).cfg = s.cfg := State.cfg_congr (by simp)
  intro hne hlen
  rw [hgw] at hne hlen
  obtain ⟨g, hstage, hpayload, hkey⟩ := h hne hlen
  have hall : (s.setMonitor m).drainsAll g := ⟨hpayload.trans (by rw [hgw]), hkey.trans (by rw [hcfg])⟩
  rcases s.setMonitor_cases m with ⟨-, k⟩ | ⟨-, k, -⟩ | ⟨-, -, k, -⟩ | ⟨-, -, -, k⟩
  · exact ⟨g, by rw [k]; exact hstage, hall⟩
  · exact absurd k hmute'
  · exact absurd k hmute
  · refine ⟨g, ?_, hall⟩
    rw [k]
    have helig : (State.raise .standing { s with mon := m }).eligible g = true := by
      simp [State.eligible, hpayload, hmute']
    exact State.selectorSettle_stands (s := State.raise .standing { s with mon := m }) hstage
      (fun k => by simp [FrameRec.isSolicit, hpayload] at k) (.inl helig)

theorem State.takeOutcome_stagesDrains {items : List (BinId × Seq)} (echoed first : Bool)
    (hstage : s.sel.stage = some { frame := f, cond := .sending }) (hf : f.payload = .drain items)
    (hrun : s.running = true) (hrole : s.role = .gateway) (hmute : s.mon.standing ≠ .mute)
    (hmute' : (s.mon.outcome echoed s.cfg.autoRejoin s.cfg.probeInterval).standing ≠ .mute)
    (hframes : ∀ g ∈ s.sel.frames, g.isFill = false)
    (hchanged : s.gw.afterOutcome echoed s.cfg.sendLimit f ≠ s.gw) : (s.takeOutcome echoed first).stagesDrains := by
  unfold State.takeOutcome
  split
  · have hcore : (s.monitorOutcome echoed).sel.core = some { frame := f, cond := .sending } :=
      (s.setMonitor_core _).trans (Selector.core_of_cond hstage nofun)
    have hconfig : (s.monitorOutcome echoed).config = s.config := by simp
    have hcfg := State.cfg_congr hconfig
    have hgw : (s.monitorOutcome echoed).gw = s.gw := by simp
    refine State.echoOutcome_stagesDrains echoed (Selector.core_cond hcore).1 hf (by simpa using hrun) ?_ ?_ ?_ ?_
    · rw [State.role, hcfg]
      exact hrole
    · rw [State.monitorOutcome, State.setMonitor_mon]
      exact hmute'
    · exact State.setMonitor_frames (P := fun g => g.isFill = false) _ (fun _ _ k => k) hframes
        fun w g hw hc ht hmay => (s.builds_kind w g hw hc ht hmay).trans (by rw [hrole]; rfl)
    · rw [hcfg, hgw]
      exact hchanged
  · have hmon : (s.echoOutcome echoed).mon = s.mon := by simp
    have hcfg : (s.echoOutcome echoed).cfg = s.cfg := State.cfg_congr (by simp)
    rw [State.monitorOutcome, hmon, hcfg]
    exact (State.echoOutcome_stagesDrains echoed hstage hf hrun hrole hmute hframes hchanged).setMonitor (hmon ▸ hmute) hmute'

end

end Sys2Proof.Machine
end

section
/-! PROOFS. The end of the echo slot after the own frame (O37). -/

namespace Sys2Proof.Machine

section
variable {s : State} {f g : FrameRec}

/-- What the table holds once a frame has moved up. -/
theorem State.movedUp.placements {t : List Entry} (h : s.movedUp g t) :
    (∀ e ∈ s.table, e.owing = .owed → (e.report.binId, e.report.seq) ∈ g.refs → e.placed = .stage) ∧
      ∀ e ∈ t, e.placed = .build → { e with placed := .stage } ∈ s.table := by
  obtain ⟨-, hw, haside, hmoved⟩ := h
  refine ⟨fun e he howed href => ?_, fun e he hplaced => hmoved e he (by simp [Entry.movesUpWith, hplaced])⟩
  obtain ⟨p, hp⟩ := exists_mem_of_samePlacesAside haside he
  have hup := hmoved _ hp (by simp [Entry.movesUpWith, Entry.matchedBy, howed, href])
  exact congrArg Entry.placed (entry_unique hw he hup (.inl rfl))

theorem mem_outcomeTable {echoed : Bool} {sendLimit : Nat} {t : List Entry} {e : Entry} (he : e ∈ t)
    (href : (e.report.binId, e.report.seq) ∉ f.refs) : e ∈ outcomeTable echoed sendLimit f t :=
  List.mem_map.2 ⟨e, he, if_neg (by simpa [Entry.matchedBy] using href)⟩

/-- The entries after the outcome of a FILL frame (R132). -/
theorem outcomeTable_fill {es : List Frozen} {probe : Bool} (echoed : Bool) (sendLimit : Nat) (t : List Entry)
    (hf : f.payload = .fill es probe) :
    samePlacesAside (outcomeTable echoed sendLimit f t) (t.map (fun e =>
      if (e.report.binId, e.report.seq) ∈ es.map (fun c => (c.report.binId, c.report.seq)) then
        { e with
          sent := min 7 (e.sent + 1),
          owing := if e.owing = .owed ∧ (echoed = true ∨ sendLimit ≤ min 7 (e.sent + 1)) then .held else e.owing }
      else e)) := by
  have hrefs : f.refs = es.map (fun c => (c.report.binId, c.report.seq)) := by simp [FrameRec.refs, hf]
  rw [outcomeTable, samePlacesAside, List.map_map, List.map_map, hrefs]
  refine List.map_congr_left fun e _ => ?_
  have howing : owingAfter echoed sendLimit (min 7 (e.sent + 1)) e.owing =
      if e.owing = .owed ∧ (echoed = true ∨ sendLimit ≤ min 7 (e.sent + 1)) then .held else e.owing := by
    cases ho : e.owing <;> simp [owingAfter]
  simp only [Function.comp, Entry.matchedBy, List.contains_eq_mem, decide_eq_true_eq, Entry.sentOnce, bump,
    Config.smallCountMax, howing]
  split <;> rfl

theorem State.setMonitor_flags (m : Monitor) (i : Nat) :
    (s.setMonitor m).port.flags.getLsbD i = true ↔
      s.port.flags.getLsbD i = true ∨ i = 7 ∧ m.standing ≠ s.mon.standing := by
  have hflags : (s.setMonitor m).port.flags =
      if m.standing = s.mon.standing then s.port.flags else s.port.flags ||| Notice.bit .standing := by
    rw [State.setMonitor_rest]
    rfl
  rw [hflags]
  split
  · next h => simp [h]
  · next h =>
    rw [BitVec.getLsbD_or, Notice.bit_getLsbD]
    simp [Notice.vector, h]

theorem State.echoOutcome_flag (echoed : Bool) (hw : tableWf s.table)
    (hstage : s.sel.stage = some { frame := f, cond := .sending }) (i : Nat) :
    (s.echoOutcome echoed).port.flags.getLsbD i = true ↔
      s.port.flags.getLsbD i = true ∨ i = 2 ∧ echoed = true ∧ s.isBin = true ∧
        ∃ e ∈ s.table, e.report.binId = s.cfg.stationId ∧ (e.report.binId, e.report.seq) ∈ f.refs := by
  rw [State.echoOutcome_flags echoed hstage, ← State.ownEntry_any_iff hw, ← Bool.and_eq_true (a := echoed)]
  split
  · next h =>
    rw [BitVec.getLsbD_or, Notice.bit_getLsbD, h]
    simp [Notice.vector]
  · next h => simp [h]

/-- The reports of a table are those of every table that is the same but for placement marks. -/
theorem exists_report_iff {t u : List Entry} {P : Report → Prop} (h : samePlacesAside t u) :
    (∃ e ∈ t, P e.report) ↔ ∃ e ∈ u, P e.report := by
  constructor
  · rintro ⟨e, he, hP⟩
    obtain ⟨p, hp⟩ := exists_mem_of_samePlacesAside h he
    exact ⟨_, hp, hP⟩
  · rintro ⟨e, he, hP⟩
    obtain ⟨p, hp⟩ := exists_mem_of_samePlacesAside (samePlacesAside_symm h) he
    exact ⟨_, hp, hP⟩

theorem State.takeOutcome_flags (echoed first : Bool) (hw : tableWf s.table)
    (hstage : s.sel.stage = some { frame := f, cond := .sending }) (i : Nat) :
    (s.takeOutcome echoed first).port.flags.getLsbD i = true ↔
      s.port.flags.getLsbD i = true ∨
        i = 7 ∧ (s.mon.outcome echoed s.cfg.autoRejoin s.cfg.probeInterval).standing ≠ s.mon.standing ∨
        i = 2 ∧ echoed = true ∧ s.isBin = true ∧
          ∃ e ∈ s.table, e.report.binId = s.cfg.stationId ∧ (e.report.binId, e.report.seq) ∈ f.refs := by
  unfold State.takeOutcome
  split
  · have hcore : (s.monitorOutcome echoed).sel.core = some { frame := f, cond := .sending } :=
      (s.setMonitor_core _).trans (Selector.core_of_cond hstage nofun)
    have htable : samePlacesAside (s.monitorOutcome echoed).table s.table := State.setMonitor_sameAside _
    have hconfig : (s.monitorOutcome echoed).config = s.config := by simp
    have hbin : (s.monitorOutcome echoed).isBin = s.isBin := by
      rw [State.isBin, State.isBin, State.role, State.role, State.cfg_congr hconfig]
      simp
    rw [State.echoOutcome_flag echoed (tableWf_of_samePlacesAside htable hw) (Selector.core_cond hcore).1,
      State.monitorOutcome, State.setMonitor_flags, ← State.monitorOutcome, hbin, State.cfg_congr hconfig,
      exists_report_iff (P := fun r => r.binId = s.cfg.stationId ∧ (r.binId, r.seq) ∈ f.refs) htable]
    exact or_assoc
  · have hmon : (s.echoOutcome echoed).mon = s.mon := by simp
    have hcfg : (s.echoOutcome echoed).cfg = s.cfg := State.cfg_congr (by simp)
    rw [State.monitorOutcome, hmon, hcfg, State.setMonitor_flags, hmon, State.echoOutcome_flag echoed hw hstage, or_assoc]
    exact or_congr_right or_comm

theorem State.takeOutcome_settles (echoed first : Bool) (hstage : s.sel.stage = some { frame := f, cond := .sending }) :
    (s.takeOutcome echoed first).settled := by
  have hecho : ∀ {v : State}, v.sel.stage = some { frame := f, cond := .sending } → (v.echoOutcome echoed).settled :=
    fun {v} hv => by
      rw [v.echoOutcome_of_sending echoed hv]
      exact State.selectorSettle_settled _
  unfold State.takeOutcome
  split
  · have hcore : (s.monitorOutcome echoed).sel.core = some { frame := f, cond := .sending } :=
      (s.setMonitor_core _).trans (Selector.core_of_cond hstage nofun)
    exact hecho (Selector.core_cond hcore).1
  · exact State.setMonitor_settled _ (hecho hstage)

/-- What an echo outcome leaves alone besides the monitor, the entries, the selector, the gateway unit and the flags. -/
theorem State.takeOutcome_rest (echoed first : Bool) : s.takeOutcome echoed first = { s with
    mon := (s.takeOutcome echoed first).mon, table := (s.takeOutcome echoed first).table,
    sel := (s.takeOutcome echoed first).sel, gw := (s.takeOutcome echoed first).gw,
    port := { s.port with flags := (s.takeOutcome echoed first).port.flags } } := by
  have h := s.takeOutcome_moves echoed first
  generalize s.takeOutcome echoed first = u at h ⊢
  have hmoved : ∀ p ∈ [Part.pending, .running, .config, .clock, .boundaryDue, .engine, .pair, .refusals, .estimator,
      .mask, .resetn, .ready, .sdo, .resultAt], p.same s u := fun p hp => h p (by fin_cases hp <;> simp)
  simp only [List.forall_mem_cons, Part.same] at hmoved
  obtain ⟨hpending, hrunning, hconfig, hclock, hdue, heng, hpair, hrefusals, hest, hmask, hresetn, hready, hsdo, hresult,
    -⟩ := hmoved
  obtain ⟨pending, running, config, clock, due, eng, pair, table, refusals, est, sel, mon, gw, port⟩ := u
  obtain ⟨flags, mask, resetn, ready, sdo, result⟩ := port
  dsimp only at *
  subst hpending hrunning hconfig hclock hdue heng hpair hrefusals hest hmask hresetn hready hsdo hresult
  rfl

end

end Sys2Proof.Machine
end

section
open Sys2Proof Sys2Proof.Machine

/-- Settles O37: the outcome is taken in both orders of R136, each traced through the slots, the notices and the gateway
unit; the end of the frame then moves the engine alone. -/
theorem echoOutcomeIsApplied : Obligations.EchoOutcomeIsApplied := by
  intro s echo carrier first f hawait hstage hw
  have hexec : exec (.awaitEchoEnd echo carrier first) s = .next (((s.takeOutcome echo first).frameEnd carrier).engineSettle) :=
    if_pos hawait
  rw [State.frameEnd_engineSettle] at hexec
  have hrest := s.takeOutcome_rest echo first
  have hmon := s.takeOutcome_mon echo first
  have htable := s.takeOutcome_table echo first hstage
  have hgw := s.takeOutcome_gw echo first hstage
  have hcore := (s.takeOutcome_core echo first hstage).2
  have hflags := fun i => State.takeOutcome_flags echo first hw hstage i
  have hallowance := s.takeOutcome_moves echo first .allowance (by simp)
  have hrefill := s.takeOutcome_moves echo first .refillCount (by simp)
  have hsettled : (s.takeOutcome echo first).settled := State.takeOutcome_settles echo first hstage
  have hmovesUp := fun g => State.takeOutcome_movesUp (s := s) (f := f) (g := g) echo first hw hstage
  have hmuted := State.takeOutcome_mute echo first hstage
  have hdrains := fun items => State.takeOutcome_stagesDrains (items := items) echo first hstage
  generalize s.takeOutcome echo first = u at *
  have hawake : u.awakeAgain carrier u.eng = s.awakeAgain carrier s.eng := by rw [hrest]; rfl
  refine ⟨_, hexec, ?_, hallowance, hrefill, ?_, hsettled, ?_, ?_, ?_, ?_, ?_, ?_⟩
  · rw [hawake]
    conv_lhs => rw [hrest, hmon]
  · rcases Selector.core_eq_none.1 hcore with k | ⟨g, k⟩
    · exact .inl (by simp [Selector.stageCond, k])
    · exact .inr (by simp [Selector.stageCond, k])
  · intro g hbuild hsolicit hdrain hmute hmute' helig helig'
    have hmoved := hmovesUp g hbuild hsolicit hdrain hmute (hmon ▸ hmute') helig ?_
    · obtain ⟨hplaced, hbuilt⟩ := hmoved.placements
      exact ⟨hmoved.1, hplaced, fun e he hin href => hbuilt e (mem_outcomeTable he href) hin⟩
    · rw [← helig']
      exact State.eligible_congr (s := { u with eng := u.awakeAgain carrier u.eng })
        (t := { s with mon := s.mon.outcome echo s.cfg.autoRejoin s.cfg.probeInterval }) (by rw [← hmon])
        hallowance.symm g
  · exact fun hmute hmute' => hmuted hmute (hmon ▸ hmute')
  · rw [hmon]
    exact hflags
  · intro es probe hf
    exact ⟨hgw.trans (Gateway.afterOutcome_fill echo (by simp [FrameRec.isFill, hf])),
      samePlacesAside_trans htable (outcomeTable_fill echo _ _ hf)⟩
  · intro items hf
    rw [outcomeTable_of_not_fill (by simp [FrameRec.refs, hf])] at htable
    refine ⟨htable, ?_, fun hchanged hrun hrole hmute hmute' hframes => ?_, ?_, ?_⟩
    · cases echo with
      | true => rw [hgw, Gateway.afterOutcome_echoed hf]
      | false =>
        have hunechoed := (Gateway.afterOutcome_unechoed (g := s.gw) (sendLimit := s.cfg.sendLimit) hf).1
        rw [← hgw] at hunechoed
        conv_lhs => rw [hunechoed]
        conv_rhs => rw [hunechoed]
    · refine hdrains items hf hrun hrole hmute (hmon ▸ hmute') hframes fun k => hchanged ?_
      rw [hgw, k]
    · rintro rfl
      rw [hgw, Gateway.afterOutcome_echoed hf]
      exact ⟨rfl, rfl⟩
    · rintro rfl
      obtain ⟨hlist, hdrop⟩ := Gateway.afterOutcome_unechoed (g := s.gw) (sendLimit := s.cfg.sendLimit) hf
      rw [← hgw] at hlist hdrop
      have hleft := congrArg Gateway.drainList hlist
      exact ⟨hleft, fun h => (hdrop h).trans (by rw [hleft])⟩
  · intro target n hf
    rw [outcomeTable_of_not_fill (by simp [FrameRec.refs, hf])] at htable
    have hkept : (∀ p, s.gw.solicit = some p → p.serial ≠ n) → u.gw = s.gw := fun hother =>
      hgw.trans (Gateway.afterOutcome_other hf hother)
    have htaken : ∀ p, s.gw.solicit = some p → p.serial = n → u.gw = { s.gw with
        solicit := if echo = true ∨ s.cfg.sendLimit ≤ min 7 (p.sent + 1) then none
          else some { p with sent := min 7 (p.sent + 1) } } := fun p hp hn =>
      hgw.trans (Gateway.afterOutcome_pending hf hp hn)
    refine ⟨htable, ?_, fun p hp hn => congrArg Gateway.solicit (htaken p hp hn),
      fun hother => congrArg Gateway.solicit (hkept hother)⟩
    by_cases hother : ∀ p, s.gw.solicit = some p → p.serial ≠ n
    · rw [hkept hother]
    · push Not at hother
      obtain ⟨p, hp, hn⟩ := hother
      rw [htaken p hp hn]
end

section
/-! PROOFS. The bits on air and the bits kept: the run that stuffing bounds, and the taking that undoes it (O49). -/

namespace Sys2Proof.Machine

section
variable {air kept : List Bool} {bit : Bool} {run : Nat}

/-! ### Runs on air (R13, R14) -/

theorem Taken.run_range (h : Taken air kept bit run) : 1 ≤ run ∧ run ≤ 5 := by
  cases h with
  | atMark => omega
  | body b h hrun => split <;> omega
  | stuffed h => omega

/-- A list's last bits are equal for as long as the run lasts, and no longer. -/
theorem Taken.run_bounds (h : Taken air kept bit run) :
    ∀ (before : List Bool) (k : Nat) (c : Bool), false :: false :: air = before ++ List.replicate (k + 1) c →
      c = bit ∧ k + 1 ≤ run := by
  have hstep : ∀ {l : List Bool} {b : Bool} {before k c}, l ++ [b] = before ++ List.replicate (k + 1) c →
      c = b ∧ l = before ++ List.replicate k c := fun {l b before k c} h => by
    rw [List.replicate_succ', ← List.append_assoc] at h
    obtain ⟨hl, hb⟩ := List.append_inj' h rfl
    exact ⟨(List.singleton_inj.1 hb).symm, hl⟩
  induction h with
  | atMark =>
    intro before k c h
    obtain ⟨rfl, hl⟩ := hstep (l := [false]) h
    have := congrArg List.length hl
    simp only [List.length_append, List.length_replicate, List.length_singleton] at this
    exact ⟨rfl, by omega⟩
  | @body air kept bit run b _ _ ih =>
    intro before k c h
    obtain ⟨rfl, hl⟩ := hstep (l := false :: false :: air) h
    refine ⟨rfl, ?_⟩
    cases k with
    | zero => split <;> omega
    | succ k =>
      obtain ⟨rfl, hk⟩ := ih before k c hl
      rw [if_pos rfl]
      omega
  | @stuffed air kept bit _ ih =>
    intro before k c h
    obtain ⟨rfl, hl⟩ := hstep (l := false :: false :: air) h
    refine ⟨rfl, ?_⟩
    cases k with
    | zero => omega
    | succ k => exact absurd (ih before k _ hl).1 (by simp)

/-- No six equal bits stand in a row on air. -/
theorem Taken.no_six (h : Taken air kept bit run) (before after : List Bool) (b : Bool) :
    false :: false :: air ≠ before ++ List.replicate 6 b ++ after := by
  induction after using List.reverseRecOn generalizing air kept bit run with
  | nil =>
    intro k
    rw [List.append_nil] at k
    have := (h.run_bounds before 5 b k).2
    have := h.run_range
    omega
  | append_singleton after c ih =>
    have hshort : ∀ {air : List Bool} {d : Bool},
        false :: false :: (air ++ [d]) = before ++ List.replicate 6 b ++ (after ++ [c]) →
        false :: false :: air = before ++ List.replicate 6 b ++ after := fun k => by
      rw [← List.append_assoc, ← List.cons_append, ← List.cons_append] at k
      exact (List.append_inj' k rfl).1
    cases h with
    | atMark =>
      intro k
      have := congrArg List.length k
      simp only [List.length_append, List.length_replicate, List.length_cons, List.length_nil] at this
      omega
    | body d h _ => exact fun k => ih h (hshort k)
    | stuffed h => exact fun k => ih h (hshort k)

/-! ### Stuffing is read back (R13, R14) -/

theorem Taken.stuff {r : Run} (h : Taken air kept r.bit r.len) (hr : r.len < 5) (bits : List Bool) :
    Taken (air ++ (stuff r bits).1) (kept ++ bits) (stuff r bits).2.bit (stuff r bits).2.len ∧ (stuff r bits).2.len < 5 := by
  induction bits generalizing air kept r with
  | nil => simpa [Machine.stuff] using ⟨h, hr⟩
  | cons b bs ih =>
    have hnext : Taken (air ++ [b]) (kept ++ [b]) (r.next b).bit (r.next b).len := by
      have := h.body b hr
      unfold Run.next
      split <;> simp_all
    rw [Machine.stuff]
    by_cases hfive : (r.next b).len = 5
    · have hbit : (r.next b).bit = b := by
        unfold Run.next
        split <;> rfl
      rw [hfive, hbit] at hnext
      have := ih (r := { bit := !b, len := 1 }) hnext.stuffed (by decide : (1 : Nat) < 5)
      simpa [hfive] using this
    · have hlen : (r.next b).len < 5 := lt_of_le_of_ne hnext.run_range.2 hfive
      have := ih hnext hlen
      simpa [hfive] using this

/-! ### The taking of the body (R14, R15) -/

section
variable {t : Taking} {b : Bool} {rest : List Bool}

theorem takeBits_stuffed (hrun : t.run.len = 5) (hb : b ≠ t.run.bit) :
    takeBits t (b :: rest) = takeBits { kept := t.kept, inRun := 0, run := { bit := b, len := 1 } } rest := by
  rw [takeBits.eq_def]
  exact (if_pos hrun).trans (if_pos hb)

theorem takeBits_sixth_zero (hrun : t.run.len = 5) (hbit : t.run.bit = false) :
    takeBits t (false :: rest) = .broken := by
  rw [takeBits.eq_def]
  exact (if_pos hrun).trans ((if_neg (by simp [hbit])).trans (if_neg (by simp)))

theorem takeBits_sixth_one (hrun : t.run.len = 5) (hbit : t.run.bit = true) :
    takeBits t (true :: rest) =
      match rest with
      | false :: false :: _ => .closed (t.kept.drop t.inRun).reverse
      | false :: true :: _ => .broken
      | true :: _ => .broken
      | _ => .unfinished := by
  rw [takeBits.eq_def]
  exact (if_pos hrun).trans ((if_neg (by simp [hbit])).trans (if_pos rfl))

theorem takeBits_full (hrun : t.run.len ≠ 5) (hlen : t.kept.length + 1 = 696) : takeBits t (b :: rest) = .broken := by
  rw [takeBits.eq_def]
  exact (if_neg hrun).trans (if_pos hlen)

theorem takeBits_kept (hrun : t.run.len ≠ 5) (hlen : t.kept.length + 1 ≠ 696) :
    takeBits t (b :: rest) =
      takeBits { kept := b :: t.kept, inRun := if b = t.run.bit then t.inRun + 1 else 1, run := t.run.next b } rest := by
  rw [takeBits.eq_def]
  exact (if_neg hrun).trans (if_neg hlen)

end

theorem Run.next_eq {len : Nat} (b : Bool) : Run.next ⟨bit, len⟩ b = ⟨b, if b = bit then len + 1 else 1⟩ := by
  unfold Run.next
  split <;> rfl

/-- The taking follows the bits on air until an 87th byte is kept. -/
theorem Taken.followed (h : Taken air kept bit run) :
    (kept.length < 696 → ∃ inRun, ∀ rest,
      takeBits .start (air ++ rest) = takeBits { kept := kept.reverse, inRun := inRun, run := ⟨bit, run⟩ } rest) ∧
      (696 ≤ kept.length → ∀ rest, takeBits .start (air ++ rest) = .broken) := by
  induction h with
  | atMark => exact ⟨fun _ => ⟨0, fun _ => rfl⟩, fun h => absurd h (by simp)⟩
  | @body air kept bit run b _ hrun ih =>
    obtain ⟨hsim, hbroken⟩ := ih
    refine ⟨fun hlen => ?_, fun hlen rest => ?_⟩
    · rw [List.length_append, List.length_singleton] at hlen
      obtain ⟨inRun, hsim⟩ := hsim (by omega)
      refine ⟨if b = bit then inRun + 1 else 1, fun rest => ?_⟩
      rw [List.append_assoc, hsim, List.singleton_append, takeBits_kept (by dsimp only; omega) (by simp; omega),
        Run.next_eq, List.reverse_append]
      rfl
    · rw [List.length_append, List.length_singleton] at hlen
      rw [List.append_assoc]
      by_cases hfull : 696 ≤ kept.length
      · exact hbroken hfull _
      · obtain ⟨inRun, hsim⟩ := hsim (by omega)
        rw [hsim, List.singleton_append, takeBits_full (by dsimp only; omega) (by simp; omega)]
  | @stuffed air kept bit _ ih =>
    obtain ⟨hsim, hbroken⟩ := ih
    refine ⟨fun hlen => ?_, fun hlen rest => by rw [List.append_assoc]; exact hbroken hlen _⟩
    obtain ⟨inRun, hsim⟩ := hsim hlen
    refine ⟨0, fun rest => ?_⟩
    rw [List.append_assoc, hsim, List.singleton_append, takeBits_stuffed rfl (by simp)]

/-- Ones taken behind a one are kept in the run until it holds five. -/
theorem takeBits_ones {inRun len : Nat} (rest : List Bool) (k : Nat) (hrun : len + k ≤ 5) (hlen : kept.length + k < 696) :
    takeBits { kept := kept, inRun := inRun, run := ⟨true, len⟩ } (List.replicate k true ++ rest) =
      takeBits { kept := List.replicate k true ++ kept, inRun := inRun + k, run := ⟨true, len + k⟩ } rest := by
  induction k generalizing kept inRun len with
  | zero => rfl
  | succ k ih =>
    have hfull : kept.length + 1 ≠ 696 := by omega
    rw [List.replicate_succ, List.cons_append, takeBits_kept (by dsimp only; omega) hfull, Run.next_eq,
      if_pos rfl, if_pos rfl, ih (by omega) (by dsimp only [List.length_cons]; omega)]
    have hkept : List.replicate k true ++ true :: kept = true :: (List.replicate k true ++ kept) := by
      rw [← List.singleton_append, ← List.append_assoc, ← List.replicate_succ', List.replicate_succ, List.cons_append]
    simp only [hkept, Nat.add_assoc, Nat.add_comm 1]
    rfl

/-- Five ones taken behind a 0, and the end of the mark: the bits before them are the body. -/
theorem takeBits_mark (i : Nat) (after : List Bool) (hlen : kept.length + i + 4 < 696) :
    takeBits { kept := List.replicate i true ++ kept.reverse, inRun := i, run := ⟨true, 1⟩ }
        (List.replicate 5 true ++ ([false, false] ++ after)) = .closed kept := by
  rw [List.replicate_succ', List.append_assoc, List.singleton_append,
    takeBits_ones _ 4 (by omega) (by simp; omega), takeBits_sixth_one rfl rfl]
  have hdrop : (List.replicate 4 true ++ (List.replicate i true ++ kept.reverse)).drop (i + 4) = kept.reverse := by
    rw [← List.append_assoc, List.drop_left' (by simp only [List.length_append, List.length_replicate]; omega)]
  exact congrArg TakeEnd.closed ((congrArg List.reverse hdrop).trans kept.reverse_reverse)

/-- The first one behind a 0 on air is a body bit, or it is stuffed. -/
theorem Taken.one (h : Taken air kept false run) :
    ∃ i, i ≤ 1 ∧ Taken (air ++ [true]) (kept ++ List.replicate i true) true 1 ∧
      (kept.length + i < 696 → ∀ rest, takeBits .start (air ++ true :: rest) =
        takeBits { kept := List.replicate i true ++ kept.reverse, inRun := i, run := ⟨true, 1⟩ } rest) := by
  by_cases hrun : run < 5
  · refine ⟨1, le_rfl, h.body true hrun, fun hlen rest => ?_⟩
    obtain ⟨inRun, hsim⟩ := h.followed.1 (by omega)
    rw [hsim, takeBits_kept (by dsimp only; omega) (by simp; omega), Run.next_eq]
    rfl
  · obtain rfl : run = 5 := by have := h.run_range; omega
    refine ⟨0, by omega, by simpa using h.stuffed, fun hlen rest => ?_⟩
    obtain ⟨inRun, hsim⟩ := h.followed.1 (by omega)
    rw [hsim, takeBits_stuffed rfl (by simp)]
    rfl

theorem Taken.ones (h : Taken air kept true run) (k : Nat) (hrun : run + k ≤ 5) :
    Taken (air ++ List.replicate k true) (kept ++ List.replicate k true) true (run + k) := by
  induction k with
  | zero => simpa using h
  | succ k ih =>
    have := (ih (by omega)).body true (by omega)
    rw [List.replicate_succ', ← List.append_assoc, ← List.append_assoc]
    exact this

/-- The closing mark behind the kept bits closes the taking with just those bits. -/
theorem takeBits_of_closesWith {rxd : List Bool} (h : closesWith rxd kept) :
    takeBits .start rxd = .closed kept ∧ kept.length < 696 ∨ takeBits .start rxd = .broken ∧ 690 < kept.length := by
  obtain ⟨air, run, after, htaken, rfl⟩ := h
  obtain ⟨i, hi, hone, hsim⟩ := htaken.one
  by_cases hlen : kept.length + i + 4 < 696
  · left
    rw [List.append_assoc]
    exact ⟨(hsim (by omega) _).trans (takeBits_mark i after hlen), by omega⟩
  · refine .inr ⟨?_, by omega⟩
    have hbroken := (hone.ones 4 (by omega)).followed.2 (by simp; omega) ([true, false, false] ++ after)
    rw [← hbroken]
    simp [List.append_assoc]

theorem takeBits_of_breaksOff {rxd : List Bool} (h : breaksOff rxd) : takeBits .start rxd = .broken := by
  have hfive : ∀ {air kept bit rest}, Taken air kept bit 5 →
      (∀ inRun, takeBits { kept := kept.reverse, inRun := inRun, run := ⟨bit, 5⟩ } rest = .broken) →
      takeBits .start (air ++ rest) = .broken := fun {air kept bit rest} h hrest => by
    by_cases hlen : kept.length < 696
    · obtain ⟨inRun, hsim⟩ := h.followed.1 hlen
      rw [hsim, hrest]
    · exact h.followed.2 (by omega) _
  obtain ⟨air, kept, after, ⟨htaken, rfl⟩ | ⟨htaken, rfl | rfl⟩ | ⟨⟨bit, run, htaken⟩, hlen, rfl⟩⟩ := h
  · exact hfive htaken fun _ => takeBits_sixth_zero rfl rfl
  · exact hfive htaken fun _ => takeBits_sixth_one rfl rfl
  · exact hfive htaken fun _ => takeBits_sixth_one rfl rfl
  · exact htaken.followed.2 (by omega) _

/-- A run of ones stands behind bits that end in a 0. -/
theorem Taken.behind_ones (h : Taken air kept bit run) (hbit : bit = true) :
    ∃ air' kept' run', Taken air' kept' false run' ∧ air = air' ++ List.replicate run true := by
  induction h with
  | atMark => cases hbit
  | @body air kept bit run b htaken _ ih =>
    subst hbit
    cases bit with
    | false => exact ⟨air, kept, run, htaken, rfl⟩
    | true =>
      obtain ⟨air', kept', run', hbefore, rfl⟩ := ih rfl
      exact ⟨air', kept', run', hbefore, by rw [if_pos rfl, List.replicate_succ', List.append_assoc]⟩
  | @stuffed air kept bit htaken _ =>
    obtain rfl : bit = false := by simpa using hbit
    exact ⟨air, kept, 5, htaken, rfl⟩

/-- Every taking closes, breaks off or is unfinished. -/
theorem Taken.ends (h : Taken air kept bit run) (hlen : kept.length < 696) (rest : List Bool) :
    (∃ kept', closesWith (air ++ rest) kept') ∨ breaksOff (air ++ rest) ∨ takeBits .start (air ++ rest) = .unfinished := by
  induction rest generalizing air kept bit run with
  | nil =>
    obtain ⟨inRun, hsim⟩ := h.followed.1 hlen
    exact .inr (.inr (by rw [hsim]; rfl))
  | cons b rest ih =>
    by_cases hrun : run < 5
    · by_cases hfull : kept.length + 1 = 696
      · exact .inr (.inl ⟨air ++ [b], kept ++ [b], rest, .inr (.inr ⟨⟨_, _, h.body b hrun⟩, by simpa using hfull, by simp⟩)⟩)
      · rw [List.append_cons]
        exact ih (h.body b hrun) (by simp; omega)
    · obtain rfl : run = 5 := by have := h.run_range; omega
      by_cases hb : b = !bit
      · subst hb
        rw [List.append_cons]
        exact ih h.stuffed hlen
      · obtain rfl : b = bit := by simpa using hb
        cases b with
        | false => exact .inr (.inl ⟨air, kept, rest, .inl ⟨h, rfl⟩⟩)
        | true =>
          obtain ⟨inRun, hsim⟩ := h.followed.1 hlen
          obtain ⟨air', kept', run', hbefore, hair⟩ := h.behind_ones rfl
          rcases rest with _ | ⟨c, _ | ⟨d, rest⟩⟩
          · exact .inr (.inr (by rw [hsim, takeBits_sixth_one rfl rfl]))
          · cases c with
            | false => exact .inr (.inr (by rw [hsim, takeBits_sixth_one rfl rfl]))
            | true => exact .inr (.inl ⟨air, kept, [], .inr (.inl ⟨h, .inl rfl⟩)⟩)
          · cases c with
            | true => exact .inr (.inl ⟨air, kept, d :: rest, .inr (.inl ⟨h, .inl rfl⟩)⟩)
            | false =>
              cases d with
              | true => exact .inr (.inl ⟨air, kept, rest, .inr (.inl ⟨h, .inr rfl⟩)⟩)
              | false => exact .inl ⟨kept', air', run', rest, hbefore, by rw [hair]; simp⟩

/-- The stuffed body, its pad and the closing mark close the taking, the pad kept behind the bits sent. -/
theorem stuff_closesWith (bits : List Bool) :
    closesWith ((stuff .start bits).1 ++ (if (stuff .start bits).2.bit = true then [false] else []) ++ markBits)
      (bits ++ if (stuff .start bits).2.bit = true then [false] else []) := by
  obtain ⟨htaken, hlen⟩ := Taken.atMark.stuff (r := .start) (by decide) bits
  rw [List.nil_append, List.nil_append] at htaken
  split
  · next hbit =>
    rw [hbit] at htaken
    exact ⟨_, _, [], htaken.body false hlen, by simp [markBits]⟩
  · next hbit =>
    rw [Bool.not_eq_true] at hbit
    rw [hbit] at htaken
    exact ⟨_, _, [], by simpa using htaken, by simp [markBits]⟩

end

end Sys2Proof.Machine

end

section
open Sys2Proof Sys2Proof.Machine

/-- Settles O49: the bits stuffing puts on air are taken back one by one, and no run on air outlasts five bits. -/
theorem stuffingIsUndone : Obligations.StuffingIsUndone := by
  intro bits hbits
  obtain ⟨htaken, hlen⟩ := Taken.atMark.stuff (r := .start) (by decide) bits
  rw [List.nil_append, List.nil_append] at htaken
  refine ⟨⟨_, _, htaken, hlen⟩, htaken.no_six, ?_⟩
  have hcloses := stuff_closesWith bits
  refine ((takeBits_of_closesWith hcloses).resolve_right fun k => ?_).1
  have := k.2
  split at this
  · simp at this
    omega
  · simp at this
    omega

end

section
/-! PROOFS. Bits, bytes and the CRC on air: bytes and their bits, the body that kept bits close with, the CRC check, and
the channel bits of a frame by its units. -/

namespace Sys2Proof.Machine

/-! ### Bits and bytes (R12) -/

theorem ofBits_append_singleton (bs : List Bool) (b : Bool) : ofBits (bs ++ [b]) = 2 * ofBits bs + b.toNat := by
  simp only [ofBits, List.foldl_append, List.foldl_cons, List.foldl_nil]

/-- The last bit of a list is the lowest of its value. -/
theorem testBit_ofBits (bs : List Bool) (i : Nat) : (ofBits bs).testBit i = bs.reverse.getD i false := by
  induction bs using List.reverseRecOn generalizing i with
  | nil => simp [ofBits]
  | append_singleton bs b ih =>
    rw [ofBits_append_singleton, List.reverse_append, List.reverse_singleton, List.singleton_append]
    cases i with
    | zero => cases b <;> simp
    | succ i =>
      have hhalf : (2 * ofBits bs + b.toNat) / 2 = ofBits bs := by
        have := b.toNat_le
        omega
      rw [Nat.testBit_succ, hhalf, ih, List.getD_cons_succ]

theorem getElem_bitsOf (b : Byte) {i : Nat} (h : i < (bitsOf b).length) : (bitsOf b)[i] = b.getLsbD (7 - i) := by
  simp [bitsOf]

theorem bitsOf_ofBits {bs : List Bool} (h : bs.length = 8) : bitsOf (BitVec.ofNat 8 (ofBits bs)) = bs := by
  refine List.ext_getElem (by rw [bitsOf_length, h]) fun i hi hi' => ?_
  rw [getElem_bitsOf, BitVec.getLsbD_ofNat, testBit_ofBits, decide_eq_true (by omega : 7 - i < 8), Bool.true_and,
    List.getD_eq_getElem _ _ (by simp; omega), List.getElem_reverse]
  congr 1
  omega

theorem ofBits_bitsOf (b : Byte) : BitVec.ofNat 8 (ofBits (bitsOf b)) = b := by
  refine BitVec.eq_of_getLsbD_eq fun i hi => ?_
  have hlen : i < (bitsOf b).reverse.length := by rw [List.length_reverse, bitsOf_length]; exact hi
  rw [BitVec.getLsbD_ofNat, testBit_ofBits, decide_eq_true hi, Bool.true_and, List.getD_eq_getElem _ _ hlen,
    List.getElem_reverse, getElem_bitsOf, bitsOf_length]
  congr 1
  omega

theorem airBits_length (bs : List Byte) : (airBits bs).length = 8 * bs.length := by
  induction bs with
  | nil => rfl
  | cons b bs ih =>
    rw [airBits, List.flatMap_cons, List.length_append, ← airBits, ih]
    simp
    omega

theorem airBits_cons (b : Byte) (bs : List Byte) : airBits (b :: bs) = bitsOf b ++ airBits bs := List.flatMap_cons

theorem bytesOf_airBits (bs : List Byte) (rest : List Bool) : bytesOf bs.length (airBits bs ++ rest) = bs := by
  induction bs with
  | nil => rfl
  | cons b bs ih =>
    rw [airBits_cons, List.append_assoc, List.length_cons, bytesOf, List.take_left' (bitsOf_length b),
      List.drop_left' (bitsOf_length b), ofBits_bitsOf, ih]

theorem bytesOf_length (n : Nat) (bs : List Bool) : (bytesOf n bs).length = n := by
  induction n generalizing bs with
  | zero => rfl
  | succ n ih => rw [bytesOf, List.length_cons, ih]

theorem airBits_bytesOf {n : Nat} {bs : List Bool} (h : 8 * n ≤ bs.length) : airBits (bytesOf n bs) = bs.take (8 * n) := by
  induction n generalizing bs with
  | zero => rfl
  | succ n ih =>
    rw [bytesOf, airBits_cons, bitsOf_ofBits (by simp; omega), ih (by simp; omega), show 8 * (n + 1) = 8 + 8 * n by omega,
      List.take_add]

/-! ### The body that kept bits close with (R15) -/

/-- The body is the whole bytes of the kept bits, 6 of them at least, with at most a pad of 0 behind them. -/
theorem closeBody_eq_some {kept : List Bool} {body : List Byte} :
    closeBody kept = some body ↔
      6 ≤ body.length ∧ (kept = airBits body ∨ kept = airBits body ++ [false]) := by
  constructor
  · intro h
    simp only [closeBody] at h
    split at h
    · next hcond =>
      cases h
      simp only [Bool.and_eq_true, Bool.or_eq_true, decide_eq_true_eq, beq_iff_eq, Config.bodyMin] at hcond
      obtain ⟨hwhole, hmin⟩ := hcond
      refine ⟨by rw [bytesOf_length]; exact of_decide_eq_true hmin, ?_⟩
      rw [airBits_bytesOf (by omega)]
      rcases hwhole with hwhole | ⟨hpad, hlast⟩
      · exact .inl (List.take_of_length_le (by omega)).symm
      · right
        obtain ⟨front, hfront⟩ := List.getLast?_eq_some_iff.1 hlast
        have hlen : front.length = 8 * (kept.length / 8) := by
          rw [hfront, List.length_append, List.length_singleton] at hpad ⊢
          omega
        conv_rhs => rw [hfront, List.take_left' (by rw [hlen, ← hfront])]
        exact hfront
    · cases h
  · rintro ⟨hlen, rfl | rfl⟩
    · simp only [closeBody, airBits_length, Config.bodyMin]
      rw [if_pos (by simp; omega), show 8 * body.length / 8 = body.length by omega]
      simpa using bytesOf_airBits body []
    · simp only [closeBody, List.length_append, List.length_singleton, airBits_length, Config.bodyMin]
      rw [if_pos (by simp; omega), show (8 * body.length + 1) / 8 = body.length by omega, bytesOf_airBits]

/-! ### The CRC (R16) -/

theorem toBytes_ofBytes (bs : List Byte) : toBytes bs.length (ofBytes bs) = bs := by
  induction bs using List.reverseRecOn with
  | nil => rfl
  | append_singleton bs b ih =>
    have hb : b.toNat < 256 := b.isLt
    rw [List.length_append, List.length_singleton, toBytes_succ_eq_append, ofBytes_append_singleton,
      show (ofBytes bs * 256 + b.toNat) / 256 = ofBytes bs by omega, ih]
    congr 2
    apply BitVec.eq_of_toNat_eq
    rw [BitVec.toNat_ofNat]
    omega

theorem crcBit_eq_crcStep : crcBit = crcStep := by
  funext r b
  simp [crcBit, crcStep]

theorem not_crcRegister (body : List Byte) : ~~~crcRegister body = crcOf body := by
  rw [crcRegister, crcBit_eq_crcStep]
  rfl

theorem crcBytes_length (body : List Byte) : (crcBytes body).length = 2 := toBytes_length 2 _

theorem fieldAt_crcBytes (body : List Byte) : fieldAt (crcBytes body) 0 2 = (crcOf body).toNat := by
  rw [fieldAt, List.drop_zero, List.take_of_length_le (by rw [crcBytes_length]), crcBytes, ofBytes_toBytes,
    not_crcRegister, Nat.mod_eq_of_lt (crcOf body).isLt]

theorem crcBytes_eq_iff {body crc : List Byte} (h : crc.length = 2) :
    crcBytes body = crc ↔ fieldAt crc 0 2 = (crcOf body).toNat := by
  refine ⟨fun k => k ▸ fieldAt_crcBytes body, fun k => ?_⟩
  rw [fieldAt, List.drop_zero, List.take_of_length_le (by rw [h])] at k
  rw [crcBytes, not_crcRegister, ← k, ← h, toBytes_ofBytes]

theorem crcPasses_append {body crc : List Byte} (h : crc.length = 2) :
    crcPasses (body ++ crc) = true ↔ fieldAt crc 0 2 = (crcOf body).toNat := by
  have hlen : (body ++ crc).length - 2 = body.length := by rw [List.length_append, h, Nat.add_sub_cancel]
  rw [crcPasses, hlen, List.take_left, List.drop_left, beq_iff_eq, crcBytes_eq_iff h]

/-! ### The channel bits of a frame (R12, R13) -/

theorem stuff_append (r : Run) (as bs : List Bool) :
    stuff r (as ++ bs) = ((stuff r as).1 ++ (stuff (stuff r as).2 bs).1, (stuff (stuff r as).2 bs).2) := by
  induction as generalizing r with
  | nil => rfl
  | cons a as ih =>
    rw [List.cons_append, stuff, stuff]
    split <;> simp [ih]

/-- The units of the body, one behind another, are its stuffed bits. -/
theorem stuffBytes_flatten (r : Run) (body : List Byte) :
    ((stuffBytes r body).1.flatten, (stuffBytes r body).2) = stuff r (airBits body) := by
  induction body generalizing r with
  | nil => rfl
  | cons b bs ih =>
    rw [airBits_cons, stuff_append, ← ih]
    rfl

/-- The bits on air end in the bit of their last run. -/
theorem Taken.getLast?_eq_true {air kept : List Bool} {bit : Bool} {run : Nat} (h : Taken air kept bit run) :
    air.getLast? = some true ↔ bit = true := by
  cases h <;> simp

theorem channelUnits_flatten (body : List Byte) : (channelUnits body).flatten = channelBits body := by
  obtain ⟨hflat, hrun⟩ := Prod.mk.inj (stuffBytes_flatten .start body)
  obtain ⟨htaken, -⟩ := Taken.atMark.stuff (r := .start) (by decide) (airBits body)
  rw [List.nil_append, List.nil_append] at htaken
  have hpad : ((if (stuffBytes .start body).2.bit then [[false]] else []) : List (List Bool)).flatten =
      if (stuff .start (airBits body)).1.getLast? = some true then [false] else [] := by
    rw [hrun]
    simp only [htaken.getLast?_eq_true]
    split <;> rfl
  simp only [channelUnits, List.flatten_append, hpad, hflat, channelBits]
  rfl

end Sys2Proof.Machine
end

section
/-! PROOFS. The body as the receiver reads it: the entry, the item and the target, the walk over the parts, and the frame
record (R39 to R46, R49 to R54). -/

namespace Sys2Proof.Machine

/-! ### Fields of bytes that others follow -/

theorem fieldAt_append_left {as : List Byte} {off len : Nat} (bs : List Byte) (h : off + len ≤ as.length) :
    fieldAt (as ++ bs) off len = fieldAt as off len := by
  rw [fieldAt, fieldAt, List.drop_append_of_le_length (by omega), List.take_append_of_le_length (by simp; omega)]

theorem fieldAt_drop (bs : List Byte) (n off len : Nat) : fieldAt (bs.drop n) off len = fieldAt bs (n + off) len := by
  rw [fieldAt, fieldAt, List.drop_drop]

theorem ofNat_fieldAt_eq_iff {n : Nat} {x : BitVec (8 * n)} {bs : List Byte} {off : Nat} :
    x = BitVec.ofNat (8 * n) (fieldAt bs off n) ↔ x.toNat = fieldAt bs off n := by
  rw [← BitVec.toNat_inj, toNat_ofNat_fieldAt]

/-! ### Codes (R41, R44) -/

theorem getElem?_kind_eq_some {n : Nat} {k : BinKind} (h : n < 4) :
    [BinKind.litter, .glass, .underground, .compacting][n]? = some k ↔ k = kindOf n := by
  interval_cases n <;> cases k <;> simp [kindOf]

theorem urgencyOf_eq_iff {n : Nat} {c : Urgency} (h : n < 4) : c = urgencyOf n ↔ c.val = n := by
  rw [urgencyOf, dif_pos h, Fin.ext_iff]

theorem malformed_iff (b : BinId) : BinId.malformed b ↔ validBinId b = false := by
  have hdistrict : b.toNat / 65536 < 256 := by have := b.isLt; omega
  rw [validBinId, decide_eq_false_iff_not, BinId.malformed, district, number]
  omega

theorem eq_not_validBinId_iff {m : Bool} {b : BinId} : m = !validBinId b ↔ (m = true ↔ BinId.malformed b) := by
  rw [malformed_iff]
  cases m <;> cases validBinId b <;> simp

/-! ### The report entry (R43, R44, R54) -/

/-- How many bytes an entry with this flags byte has on air. -/
def entryLength (flags : Byte) : Nat := if flags.getLsbD 0 then 16 else 14

/-- The entry that the bytes from the front of a list give. -/
def entryOfBytes (bs : List Byte) : RxEntry :=
  let flags := BitVec.ofNat 8 (fieldAt bs 5 1)
  { report :=
      { binId := BitVec.ofNat 24 (fieldAt bs 0 3), seq := BitVec.ofNat 16 (fieldAt bs 3 2),
        kind := kindOf (flags.toNat / 64), cls := urgencyOf (flags.toNat / 16 % 4), overfull := flags.getLsbD 3,
        emptied := flags.getLsbD 2, fault := flags.getLsbD 1, level := min 1000 (fieldAt bs 6 2), rate := fieldAt bs 8 2,
        ttf := fieldAt bs 10 2, since := if flags.getLsbD 0 then some (fieldAt bs 14 2) else none },
    age := fieldAt bs 12 2 / 16, hops := fieldAt bs 12 2 % 16, malformed := !validBinId (BitVec.ofNat 24 (fieldAt bs 0 3)) }

theorem readEntryBytes_eq (bs : List Byte) :
    readEntryBytes bs =
      if bs.length < 6 ∨ bs.length < entryLength (BitVec.ofNat 8 (fieldAt bs 5 1)) then none
      else some (entryOfBytes bs, bs.drop (entryLength (BitVec.ofNat 8 (fieldAt bs 5 1)))) := rfl

theorem entryLength_range (flags : Byte) : 14 ≤ entryLength flags ∧ entryLength flags ≤ 16 := by
  unfold entryLength
  split <;> omega

theorem RxEntry.readsAs_iff {b : List Byte} {e : RxEntry} :
    e.readsAs b ↔ b.length = entryLength (BitVec.ofNat 8 (fieldAt b 5 1)) ∧ e = entryOfBytes b := by
  have hrange := entryLength_range (BitVec.ofNat 8 (fieldAt b 5 1))
  have hbyte : ∀ fl : Byte, fl.toNat / 64 < 4 ∧ fl.toNat / 16 % 4 < 4 := fun fl => by
    have := fl.isLt
    omega
  constructor
  · rintro ⟨fl, hfl, hlen, hbin, hseq, hkind, hcls, hover, hemptied, hfault, hlevel, hrate, httf, hage, hhops, hsince,
      hmalformed⟩
    obtain ⟨hfive, -⟩ := List.getElem?_eq_some_iff.1 hfl
    obtain rfl : BitVec.ofNat 8 (fieldAt b 5 1) = fl := Option.some.inj ((getElem?_eq_fieldAt b 5 hfive).symm.trans hfl)
    refine ⟨hlen, ?_⟩
    obtain ⟨⟨bin, seq, kind, cls, overfull, emptied, fault, level, rate, ttf, since⟩, age, hops, malformed⟩ := e
    dsimp only at *
    rw [getElem?_kind_eq_some (hbyte _).1] at hkind
    rw [← urgencyOf_eq_iff (hbyte _).2] at hcls
    rw [← ofNat_fieldAt_eq_iff (n := 3)] at hbin
    rw [← ofNat_fieldAt_eq_iff (n := 2)] at hseq
    rw [← eq_not_validBinId_iff] at hmalformed
    subst hkind hcls hbin hseq hmalformed hover hemptied hfault hlevel hrate httf hage hhops hsince
    rfl
  · rintro ⟨hlen, rfl⟩
    refine ⟨_, getElem?_eq_fieldAt b 5 (by omega), hlen, ofNat_fieldAt_eq_iff (n := 3).1 rfl,
      ofNat_fieldAt_eq_iff (n := 2).1 rfl, (getElem?_kind_eq_some (hbyte _).1).2 rfl, (urgencyOf_eq_iff (hbyte _).2).1 rfl,
      rfl, rfl, rfl, rfl, rfl, rfl, rfl, rfl, rfl, eq_not_validBinId_iff.1 rfl⟩

/-- The entry is that of its own bytes, whatever follows them. -/
theorem entryOfBytes_append {b : List Byte} (rest : List Byte)
    (h : b.length = entryLength (BitVec.ofNat 8 (fieldAt b 5 1))) : entryOfBytes (b ++ rest) = entryOfBytes b := by
  have hrange := entryLength_range (BitVec.ofNat 8 (fieldAt b 5 1))
  have hfield : ∀ off len, off + len ≤ 14 → fieldAt (b ++ rest) off len = fieldAt b off len := fun off len hle =>
    fieldAt_append_left rest (by omega)
  simp only [entryOfBytes, hfield 0 3 (by omega), hfield 3 2 (by omega), hfield 5 1 (by omega), hfield 6 2 (by omega),
    hfield 8 2 (by omega), hfield 10 2 (by omega), hfield 12 2 (by omega)]
  split
  · next hsince =>
    rw [entryLength, if_pos hsince] at h
    rw [fieldAt_append_left rest (by omega)]
  · rfl

/-- An entry is read from the bytes in front that it reads as. -/
theorem readEntryBytes_eq_some {bs rest : List Byte} {e : RxEntry} :
    readEntryBytes bs = some (e, rest) ↔ ∃ b, bs = b ++ rest ∧ e.readsAs b := by
  rw [readEntryBytes_eq]
  constructor
  · intro h
    split at h
    · cases h
    · next hlen =>
      obtain ⟨rfl, rfl⟩ := Prod.mk.inj (Option.some.inj h)
      have hrange := entryLength_range (BitVec.ofNat 8 (fieldAt bs 5 1))
      set n := entryLength (BitVec.ofNat 8 (fieldAt bs 5 1)) with hn
      have hfront : (bs.take n).length = n := List.length_take_of_le (by omega)
      have hflags : fieldAt (bs.take n) 5 1 = fieldAt bs 5 1 := by
        conv_rhs => rw [← List.take_append_drop n bs]
        exact (fieldAt_append_left _ (by omega)).symm
      have hown : (bs.take n).length = entryLength (BitVec.ofNat 8 (fieldAt (bs.take n) 5 1)) := by rw [hflags, hfront]
      refine ⟨bs.take n, (List.take_append_drop n bs).symm, RxEntry.readsAs_iff.2 ⟨hown, ?_⟩⟩
      rw [← entryOfBytes_append (bs.drop n) hown, List.take_append_drop]
  · rintro ⟨b, rfl, hreads⟩
    obtain ⟨hlen, rfl⟩ := RxEntry.readsAs_iff.1 hreads
    have hrange := entryLength_range (BitVec.ofNat 8 (fieldAt b 5 1))
    rw [fieldAt_append_left rest (by omega), ← hlen, if_neg (by rw [List.length_append]; omega), List.drop_left,
      entryOfBytes_append rest hlen]

/-- The walk over the entries of a FILL body (R50). -/
theorem readEntries_eq_some {n : Nat} {bs : List Byte} {es : List RxEntry} :
    readEntries n bs = some es ↔
      es.length = n ∧ ∃ chunks : List (List Byte), bs = chunks.flatten ∧ List.Forall₂ RxEntry.readsAs chunks es := by
  induction n generalizing bs es with
  | zero =>
    rw [readEntries]
    constructor
    · intro h
      split at h
      · next hempty =>
        cases h
        exact ⟨rfl, [], List.isEmpty_iff.1 hempty, .nil⟩
      · cases h
    · rintro ⟨hlen, chunks, rfl, hall⟩
      obtain rfl := List.length_eq_zero_iff.1 hlen
      cases hall
      rfl
  | succ n ih =>
    rw [readEntries]
    constructor
    · intro h
      split at h
      · cases h
      · next e rest he =>
        split at h
        · cases h
        · next es' hes =>
          cases h
          obtain ⟨b, rfl, hreads⟩ := readEntryBytes_eq_some.1 he
          obtain ⟨rfl, chunks, rfl, hall⟩ := ih.1 hes
          exact ⟨rfl, b :: chunks, rfl, .cons hreads hall⟩
    · rintro ⟨hlen, chunks, rfl, hall⟩
      cases hall with
      | nil => cases hlen
      | @cons b e chunks es hreads hall =>
        rw [List.flatten_cons, readEntryBytes_eq_some.2 ⟨b, rfl, hreads⟩]
        dsimp only
        rw [ih.2 ⟨Nat.succ.inj hlen, chunks, rfl, hall⟩]

/-! ### The drain item (R46, R54) -/

/-- The item that the bytes from the front of a list give. -/
def itemOfBytes (bs : List Byte) : RxItem :=
  { binId := BitVec.ofNat 24 (fieldAt bs 0 3), seq := BitVec.ofNat 16 (fieldAt bs 3 2),
    malformed := !validBinId (BitVec.ofNat 24 (fieldAt bs 0 3)) }

theorem RxItem.readsAs_iff {b : List Byte} {i : RxItem} : i.readsAs b ↔ b.length = 5 ∧ i = itemOfBytes b := by
  constructor
  · rintro ⟨hlen, hbin, hseq, hmalformed⟩
    obtain ⟨bin, seq, malformed⟩ := i
    dsimp only at *
    rw [← ofNat_fieldAt_eq_iff (n := 3)] at hbin
    rw [← ofNat_fieldAt_eq_iff (n := 2)] at hseq
    rw [← eq_not_validBinId_iff] at hmalformed
    subst hbin hseq hmalformed
    exact ⟨hlen, rfl⟩
  · rintro ⟨hlen, rfl⟩
    exact ⟨hlen, ofNat_fieldAt_eq_iff (n := 3).1 rfl, ofNat_fieldAt_eq_iff (n := 2).1 rfl, eq_not_validBinId_iff.1 rfl⟩

theorem itemOfBytes_append {b : List Byte} (rest : List Byte) (h : b.length = 5) :
    itemOfBytes (b ++ rest) = itemOfBytes b := by
  simp only [itemOfBytes, fieldAt_append_left rest (show 0 + 3 ≤ b.length by omega),
    fieldAt_append_left rest (show 3 + 2 ≤ b.length by omega)]

theorem readItems_succ (n : Nat) (bs : List Byte) :
    readItems (n + 1) bs =
      if bs.length < 5 then none else (readItems n (bs.drop 5)).map (fun is => itemOfBytes bs :: is) := by
  rw [readItems]
  dsimp only
  split
  · rfl
  · cases readItems n (bs.drop 5) <;> rfl

/-- The walk over the items of a DRAIN body (R50). -/
theorem readItems_eq_some {n : Nat} {bs : List Byte} {is : List RxItem} :
    readItems n bs = some is ↔
      is.length = n ∧ ∃ chunks : List (List Byte), bs = chunks.flatten ∧ List.Forall₂ RxItem.readsAs chunks is := by
  induction n generalizing bs is with
  | zero =>
    rw [readItems]
    constructor
    · intro h
      split at h
      · next hempty =>
        cases h
        exact ⟨rfl, [], List.isEmpty_iff.1 hempty, .nil⟩
      · cases h
    · rintro ⟨hlen, chunks, rfl, hall⟩
      obtain rfl := List.length_eq_zero_iff.1 hlen
      cases hall
      rfl
  | succ n ih =>
    rw [readItems_succ]
    constructor
    · intro h
      split at h
      · cases h
      · next hlen =>
        obtain ⟨is', his, rfl⟩ := Option.map_eq_some_iff.1 h
        obtain ⟨rfl, chunks, hchunks, hall⟩ := ih.1 his
        have hfront : (bs.take 5).length = 5 := List.length_take_of_le (by omega)
        refine ⟨rfl, bs.take 5 :: chunks, by rw [List.flatten_cons, ← hchunks, List.take_append_drop],
          .cons (RxItem.readsAs_iff.2 ⟨hfront, ?_⟩) hall⟩
        rw [← itemOfBytes_append (bs.drop 5) hfront, List.take_append_drop]
    · rintro ⟨hlen, chunks, rfl, hall⟩
      cases hall with
      | nil => cases hlen
      | @cons b i chunks is hreads hall =>
        obtain ⟨hfive, rfl⟩ := RxItem.readsAs_iff.1 hreads
        rw [List.flatten_cons, if_neg (by rw [List.length_append]; omega), List.drop_left' hfive,
          ih.2 ⟨Nat.succ.inj hlen, chunks, rfl, hall⟩, itemOfBytes_append _ hfive]
        rfl

end Sys2Proof.Machine
end

section
/-! PROOFS. The frame record of a body, and the verdict on the bits behind the opening mark (R14 to R18, R49 to R52; O36). -/

namespace Sys2Proof.Machine

section
variable {body crc : List Byte} {seen : Option Bool} {second : Nat} {f : RxFrame}

/-! ### The frame record (R49 to R52) -/

theorem urgencyOf_min {c : Urgency} (n : Nat) : c = urgencyOf n ↔ c.val = min 3 n := by
  unfold urgencyOf
  split
  · rw [Fin.ext_iff]
    dsimp only
    omega
  · rw [Fin.ext_iff, show min 3 n = 3 by omega]
    rfl

theorem readTarget_eq_iff {t : Target} {bs : List Byte} :
    t = readTarget bs ↔
      t.binId.toNat = fieldAt bs 0 3 ∧ t.mask.toNat = fieldAt bs 3 3 ∧ t.maxClass.val = min 3 (fieldAt bs 6 1) := by
  obtain ⟨bin, mask, maxClass⟩ := t
  rw [readTarget, Target.mk.injEq, urgencyOf_min, ofNat_fieldAt_eq_iff (n := 3), ofNat_fieldAt_eq_iff (n := 3)]

/-- A body with its CRC reads as the record exactly when it passes every check of the body. -/
theorem readBody_eq_some (hcrc : crc.length = 2) (hbody : 4 ≤ body.length) :
    readBody (body ++ crc) seen second = some f ↔ f.readsAs body seen second := by
  have hparts : ((body ++ crc).take ((body ++ crc).length - 2)).drop 4 = body.drop 4 := by
    rw [List.length_append, hcrc, Nat.add_sub_cancel, List.take_left]
  have hfirst : fieldAt (body ++ crc) 0 1 = fieldAt body 0 1 := fieldAt_append_left crc (by omega)
  have hsender : fieldAt (body ++ crc) 1 3 = fieldAt body 1 3 := fieldAt_append_left crc (by omega)
  obtain ⟨sender, rxTime, parts⟩ := f
  simp only [readBody, hparts, hfirst, hsender, RxFrame.readsAs, ← ofNat_fieldAt_eq_iff (n := 3)]
  generalize fieldAt body 0 1 = first
  constructor
  · intro h
    split_ifs at h with hkind hok hkind' hok' hkind'' hok''
    · obtain ⟨es, hes, hrecord⟩ := Option.map_eq_some_iff.1 h
      cases hrecord
      obtain ⟨hlen, hchunks⟩ := readEntries_eq_some.1 hes
      exact ⟨rfl, rfl, by omega, by omega, hlen ▸ hok.2.1, hok.2.2, hchunks⟩
    · cases h
      obtain ⟨hbin, hmask, hcls⟩ := readTarget_eq_iff (t := readTarget (body.drop 4)).1 rfl
      rw [fieldAt_drop] at hbin hmask hcls
      have hlen := hok'.2.1
      rw [List.length_drop] at hlen
      exact ⟨rfl, rfl, by omega, by omega, hok'.2.2, ofNat_fieldAt_eq_iff (n := 3).2 hbin,
        ofNat_fieldAt_eq_iff (n := 3).2 hmask, hcls⟩
    · obtain ⟨is, his, hrecord⟩ := Option.map_eq_some_iff.1 h
      cases hrecord
      obtain ⟨hlen, hchunks⟩ := readItems_eq_some.1 his
      exact ⟨rfl, rfl, by omega, by omega, hlen ▸ hok''.2.1, hok''.2.2, hchunks⟩
  · rintro ⟨rfl, rfl, h⟩
    cases parts with
    | fill es =>
      obtain ⟨hfirst, hmin, hmax, hseen, hchunks⟩ := h
      rw [if_pos (by omega), if_pos ⟨by omega, by simp only [Config.fillMax]; omega, hseen⟩,
        readEntries_eq_some.2 ⟨by omega, hchunks⟩]
      rfl
    | solicit t =>
      obtain ⟨hfirst, hlen, hseen, hbin, hmask, hcls⟩ := h
      have htarget : t = readTarget (body.drop 4) :=
        readTarget_eq_iff.2 ⟨by rw [fieldAt_drop]; exact ofNat_fieldAt_eq_iff (n := 3).1 hbin,
          by rw [fieldAt_drop]; exact ofNat_fieldAt_eq_iff (n := 3).1 hmask, by rw [fieldAt_drop]; exact hcls⟩
      rw [if_neg (by omega), if_pos (by omega), if_pos ⟨by omega, by simp only [List.length_drop]; omega, hseen⟩, htarget]
    | drain is =>
      obtain ⟨hfirst, hmin, hmax, hseen, hchunks⟩ := h
      rw [if_neg (by omega), if_neg (by omega), if_pos (by omega),
        if_pos ⟨by omega, by simp only [Config.drainMax]; omega, hseen⟩, readItems_eq_some.2 ⟨by omega, hchunks⟩]
      rfl

/-! ### The verdict (R14 to R18) -/

/-- Kept bits give the record exactly when they close with a body that passes the CRC check and reads as the record. -/
theorem goodBody_iff {kept : List Bool} (hlen : kept.length < 696) :
    goodBody kept seen second f ↔
      ∃ body, closeBody kept = some body ∧ crcPasses body = true ∧ readBody body seen second = some f := by
  constructor
  · rintro ⟨body, crc, hkept, hmin, -, hcrc, hvalue, hreads⟩
    exact ⟨body ++ crc, closeBody_eq_some.2 ⟨by rw [List.length_append]; omega, hkept⟩, (crcPasses_append hcrc).2 hvalue,
      (readBody_eq_some hcrc hmin).2 hreads⟩
  · rintro ⟨whole, hclose, hpasses, hread⟩
    obtain ⟨hmin, hkept⟩ := closeBody_eq_some.1 hclose
    have hmax : whole.length ≤ 86 := by
      rcases hkept with rfl | rfl
      · rw [airBits_length] at hlen
        omega
      · rw [List.length_append, airBits_length] at hlen
        omega
    have hcrc : (whole.drop (whole.length - 2)).length = 2 := by
      rw [List.length_drop]
      omega
    have hbody : (whole.take (whole.length - 2)).length = whole.length - 2 := List.length_take_of_le (by omega)
    rw [← List.take_append_drop (whole.length - 2) whole] at hkept hpasses hread
    exact ⟨_, _, hkept, by omega, by omega, hcrc, (crcPasses_append hcrc).1 hpasses,
      (readBody_eq_some hcrc (by omega)).1 hread⟩

theorem judge_of_unfinished {rxd : List Bool} (h : takeBits .start rxd = .unfinished) :
    judge rxd seen second = .unfinished := by
  simp [judge, h]

theorem judge_of_broken {rxd : List Bool} (h : takeBits .start rxd = .broken) : judge rxd seen second = .bad := by
  simp [judge, h]

/-- Bits that close are judged by their body. -/
theorem judge_good_of_closed {rxd kept : List Bool} (h : takeBits .start rxd = .closed kept) (hlen : kept.length < 696) :
    judge rxd seen second = .good f ↔ goodBody kept seen second f := by
  simp only [goodBody_iff hlen, judge, h]
  cases hclose : closeBody kept with
  | none => simp
  | some body =>
    cases hcrc : crcPasses body with
    | false => simp [hcrc]
    | true => cases hread : readBody body seen second <;> simp [hcrc, hread]

/-- Bits that close are judged good or bad. -/
theorem judge_bad_of_closed {rxd kept : List Bool} (h : takeBits .start rxd = .closed kept) (hlen : kept.length < 696) :
    judge rxd seen second = .bad ↔ ∀ f, ¬ goodBody kept seen second f := by
  simp only [← judge_good_of_closed h hlen]
  have hends : judge rxd seen second ≠ .unfinished := by
    simp only [judge, h]
    repeat' split
    all_goals nofun
  cases hverdict : judge rxd seen second with
  | good f => simp
  | bad => simp
  | unfinished => exact absurd hverdict hends

/-- A body that gives a record is at most 86 bytes, with a pad at most. -/
theorem goodBody.length_le {kept : List Bool} (h : goodBody kept seen second f) : kept.length ≤ 689 := by
  obtain ⟨body, crc, hkept, -, hmax, hcrc, -⟩ := h
  have hair := airBits_length (body ++ crc)
  rw [List.length_append] at hair
  rcases hkept with rfl | rfl
  · omega
  · rw [List.length_append, List.length_singleton]
    omega

/-- Bits are judged good exactly when they close with a good body. -/
theorem judge_good_iff {rxd : List Bool} :
    judge rxd seen second = .good f ↔ ∃ kept, closesWith rxd kept ∧ goodBody kept seen second f := by
  constructor
  · intro h
    rcases Taken.atMark.ends (by simp) rxd with ⟨kept, hcloses⟩ | hbreaks | hunfinished
    · rcases takeBits_of_closesWith hcloses with ⟨hclosed, hlen⟩ | ⟨hbroken, -⟩
      · exact ⟨kept, hcloses, (judge_good_of_closed hclosed hlen).1 h⟩
      · exact absurd ((judge_of_broken hbroken).symm.trans h) nofun
    · exact absurd ((judge_of_broken (takeBits_of_breaksOff hbreaks)).symm.trans h) nofun
    · exact absurd ((judge_of_unfinished hunfinished).symm.trans h) nofun
  · rintro ⟨kept, hcloses, hgood⟩
    have hlen := hgood.length_le
    obtain ⟨hclosed, -⟩ := (takeBits_of_closesWith hcloses).resolve_right fun k => by omega
    exact (judge_good_of_closed hclosed (by omega)).2 hgood

theorem judge_bad_iff {rxd : List Bool} :
    judge rxd seen second = .bad ↔
      breaksOff rxd ∨ ∃ kept, closesWith rxd kept ∧ ∀ f, ¬ goodBody kept seen second f := by
  constructor
  · intro h
    rcases Taken.atMark.ends (by simp) rxd with ⟨kept, hcloses⟩ | hbreaks | hunfinished
    · refine .inr ⟨kept, hcloses, ?_⟩
      rcases takeBits_of_closesWith hcloses with ⟨hclosed, hlen⟩ | ⟨-, hlen⟩
      · exact (judge_bad_of_closed hclosed hlen).1 h
      · intro f hgood
        have := hgood.length_le
        omega
    · exact .inl hbreaks
    · exact absurd ((judge_of_unfinished hunfinished).symm.trans h) nofun
  · rintro (hbreaks | ⟨kept, hcloses, hnot⟩)
    · exact judge_of_broken (takeBits_of_breaksOff hbreaks)
    · rcases takeBits_of_closesWith hcloses with ⟨hclosed, hlen⟩ | ⟨hbroken, -⟩
      · exact (judge_bad_of_closed hclosed hlen).2 hnot
      · exact judge_of_broken hbroken

end

end Sys2Proof.Machine
end

section
/-! PROOFS. The bad frame and the end of the echo slot (O36). -/

namespace Sys2Proof.Machine

section
variable {s : State} {rxd : List Bool} {seen : Option Bool} {second : Nat} {f : RxFrame}

/-- What follows the closing mark is not read. -/
theorem closesWith.append {kept : List Bool} (h : closesWith rxd kept) (more : List Bool) :
    closesWith (rxd ++ more) kept := by
  obtain ⟨air, run, after, htaken, rfl⟩ := h
  exact ⟨air, run, after ++ more, htaken, List.append_assoc ..⟩

theorem judge_good_append (h : judge rxd seen second = .good f) (more : List Bool) :
    judge (rxd ++ more) seen second = .good f := by
  obtain ⟨kept, hcloses, hgood⟩ := judge_good_iff.1 h
  exact judge_good_iff.2 ⟨kept, hcloses.append more, hgood⟩

theorem endsBad_iff {carrier : Bool} :
    endsBad rxd seen second carrier = true ↔
      judge rxd seen second = .bad ∨ judge rxd seen second = .unfinished ∧ carrier = false := by
  unfold endsBad
  cases judge rxd seen second <;> simp

theorem exec_badFrame_bad {carrier : Bool} (hstate : s.eng.state = .receiving) (honAir : s.eng.onAir ≠ none)
    (hbad : endsBad rxd s.eng.kindObs s.clock carrier = true) :
    exec (.badFrame rxd carrier) s = .next { s.monitorBad with
      eng := s.awakeAgain carrier { s.eng with kindObs := none } } := by
  have hexec : exec (.badFrame rxd carrier) s = .next ((State.frameEnd carrier
      { s.monitorBad with eng := { s.monitorBad.eng with kindObs := none } }).engineSettle) :=
    if_pos ⟨hstate, Option.isSome_iff_ne_none.2 honAir, hbad⟩
  rw [hexec, State.frameEnd_engineSettle]
  have hrole : s.monitorBad.role = s.role := by rw [State.role, State.cfg_congr (t := s.monitorBad) (s := s) (by simp)]; rfl
  have hcfg : s.monitorBad.cfg = s.cfg := State.cfg_congr (by simp)
  have heng : s.monitorBad.eng = s.eng := by simp
  have hawake : State.awakeAgain { s.monitorBad with eng := { s.monitorBad.eng with kindObs := none } } carrier
      { s.monitorBad.eng with kindObs := none } = s.awakeAgain carrier { s.eng with kindObs := none } := by
    simp only [State.awakeAgain, heng]
    rw [show ({ s.monitorBad with eng := { s.eng with kindObs := none } } : State).role = s.role from hrole,
      show ({ s.monitorBad with eng := { s.eng with kindObs := none } } : State).cfg = s.cfg from hcfg]
  rw [hawake]

end

end Sys2Proof.Machine
end

section
open Sys2Proof Sys2Proof.Machine

/-- Settles O36: the verdict is read off the bits on air that close or break off, and the end of the frame moves the
engine behind the monitor's report. -/
theorem badFrameAndEchoSlotEnd : Obligations.BadFrameAndEchoSlotEnd := by
  refine ⟨fun rxd seen second => ⟨fun f => judge_good_iff, judge_bad_iff⟩, fun s carrier => ⟨?_, ?_, ?_, ?_⟩⟩
  · intro rxd hstate honAir hverdict
    refine ⟨_, exec_badFrame_bad hstate honAir (endsBad_iff.2 hverdict), ?_⟩
    have hmoves := s.setMonitor_moves_only s.mon.bad
    have htable := s.setMonitor_sameAside s.mon.bad
    have hsame := State.setMonitor_of_same (s := s) (m := s.mon.bad)
    have hsettles := State.setMonitor_settles (s := s) (m := s.mon.bad)
    have hflags := s.setMonitor_flags s.mon.bad
    have hmon := s.setMonitor_mon s.mon.bad
    rw [State.monitorBad]
    generalize s.setMonitor s.mon.bad = u at *
    refine ⟨?_, htable, fun hstanding => ?_, fun hchanged => hsettles (hmon ▸ hchanged), fun i => ?_⟩
    · conv_lhs => rw [hmoves]
    · have h := hsame (hmon ▸ hstanding)
      rw [h]
      exact ⟨rfl, rfl⟩
    · rw [Bool.eq_iff_iff, hflags, ← hmon]
      simp
  · intro rxd after f hgood
    refine if_neg fun ⟨_, _, hbad⟩ => ?_
    rcases endsBad_iff.1 hbad with k | ⟨k, -⟩
    · exact absurd ((judge_good_append hgood after).symm.trans k) nofun
    · exact absurd ((judge_good_append hgood after).symm.trans k) nofun
  · intro rxd first hnot
    by_cases hstate : s.eng.state = .receiving ∧ s.eng.onAir.isSome = true
    · refine (if_pos hstate).trans ?_
      split
      · next f hgood => exact absurd hgood (hnot f)
      · rfl
    · exact if_neg hstate
  · intro hstate
    refine (if_pos hstate).trans ?_
    rw [State.frameEnd_engineSettle]

end

section
/-! PROOFS. The won field, the frame it puts on air, and its closing mark (O33). -/

namespace Sys2Proof.Machine

section
variable {s : State} {x : StageSlot}

/-- What a won field moves: the condition of STAGE, the allowance a frame is charged for, and a probe's timer. -/
theorem State.fieldWon_eq (h : s.sel.stage = some x) :
    s.fieldWon = { s with
      sel := { s.sel with
        stage := some { x with cond := .sending },
        allowance := s.sel.allowance - if x.frame.isFill && !x.frame.leadExempt && !x.frame.isProbe then 1 else 0 },
      mon := { s.mon with probeTimer := if x.frame.isProbe then s.cfg.probeInterval else s.mon.probeTimer } } := by
  simp only [State.fieldWon, h, State.spend]
  cases x.frame.isFill && !x.frame.leadExempt && !x.frame.isProbe <;> cases x.frame.isProbe <;> rfl

/-- A FILL frame is charged for unless it is a probe or its lead is exempt (R130). -/
theorem FrameRec.charge_fill {f : FrameRec} {lead : Frozen} {rest : List Frozen} {probe : Bool}
    (h : f.payload = .fill (lead :: rest) probe) :
    (if f.isFill && !f.leadExempt && !f.isProbe then 1 else 0) =
      if probe = true ∨ lead.origin = .own ∨ lead.report.cls = 0 then 0 else 1 := by
  have hexempt : f.leadExempt = true ↔ lead.origin = .own ∨ lead.report.cls = 0 := by
    simp [FrameRec.leadExempt, FrameRec.lead, h, Frozen.exempt]
  have hfill : f.isFill = true := by simp [FrameRec.isFill, h]
  have hprobe : f.isProbe = probe := by simp [FrameRec.isProbe, h]
  simp only [hfill, hprobe, ← hexempt]
  cases probe <;> cases f.leadExempt <;> rfl

theorem exec_fieldEnd_won {key : Key} {isFill : Bool} (hstate : s.eng.state = .field) (hslot : s.eng.slot = 17)
    (hpart : s.eng.part = .contender key isFill) (hstage : s.sel.stage = some x) :
    exec .fieldEnd s = .next { s.fieldWon with
      eng := s.fieldWon.eng.enterSending (x.frame.body s.cfg.stationId s.clock) } := by
  refine (if_pos ⟨hstate, hslot⟩).trans ?_
  rw [hpart, hstage]
  rfl

theorem OnAir.sending_flatten (body : List Byte) : (OnAir.sending body).units.flatten = channelBits body :=
  channelUnits_flatten body

end

end Sys2Proof.Machine
end

section
open Sys2Proof Sys2Proof.Machine

/-- Settles O33: a won field moves the slot, the charge and the probe timer, and puts the frame's body on the channel
with its CRC. -/
theorem fieldEndAndClosingMark : Obligations.FieldEndAndClosingMark := by
  refine ⟨fun s x key isFill hstate hslot hpart hstage => ?_, fun s => ⟨fun hstate hslot hpart => ?_, fun hstate => ?_⟩⟩
  · refine ⟨_, x.frame.body s.cfg.stationId s.clock, exec_fieldEnd_won hstate hslot hpart hstage,
      OnAir.sending_flatten _, fieldAt_crcBytes _, ?_⟩
    rw [State.fieldWon_eq hstage]
    refine ⟨rfl, fun es probe hf => ?_, fun items hf => ?_, fun target n hf => ?_⟩
    · refine ⟨by simp only [FrameRec.body, hf]; rfl, by simp [FrameRec.isProbe, hf], ?_⟩
      rintro lead rest rfl
      exact congrArg (s.sel.allowance - ·) (FrameRec.charge_fill hf)
    · exact ⟨by simp only [FrameRec.body, hf], by simp [FrameRec.isFill, hf], by simp [FrameRec.isProbe, hf]⟩
    · exact ⟨by simp only [FrameRec.body, hf], by simp [FrameRec.isFill, hf], by simp [FrameRec.isProbe, hf]⟩
  · refine (if_pos ⟨hstate, hslot⟩).trans ?_
    have hnot : s.eng.part.contends = false := by
      rcases hpart with k | k <;> rw [k] <;> rfl
    rw [hnot]
    rfl
  · exact if_pos hstate

end

section
/-! PROOFS. The layouts of header, entry, target and item, and the frame sent read back (O50). -/

namespace Sys2Proof.Machine

/-! ### Layouts (R39, R43, R54) -/

section
variable {fields : List (Nat × Nat)} {i off len v : Nat}

/-- A field that holds its value whole. -/
theorem fieldAt_layoutBytes_of_lt (hf : fields[i]? = some (len, v)) (hv : v < 2 ^ (8 * len))
    (hoff : ((fields.map Prod.fst).take i).sum = off) : fieldAt (layoutBytes fields) off len = v := by
  rw [fieldAt_layoutBytes hf hoff, Nat.mod_eq_of_lt hv]

end

theorem headerBytes_eq (kind count : Nat) (sender : BinId) :
    headerBytes kind count sender = layoutBytes [(1, kind * 16 + count), (3, sender.toNat)] := by
  simp [headerBytes, layoutBytes, toBytes_one]

theorem headerBytes_length (kind count : Nat) (sender : BinId) : (headerBytes kind count sender).length = 4 := by
  rw [headerBytes_eq, layoutBytes_length]
  rfl

theorem headerBytes_fields {kind count : Nat} (sender : BinId) (hkind : kind < 16) (hcount : count < 16) :
    fieldAt (headerBytes kind count sender) 0 1 = kind * 16 + count ∧
      fieldAt (headerBytes kind count sender) 1 3 = sender.toNat := by
  rw [headerBytes_eq]
  exact ⟨fieldAt_layoutBytes_of_lt (i := 0) rfl (by omega) rfl, fieldAt_layoutBytes_of_lt (i := 1) rfl sender.isLt rfl⟩

/-- A body behind its header: the kind and count, the sender, and the rest. -/
theorem headerBytes_append {kind count : Nat} (sender : BinId) (bytes : List Byte) (hkind : kind < 16) (hcount : count < 16) :
    fieldAt (headerBytes kind count sender ++ bytes) 0 1 = kind * 16 + count ∧
      sender.toNat = fieldAt (headerBytes kind count sender ++ bytes) 1 3 ∧
      (headerBytes kind count sender ++ bytes).drop 4 = bytes ∧
      (headerBytes kind count sender ++ bytes).length = 4 + bytes.length := by
  have hlen := headerBytes_length kind count sender
  obtain ⟨hfirst, hsender⟩ := headerBytes_fields sender hkind hcount
  rw [fieldAt_append_left bytes (by omega), fieldAt_append_left bytes (by omega), List.length_append, hlen]
  exact ⟨hfirst, hsender.symm, List.drop_left' hlen, rfl⟩

theorem flatMap_length_le {α : Type} (l : List α) (g : α → List Byte) (n : Nat) (h : ∀ x ∈ l, (g x).length ≤ n) :
    (l.flatMap g).length ≤ n * l.length := by
  rw [List.length_flatMap, Nat.mul_comm]
  simpa using List.sum_le_card_nsmul (l.map fun x => (g x).length) n (by simpa using h)

/-- The fields of a report entry on air, in the order of R54. -/
def Report.airFields (r : Report) (age hops : Nat) : List (Nat × Nat) :=
  [(3, r.binId.toNat), (2, r.seq.toNat), (1, r.flagsByte.toNat), (2, r.level), (2, r.rate), (2, r.ttf),
    (2, age * 16 + hops)] ++
    match r.since with
    | some m => [(2, m)]
    | none => []

theorem entryBytes_eq (r : Report) (age hops : Nat) : entryBytes r age hops = layoutBytes (r.airFields age hops) := by
  unfold entryBytes Report.airFields
  cases r.since <;> simp [layoutBytes, toBytes_one_toNat]

theorem entryBytes_length (r : Report) (age hops : Nat) :
    (entryBytes r age hops).length = if r.since = none then 14 else 16 := by
  rw [entryBytes_eq, layoutBytes_length, Report.airFields]
  cases r.since <;> simp

section
variable (r : Report) {age hops : Nat}

theorem entryBytes_identity :
    fieldAt (entryBytes r age hops) 0 3 = r.binId.toNat ∧ fieldAt (entryBytes r age hops) 3 2 = r.seq.toNat ∧
      (entryBytes r age hops)[5]? = some r.flagsByte := by
  rw [entryBytes_eq]
  exact ⟨fieldAt_layoutBytes_of_lt (i := 0) rfl r.binId.isLt rfl, fieldAt_layoutBytes_of_lt (i := 1) rfl r.seq.isLt rfl,
    getElem?_layoutBytes (i := 2) rfl rfl⟩

theorem entryBytes_figures :
    fieldAt (entryBytes r age hops) 6 2 = r.level % 2 ^ 16 ∧ fieldAt (entryBytes r age hops) 8 2 = r.rate % 2 ^ 16 ∧
      fieldAt (entryBytes r age hops) 10 2 = r.ttf % 2 ^ 16 := by
  rw [entryBytes_eq]
  exact ⟨fieldAt_layoutBytes (i := 3) rfl rfl, fieldAt_layoutBytes (i := 4) rfl rfl, fieldAt_layoutBytes (i := 5) rfl rfl⟩

theorem entryBytes_age (hage : age ≤ 4095) (hhops : hops ≤ 15) :
    fieldAt (entryBytes r age hops) 12 2 = age * 16 + hops := by
  rw [entryBytes_eq]
  exact fieldAt_layoutBytes_of_lt (i := 6) rfl (by omega) rfl

theorem entryBytes_since {m : Nat} (h : r.since = some m) : fieldAt (entryBytes r age hops) 14 2 = m % 2 ^ 16 := by
  have hfields : r.airFields age hops = [(3, r.binId.toNat), (2, r.seq.toNat), (1, r.flagsByte.toNat), (2, r.level),
      (2, r.rate), (2, r.ttf), (2, age * 16 + hops), (2, m)] := by
    rw [Report.airFields, h]
    rfl
  rw [entryBytes_eq, hfields]
  exact fieldAt_layoutBytes (i := 7) rfl rfl

/-- The marks in the four low bits of the flags byte (R43). -/
theorem flagsByte_marks :
    r.flagsByte.getLsbD 3 = r.overfull ∧ r.flagsByte.getLsbD 2 = r.emptied ∧ r.flagsByte.getLsbD 1 = r.fault ∧
      r.flagsByte.getLsbD 0 = r.since.isSome := by
  obtain ⟨-, -, hover, hemptied, hfault, hsince⟩ := r.flagsByte_parts
  exact ⟨getLsbD_eq_of_parity hover, getLsbD_eq_of_parity hemptied, getLsbD_eq_of_parity hfault,
    getLsbD_eq_of_parity hsince⟩

end

theorem targetBytes_eq (t : Target) :
    targetBytes t = layoutBytes [(3, t.binId.toNat), (3, t.mask.toNat), (1, t.maxClass.val)] := by
  simp [targetBytes, layoutBytes]

theorem targetBytes_fields (t : Target) :
    (targetBytes t).length = 7 ∧ fieldAt (targetBytes t) 0 3 = t.binId.toNat ∧ fieldAt (targetBytes t) 3 3 = t.mask.toNat ∧
      fieldAt (targetBytes t) 6 1 = t.maxClass.val := by
  have hcls : t.maxClass.val < 2 ^ (8 * 1) := t.maxClass.isLt.trans (by decide)
  rw [targetBytes_eq, layoutBytes_length]
  exact ⟨rfl, fieldAt_layoutBytes_of_lt (i := 0) rfl t.binId.isLt rfl, fieldAt_layoutBytes_of_lt (i := 1) rfl t.mask.isLt rfl,
    fieldAt_layoutBytes_of_lt (i := 2) rfl hcls rfl⟩

theorem itemBytes_eq (i : BinId × Seq) : itemBytes i = layoutBytes [(3, i.1.toNat), (2, i.2.toNat)] := by
  simp [itemBytes, layoutBytes]

theorem itemBytes_fields (i : BinId × Seq) :
    (itemBytes i).length = 5 ∧ fieldAt (itemBytes i) 0 3 = i.1.toNat ∧ fieldAt (itemBytes i) 3 2 = i.2.toNat := by
  rw [itemBytes_eq, layoutBytes_length]
  exact ⟨rfl, fieldAt_layoutBytes_of_lt (i := 0) rfl i.1.isLt rfl, fieldAt_layoutBytes_of_lt (i := 1) rfl i.2.isLt rfl⟩

/-! ### What is sent is read back (R39 to R54) -/

theorem RxEntry.readsAs_entryBytes {e : RxEntry} (hlevel : e.report.level ≤ 1000) (hrate : e.report.rate ≤ 65535)
    (httf : e.report.ttf ≤ 65535) (hsince : ∀ m ∈ e.report.since, m ≤ 65535) (hage : e.age ≤ 4095) (hhops : e.hops ≤ 15)
    (hmalformed : e.malformed = !validBinId e.report.binId) : e.readsAs (entryBytes e.report e.age e.hops) := by
  obtain ⟨hbin, hseq, hflags⟩ := entryBytes_identity e.report (age := e.age) (hops := e.hops)
  obtain ⟨hlevel', hrate', httf'⟩ := entryBytes_figures e.report (age := e.age) (hops := e.hops)
  obtain ⟨hkind, hcls, -⟩ := e.report.flagsByte_parts
  obtain ⟨hover, hemptied, hfault, hsome⟩ := flagsByte_marks e.report
  have hboth := entryBytes_age e.report hage hhops
  rw [Nat.mod_eq_of_lt (by omega)] at hlevel' hrate' httf'
  refine ⟨_, hflags, ?_, hbin.symm, hseq.symm, hkind ▸ e.report.kind.getElem?_code, hcls.symm, hover.symm, hemptied.symm,
    hfault.symm, by omega, hrate'.symm, httf'.symm, by omega, by omega, ?_, eq_not_validBinId_iff.1 hmalformed⟩
  · rw [entryBytes_length, hsome]
    cases e.report.since <;> rfl
  · rw [hsome]
    cases hm : e.report.since with
    | none => rfl
    | some m =>
      have hle : m ≤ 65535 := hsince m hm
      rw [entryBytes_since e.report hm, Nat.mod_eq_of_lt (by omega)]
      rfl

theorem entryBytes_length_le (r : Report) (age hops : Nat) : (entryBytes r age hops).length ≤ 16 := by
  rw [entryBytes_length]
  split <;> omega

theorem RxItem.readsAs_itemBytes {i : RxItem} (hmalformed : i.malformed = !validBinId i.binId) :
    i.readsAs (itemBytes (i.binId, i.seq)) := by
  obtain ⟨hlen, hbin, hseq⟩ := itemBytes_fields (i.binId, i.seq)
  exact ⟨hlen, hbin.symm, hseq.symm, eq_not_validBinId_iff.1 hmalformed⟩

/-- The body of a sendable frame reads as the frame, and is within the lengths of R15. -/
theorem RxFrame.sendable.readsAs {f : RxFrame} (h : f.sendable) :
    f.readsAs f.bodyBytes (some (match f.parts with | .fill _ => true | _ => false)) f.rxTime ∧
      4 ≤ f.bodyBytes.length ∧ f.bodyBytes.length ≤ 84 := by
  obtain ⟨sender, rxTime, parts⟩ := f
  cases parts with
  | fill es =>
    obtain ⟨hmin, hmax, hes⟩ := h
    obtain ⟨hfirst, hsender, hdrop, hlen⟩ :=
      headerBytes_append (kind := 1) (count := es.length) sender (es.flatMap fun e => entryBytes e.report e.age e.hops)
        (by omega) (by omega)
    have hle := flatMap_length_le es (fun e => entryBytes e.report e.age e.hops) 16 fun e _ => entryBytes_length_le ..
    refine ⟨⟨hsender, rfl, hfirst, hmin, hmax, rfl, _, hdrop.trans List.flatMap_def, ?_⟩, ?_, ?_⟩
    · refine List.forall₂_map_left_iff.2 (List.forall₂_same.2 fun e he => ?_)
      obtain ⟨hlevel, hrate, httf, hsince, hage, hhops, hmalformed⟩ := hes e he
      exact RxEntry.readsAs_entryBytes hlevel hrate httf hsince hage hhops hmalformed
    · exact hlen ▸ Nat.le_add_right ..
    · refine hlen.trans_le ?_
      omega
  | solicit t =>
    obtain ⟨hfirst, hsender, hdrop, hlen⟩ := headerBytes_append (kind := 2) (count := 1) sender (targetBytes t)
      (by omega) (by omega)
    obtain ⟨hseven, hbin, hmask, hcls⟩ := targetBytes_fields t
    rw [hseven] at hlen
    have hfield : ∀ off len, fieldAt (headerBytes 2 1 sender ++ targetBytes t) (4 + off) len =
        fieldAt (targetBytes t) off len := fun off len => by rw [← fieldAt_drop, hdrop]
    have hlt := t.maxClass.isLt
    refine ⟨⟨hsender, rfl, hfirst, hlen, rfl, ?_, ?_, ?_⟩, hlen.symm ▸ by decide, hlen.symm ▸ by decide⟩
    · exact hbin.symm.trans (hfield 0 3).symm
    · exact hmask.symm.trans (hfield 3 3).symm
    · refine Eq.trans ?_ (congrArg (min 3) ((hfield 6 1).trans hcls)).symm
      omega
  | drain is =>
    obtain ⟨hmin, hmax, his⟩ := h
    obtain ⟨hfirst, hsender, hdrop, hlen⟩ :=
      headerBytes_append (kind := 3) (count := is.length) sender (is.flatMap fun i => itemBytes (i.binId, i.seq))
        (by omega) (by omega)
    have hle := flatMap_length_le is (fun i => itemBytes (i.binId, i.seq)) 5 fun i _ => (itemBytes_fields _).1.le
    refine ⟨⟨hsender, rfl, hfirst, hmin, hmax, rfl, _, hdrop.trans List.flatMap_def, ?_⟩, ?_, ?_⟩
    · exact List.forall₂_map_left_iff.2 (List.forall₂_same.2 fun i hi => RxItem.readsAs_itemBytes (his i hi))
    · exact hlen ▸ Nat.le_add_right ..
    · refine hlen.trans_le ?_
      omega

theorem judge_sent {body : List Byte} {seen : Option Bool} {second : Nat} {f : RxFrame}
    (hreads : f.readsAs body seen second) (hmin : 4 ≤ body.length) (hmax : body.length ≤ 84) :
    judge ((OnAir.sending (body ++ crcBytes body)).units.flatten.drop 8) seen second = .good f := by
  have hcloses := stuff_closesWith (airBits (body ++ crcBytes body))
  obtain ⟨htaken, -⟩ := Taken.atMark.stuff (r := .start) (by decide) (airBits (body ++ crcBytes body))
  rw [List.nil_append, List.nil_append] at htaken
  have hbits : (OnAir.sending (body ++ crcBytes body)).units.flatten.drop 8 =
      (stuff .start (airBits (body ++ crcBytes body))).1 ++
        (if (stuff .start (airBits (body ++ crcBytes body))).2.bit = true then [false] else []) ++ markBits := by
    rw [OnAir.sending_flatten, channelBits]
    simp only [htaken.getLast?_eq_true]
    rfl
  rw [hbits]
  refine judge_good_iff.2 ⟨_, hcloses, body, crcBytes body, ?_, hmin, hmax, crcBytes_length body, fieldAt_crcBytes body,
    hreads⟩
  split
  · exact .inr rfl
  · exact .inl (List.append_nil _)

end Sys2Proof.Machine
end

section
open Sys2Proof Sys2Proof.Machine

/-- Settles O50: each layout is its fields one behind another, and the channel bits of a sendable frame close with its
body, which reads as the frame. -/
theorem sentFrameIsReadBack : Obligations.SentFrameIsReadBack := by
  refine ⟨⟨fun kind count sender hkind hcount => ?_, fun r age hops hage hhops => ?_, fun g => ?_, fun i => ?_,
    fun body => ?_⟩, fun f hf => ?_⟩
  · obtain ⟨hfirst, hsender⟩ := headerBytes_fields sender hkind hcount
    exact ⟨_, rfl, headerBytes_length .., by omega, by omega, hsender⟩
  · obtain ⟨hbin, hseq, hflags⟩ := entryBytes_identity r (age := age) (hops := hops)
    obtain ⟨hlevel, hrate, httf⟩ := entryBytes_figures r (age := age) (hops := hops)
    obtain ⟨hkind, hcls, -⟩ := r.flagsByte_parts
    obtain ⟨hover, hemptied, hfault, hsince⟩ := flagsByte_marks r
    have hboth := entryBytes_age r hage hhops
    exact ⟨_, _, rfl, entryBytes_length .., hbin, hseq, hflags, hkind ▸ r.kind.getElem?_code, hcls, hover, hemptied, hfault,
      hsince, hlevel, hrate, httf, by omega, by omega, fun m hm => entryBytes_since r hm⟩
  · exact ⟨_, rfl, targetBytes_fields g⟩
  · exact ⟨_, rfl, itemBytes_fields i⟩
  · exact ⟨crcBytes_length body, fieldAt_crcBytes body, OnAir.sending_flatten body, rfl, rfl⟩
  · obtain ⟨hreads, hmin, hmax⟩ := hf.readsAs
    exact judge_sent hreads hmin hmax

end

section
/-! PROOFS. The mute probe: the frame built of the OWN entry alone, and no due probe left unbuilt (O19). -/

namespace Sys2Proof.Machine

section
variable {s t : State} {e : Entry}

/-! ### What is built in MUTE (R137, R148) -/

theorem State.nextFrame_of_probe (h : s.probeEntry = some e) :
    s.nextFrame = some (⟨fillKey e.report.cls e.report.ttf s.cfg.stationId, .fill [e.freeze] true⟩, [e.report.binId]) := by
  have hrole : s.role = .bin := by
    obtain ⟨-, hown, -⟩ := State.probeEntry_eq_some.1 h
    exact (State.isBin_iff.1 (State.ownEntry_mem hown).2.2).2
  simp only [State.nextFrame, hrole, h]

theorem State.probeBuilt_of_nextFrame (h : s.nextFrame = none) : s.probeBuilt := by
  rintro hrun hrole hmute htimer hbuild hstage hw e he hown ⟨howed, hplaced, hcls⟩
  have hprobe : s.probeEntry = some e := State.probeEntry_eq_some.2 ⟨⟨hmute, htimer, hbuild, hstage⟩,
    State.ownEntry_of_holds hrun hrole ⟨hw, he, hown⟩, howed, hplaced, hcls⟩
  exact absurd ((State.nextFrame_of_probe hprobe).symm.trans h) nofun

/-- What building leaves is no due probe that can be built. -/
theorem State.selectorSettle_probeBuilt (s : State) : s.selectorSettle.probeBuilt := by
  cases hrun : s.running with
  | false => exact fun k => absurd (k.symm.trans (s.selectorSettle_keeps.2.1.trans hrun)) nofun
  | true =>
    rw [State.selectorSettle, if_pos hrun]
    exact fun hrun hrole hmute htimer hbuild =>
      State.probeBuilt_of_nextFrame (State.buildAll_build_none hbuild) hrun hrole hmute htimer hbuild

/-- Nothing a due probe looks at has moved. -/
theorem State.probeBuilt.mono (h : s.probeBuilt) (hrun : t.running = s.running) (hconfig : t.config = s.config)
    (hmon : t.mon.standing = .mute → t.mon.probeTimer = 0 → s.mon.standing = .mute ∧ s.mon.probeTimer = 0)
    (hbuild : t.sel.build = s.sel.build) (hstage : t.sel.stage = none → s.sel.stage = none) (htable : t.table = s.table) :
    t.probeBuilt := by
  have hcfg : t.cfg = s.cfg := State.cfg_congr hconfig
  intro hr hrole hmute htimer hb hst hw e he hown
  obtain ⟨hmute, htimer⟩ := hmon hmute htimer
  rw [State.role, hcfg] at hrole
  exact h (hrun ▸ hr) hrole hmute htimer (hbuild ▸ hb) (hstage hst) (htable ▸ hw) e (htable ▸ he) (hcfg ▸ hown)

/-! ### A due probe is built through every effect -/

theorem State.commit_probeBuilt (h : s.probeBuilt) : s.commit.probeBuilt := by
  rcases s.commit_sel with ⟨k, -⟩ | ⟨f, hf, k⟩ <;> rw [k]
  · exact h
  · exact h.mono rfl rfl (fun hm ht => ⟨hm, ht⟩) rfl nofun rfl

theorem State.engineSettle_probeBuilt (h : s.probeBuilt) : s.engineSettle.probeBuilt := by
  rcases s.engineSettle_cases with k | ⟨-, -, -, -, k⟩ | ⟨-, -, -, -, -, -, k⟩ <;> rw [k]
  · exact h
  · exact State.commit_probeBuilt h
  · exact h

theorem State.beginField_probeBuilt (h : s.probeBuilt) : s.beginField.probeBuilt := by
  unfold State.beginField
  change (if s.stageEligible then s.commit else s).probeBuilt
  split
  · exact State.commit_probeBuilt h
  · exact h

theorem State.hear_probeBuilt (told : Told) : (s.hear told).probeBuilt := State.selectorSettle_probeBuilt _

theorem State.fieldLost_probeBuilt (h : s.probeBuilt) : s.fieldLost.probeBuilt := by
  by_cases hc : s.sel.stageCond = some .committed
  · obtain ⟨f, hf⟩ := Selector.stageCond_eq_committed.1 hc
    rw [State.fieldLost_of_committed hf]
    exact State.selectorSettle_probeBuilt _
  · rwa [State.fieldLost_of_not hc]

theorem State.setMonitor_probeBuilt {m : Monitor} (h : s.probeBuilt)
    (hm : m.standing = .mute → s.mon.standing = .mute → m.probeTimer = s.mon.probeTimer) : (s.setMonitor m).probeBuilt := by
  rcases s.setMonitor_cases m with ⟨hsame, k⟩ | ⟨-, -, k⟩ | ⟨-, -, -, k⟩ | ⟨-, -, -, k⟩ <;> rw [k]
  · exact h.mono rfl rfl (fun hmute htimer => ⟨hsame ▸ hmute, (hm hmute (hsame ▸ hmute)).symm.trans htimer⟩) rfl id rfl
  all_goals exact State.selectorSettle_probeBuilt _

theorem Monitor.outcome_probeTimer_of_mute {m : Monitor} {echoed autoRejoin : Bool} {interval : Nat}
    (hmute : m.standing = .mute) : (m.outcome echoed autoRejoin interval).probeTimer = m.probeTimer := by
  unfold Monitor.outcome
  rw [if_pos hmute]
  split <;> rfl

theorem State.echoOutcome_probeBuilt (echoed : Bool) (h : s.probeBuilt) : (s.echoOutcome echoed).probeBuilt := by
  by_cases hc : s.sel.stageCond = some .sending
  · obtain ⟨f, hf⟩ := Selector.stageCond_eq_sending.1 hc
    rw [s.echoOutcome_of_sending echoed hf]
    exact State.selectorSettle_probeBuilt _
  · rwa [s.echoOutcome_of_not echoed hc]

theorem State.takeOutcome_probeBuilt (echoed first : Bool) (h : s.probeBuilt) :
    (s.takeOutcome echoed first).probeBuilt := by
  unfold State.takeOutcome
  split
  · exact State.echoOutcome_probeBuilt _
      (State.setMonitor_probeBuilt h fun _ hmute => Monitor.outcome_probeTimer_of_mute hmute)
  · exact State.setMonitor_probeBuilt (State.echoOutcome_probeBuilt _ h) fun _ hmute =>
      Monitor.outcome_probeTimer_of_mute hmute

theorem State.startLinger_probeBuilt (h : s.probeBuilt) : s.startLinger.probeBuilt := by
  unfold State.startLinger
  split <;> exact h

theorem State.frameEnd_probeBuilt (carrier : Bool) (h : s.probeBuilt) : (s.frameEnd carrier).probeBuilt :=
  State.startLinger_probeBuilt (s := { s with eng := s.eng.enterAwake carrier }) h

theorem State.leaveOff_probeBuilt (h : s.probeBuilt) : s.leaveOff.probeBuilt := by
  unfold State.leaveOff
  split <;> exact h

/-- At the boundary the timer runs down to 0 only from 1 (R148). -/
theorem State.counted_probeBuilt (h : s.probeBuilt) (hone : s.mon.probeTimer ≠ 1) :
    s.countBoundary.countProbe.probeBuilt := by
  rw [State.counted_eq]
  refine h.mono rfl rfl (fun hmute htimer => ⟨hmute, ?_⟩) rfl id rfl
  have hdown := (if_pos hmute).symm.trans htimer
  omega

theorem does_probeBuilt {c : Instr} {s u : State} (h : Does c s u) (hs : s.probeBuilt) (hclear : s.clearedOk)
    (hboundary : ¬ (c = .minuteBoundary ∧ s.mon.probeTimer = 1)) : u.probeBuilt := by
  induction h with
  | @start args s hrun hlen hfield =>
    obtain ⟨-, -, -, -, -, -, hmon, -⟩ := hclear.2 hrun
    rw [State.startRunning_eq]
    intro _ _ hmute
    exact absurd (hmute.symm.trans (congrArg Monitor.standing hmon)) nofun
  | restart hrun => exact fun k => absurd k (by simp [State.restartRunning])
  | hardReset => exact fun k => absurd k (by simp [State.reset])
  | issue => exact State.engineSettle_probeBuilt (State.hear_probeBuilt _)
  | @solicit args s bin mask maxClass hmax hrun hrole =>
    obtain ⟨-, -, -, -, -, -, v, -, h⟩ := s.solicitAct_eq bin mask maxClass
    rw [h]
    exact State.engineSettle_probeBuilt (State.selectorSettle_probeBuilt _)
  | complete hhand => exact State.engineSettle_probeBuilt (State.selectorSettle_probeBuilt _)
  | @boundary s hrun hdue =>
    refine State.engineSettle_probeBuilt (State.counted_probeBuilt (State.hear_probeBuilt _) fun k => hboundary ⟨rfl, ?_⟩)
    rw [← k, (State.hear_reselects _ _).mon]
    rfl
  | refill => exact State.engineSettle_probeBuilt (State.selectorSettle_probeBuilt _)
  | probe => exact State.engineSettle_probeBuilt (State.selectorSettle_probeBuilt _)
  | carrierSeen => exact State.frameEnd_probeBuilt _ hs
  | windowAwake => exact State.frameEnd_probeBuilt _ hs
  | lingerExpiry => exact State.engineSettle_probeBuilt hs
  | fallField => exact State.beginField_probeBuilt hs
  | fallAwake => exact State.engineSettle_probeBuilt hs
  | gap => exact State.engineSettle_probeBuilt hs
  | wakeEndLow => exact State.beginField_probeBuilt hs
  | wakingFall => exact State.beginField_probeBuilt hs
  | wakingCap => exact State.engineSettle_probeBuilt (State.fieldLost_probeBuilt hs)
  | @slotLost s carrier => exact State.fieldLost_probeBuilt (s := { s with eng := _ }) hs
  | @contentionLost s => exact State.fieldLost_probeBuilt (s := { s with eng := _ }) hs
  | @won s x hstate hcontends hstage =>
    intro _ _ _ _ _ hnone
    exact absurd (hnone.symm.trans (State.fieldWon_sel hstage).1) nofun
  | markWait => exact State.engineSettle_probeBuilt hs
  | @goodFrame rxd first s f =>
    have hhanded : (s.handOver f).probeBuilt :=
      hs.mono (by simp) (by simp) (fun hm ht => ⟨by simpa using hm, by simpa using ht⟩) (by simp) (by simp) (by simp)
    exact State.setMonitor_probeBuilt hhanded fun _ _ => Monitor.good_probeTimer _ _
  | @badFrame rxd carrier s =>
    exact State.engineSettle_probeBuilt (State.frameEnd_probeBuilt (s := { s.monitorBad with eng := _ }) _
      (State.setMonitor_probeBuilt hs fun _ _ => s.mon.bad_keeps.2.2.2))
  | echoSlotEnd => exact State.engineSettle_probeBuilt (State.frameEnd_probeBuilt _ hs)
  | awaitEchoEnd => exact State.engineSettle_probeBuilt (State.frameEnd_probeBuilt _ (State.takeOutcome_probeBuilt _ _ hs))
  | @tailEndLeave s => exact State.leaveOff_probeBuilt (s := { s with eng := _ }) hs
  | merge => exact State.engineSettle_probeBuilt (State.hear_probeBuilt _)
  | _ => exact hs

/-! ### The probe is staged (R137) -/

/-- The FILL frame of one report with the probe mark. -/
def probeFrame (station : BinId) (e : Entry) : FrameRec :=
  ⟨fillKey e.report.cls e.report.ttf station, .fill [e.freeze] true⟩

/-- A due probe is all that the selector builds, and its entry is placed with it. -/
theorem State.selectorSettle_of_probe (hrun : s.running = true) (h : s.probeEntry = some e) :
    s.selectorSettle = { s with
      sel := { s.sel with stage := some { frame := probeFrame s.cfg.stationId e, cond := .staged } },
      table := placeBins [e.report.binId] .stage s.table } := by
  obtain ⟨⟨hmute, -, hbuild, hstage⟩, -⟩ := State.probeEntry_eq_some.1 h
  have hone := State.buildOne_stages hbuild hstage (State.nextFrame_of_probe h)
  rw [State.selectorSettle_of_not_staged hrun (by simp [Selector.staged, hstage]), State.buildAll, hone]
  refine State.buildOne_of_nothing (State.nextFrame_none_of_mute hmute (.inr ?_))
  nofun

theorem mem_placeBins_of_mem {p : Placement} {t : List Entry} {bins : List BinId} (he : e ∈ t)
    (hbin : e.report.binId ∈ bins) : { e with placed := p } ∈ placeBins bins p t :=
  List.mem_map.2 ⟨e, he, if_pos (by simpa using hbin)⟩

theorem State.engineSettle_staged {f : FrameRec} (h : s.sel.stage = some { frame := f, cond := .staged }) :
    ∃ x, s.engineSettle.sel.stage = some x ∧ x.frame = f := by
  rcases State.engineSettle_stage (s := s) with hsame | ⟨g, hg, hcommitted⟩
  · exact ⟨_, hsame.trans h, rfl⟩
  · rw [h] at hg
    cases hg
    exact ⟨_, hcommitted, rfl⟩

theorem exec_probeTimerExpiry_due (hrun : s.running = true) (hmute : s.mon.standing = .mute)
    (htimer : s.mon.probeTimer = 0) : exec .probeTimerExpiry s = .next s.selectorSettle.engineSettle :=
  if_pos ⟨hrun, hmute, htimer⟩

/-- The due probe of an OWN entry is staged by the timer's expiry. -/
theorem State.probeEntry_staged (hrun : s.running = true) (h : s.probeEntry = some e) :
    s.onlySelects s.selectorSettle.engineSettle ∧ s.selectorSettle.engineSettle.sel.build = none ∧
      (∃ x, s.selectorSettle.engineSettle.sel.stage = some x ∧ x.frame = probeFrame s.cfg.stationId e) ∧
      { e with placed := .stage } ∈ s.selectorSettle.engineSettle.table := by
  obtain ⟨⟨-, -, hbuild, -⟩, hown, -⟩ := State.probeEntry_eq_some.1 h
  have hsettled := State.selectorSettle_of_probe hrun h
  refine ⟨(State.selectorSettle_reselects s).engineSettle_onlySelects, ?_, ?_, ?_⟩
  · have hkept := (State.selectorSettle s).engineSettle_moves .build (by simp)
    refine Eq.trans hkept ?_
    rw [hsettled, hbuild]
  · refine State.engineSettle_staged ?_
    rw [hsettled]
  · have htable : s.selectorSettle.engineSettle.table = s.selectorSettle.table := by simp
    rw [htable, hsettled]
    exact mem_placeBins_of_mem (State.ownEntry_mem hown).1 (List.mem_singleton.2 rfl)

end

end Sys2Proof.Machine
end

section
/-! PROOFS. The slots in MUTE through every effect (O19). -/

namespace Sys2Proof.Machine

/-- A mute probe of this station: the FILL frame of one report of the own bin, of class 0, with its key (R137). -/
def FrameRec.isMuteProbe (station : BinId) (f : FrameRec) : Prop :=
  ∃ c : Frozen, f.payload = .fill [c] true ∧ c.report.binId = station ∧ c.origin = .own ∧ c.report.cls = 0 ∧
    f.key.toNat = min 63 (c.report.ttf / 64) * 256 + station.toNat % 256

/-- The frame is the probe of an OWN entry that is OWED, of class 0 and placed in STAGE. -/
def State.holdsProbe (s : State) (f : FrameRec) : Prop :=
  ∃ e ∈ s.table, e.report.binId = s.cfg.stationId ∧ e.owing = .owed ∧ e.placed = .stage ∧ e.report.cls = 0 ∧
    f = probeFrame s.cfg.stationId e

/-- In the bin role in MUTE no frame is BUILT, and a frame in STAGE that is not SENDING has this property. -/
def State.muteSlots (s : State) (P : FrameRec → Prop) : Prop :=
  s.running = true → s.role = .bin → s.mon.standing = .mute →
    s.sel.build = none ∧ ∀ x, s.sel.stage = some x → x.cond ≠ .sending → P x.frame

/-- In MUTE no frame is BUILT, and one in STAGE that is not SENDING is a probe of those named. -/
def State.muteOld (frames : List FrameRec) (s : State) : Prop :=
  s.muteSlots fun f => f ∈ frames ∧ f.isMuteProbe s.cfg.stationId

/-- In MUTE no frame is BUILT, and one in STAGE that is not SENDING is a probe of those named, or of the OWN entry as it
stands. -/
def State.muteNew (frames : List FrameRec) (s : State) : Prop :=
  s.muteSlots fun f => (f ∈ frames ∧ f.isMuteProbe s.cfg.stationId) ∨ s.holdsProbe f

section
variable {s t : State} {e : Entry} {f : FrameRec} {frames : List FrameRec}

theorem State.muteOk_iff : s.muteOk ↔ s.muteSlots fun f => f.isMuteProbe s.cfg.stationId := Iff.rfl

theorem State.muteSlots.mono {P Q : FrameRec → Prop} (h : s.muteSlots P) (hrun : t.running = s.running)
    (hconfig : t.config = s.config) (hmute : t.mon.standing = .mute → s.mon.standing = .mute)
    (hbuild : t.sel.build = s.sel.build ∨ t.sel.build = none)
    (hstage : ∀ x, t.sel.stage = some x → x.cond ≠ .sending →
      ∃ y, s.sel.stage = some y ∧ y.cond ≠ .sending ∧ y.frame = x.frame)
    (hPQ : ∀ f, P f → Q f) : t.muteSlots Q := by
  have hcfg : t.cfg = s.cfg := State.cfg_congr hconfig
  intro hr hrole hm
  rw [State.role, hcfg] at hrole
  obtain ⟨hnone, hall⟩ := h (hrun ▸ hr) hrole (hmute hm)
  refine ⟨hbuild.elim (fun k => k.trans hnone) id, fun x hx hcond => ?_⟩
  obtain ⟨y, hy, hycond, hframe⟩ := hstage x hx hcond
  exact hPQ _ (hframe ▸ hall y hy hycond)

/-- The frame in STAGE stands, or STAGE empties. -/
theorem stage_kept (h : t.sel.stage = s.sel.stage ∨ t.sel.stage = none) (x : StageSlot) (hx : t.sel.stage = some x)
    (hcond : x.cond ≠ .sending) : ∃ y, s.sel.stage = some y ∧ y.cond ≠ .sending ∧ y.frame = x.frame := by
  rcases h with k | k
  · exact ⟨x, k ▸ hx, hcond, rfl⟩
  · rw [k] at hx
    cases hx

theorem State.muteOld.mono (h : s.muteOld frames) (hrun : t.running = s.running) (hconfig : t.config = s.config)
    (hmute : t.mon.standing = .mute → s.mon.standing = .mute)
    (hbuild : t.sel.build = s.sel.build ∨ t.sel.build = none)
    (hstage : ∀ x, t.sel.stage = some x → x.cond ≠ .sending →
      ∃ y, s.sel.stage = some y ∧ y.cond ≠ .sending ∧ y.frame = x.frame) : t.muteOld frames := by
  have hcfg : t.cfg = s.cfg := State.cfg_congr hconfig
  exact State.muteSlots.mono h hrun hconfig hmute hbuild hstage fun f k => by rwa [hcfg]

theorem State.muteNew.mono (h : s.muteNew frames) (hrun : t.running = s.running) (hconfig : t.config = s.config)
    (hmute : t.mon.standing = .mute → s.mon.standing = .mute)
    (hbuild : t.sel.build = s.sel.build ∨ t.sel.build = none)
    (hstage : ∀ x, t.sel.stage = some x → x.cond ≠ .sending →
      ∃ y, s.sel.stage = some y ∧ y.cond ≠ .sending ∧ y.frame = x.frame)
    (htable : t.table = s.table) : t.muteNew frames := by
  have hcfg : t.cfg = s.cfg := State.cfg_congr hconfig
  exact State.muteSlots.mono h hrun hconfig hmute hbuild hstage fun f k => by
    rwa [State.holdsProbe, hcfg, htable]

theorem State.muteOld.new (h : s.muteOld frames) : s.muteNew frames :=
  State.muteSlots.mono h rfl rfl id (.inl rfl) (stage_kept (.inl rfl)) fun _ => .inl

/-- With both slots EMPTY nothing is asked. -/
theorem State.muteOld_of_empty (h : s.mon.standing = .mute → s.sel.stage = none ∧ s.sel.build = none) :
    s.muteOld frames := fun _ _ hmute => by
  obtain ⟨hstage, hbuild⟩ := h hmute
  refine ⟨hbuild, fun x hx => ?_⟩
  rw [hstage] at hx
  cases hx

theorem State.muteNew_of_not_mute (h : s.mon.standing ≠ .mute) : s.muteNew frames := fun _ _ hmute => absurd hmute h

/-! ### Withdrawing and building -/

theorem State.withdraw_slots (stage build : Bool) :
    ((s.withdraw stage build).sel.build = s.sel.build ∨ (s.withdraw stage build).sel.build = none) ∧
      ((s.withdraw stage build).sel.stage = s.sel.stage ∨ (s.withdraw stage build).sel.stage = none) := by
  unfold State.withdraw
  split_ifs
  · exact ⟨.inr rfl, .inr rfl⟩
  · exact ⟨.inr rfl, .inl rfl⟩
  · exact ⟨.inl rfl, .inl rfl⟩

theorem State.preempt_slots (fresh : List Urgency) :
    ((s.preempt fresh).sel.build = s.sel.build ∨ (s.preempt fresh).sel.build = none) ∧
      ((s.preempt fresh).sel.stage = s.sel.stage ∨ (s.preempt fresh).sel.stage = none) := by
  unfold State.preempt
  split
  · exact ⟨.inl rfl, .inl rfl⟩
  · split_ifs
    · exact ⟨.inr rfl, .inr rfl⟩
    · exact ⟨.inl rfl, .inl rfl⟩
    · exact ⟨.inr rfl, .inl rfl⟩
    · exact ⟨.inl rfl, .inl rfl⟩

theorem State.muteOld.withdraw (h : s.muteOld frames) (stage build : Bool) : (s.withdraw stage build).muteOld frames := by
  obtain ⟨hbuild, hstage⟩ := State.withdraw_slots (s := s) stage build
  exact h.mono (by simp) (by simp) (by simp) hbuild (stage_kept hstage)

theorem State.muteOld.preempt (h : s.muteOld frames) (fresh : List Urgency) : (s.preempt fresh).muteOld frames := by
  obtain ⟨hbuild, hstage⟩ := State.preempt_slots (s := s) fresh
  exact h.mono (by simp) (by simp) (by simp) hbuild (stage_kept hstage)

/-- A mute probe is no SOLICIT frame, and is eligible. -/
theorem FrameRec.isMuteProbe.eligible {station : BinId} (h : f.isMuteProbe station) :
    f.isSolicit = false ∧ s.eligible f = true := by
  obtain ⟨c, hf, -⟩ := h
  simp [FrameRec.isSolicit, State.eligible, hf]

/-- In MUTE building stages the due probe or nothing. -/
theorem State.muteOld.selectorSettle (h : s.muteOld frames) : s.selectorSettle.muteNew frames := by
  have hre := s.selectorSettle_reselects
  intro hrun hrole hmute
  rw [hre.running] at hrun
  rw [hre.role] at hrole
  rw [hre.mon] at hmute
  obtain ⟨hbuild, hstage⟩ := h hrun hrole hmute
  rcases hprobe : s.probeEntry with _ | e
  · have hnext : s.nextFrame = none := by
      have hentries : s.admittedEntries = [] := by simp [State.admittedEntries, hmute]
      rw [State.nextFrame_eq_none, State.admits, hrole, hprobe, hentries]
      rfl
    have hstands : s.selectorSettle = s := by
      rcases hstaged : s.sel.staged with _ | g
      · exact State.selectorSettle_of_nothing hstaged hnext
      · have hg := Selector.staged_eq_some.1 hstaged
        obtain ⟨hsolicit, helig⟩ := (hstage _ hg nofun).2.eligible (s := s)
        rw [State.selectorSettle_of_stands hg (fun k => absurd (hsolicit.symm.trans k) nofun) (.inl helig), if_pos hrun,
          State.buildAll_of_nothing hnext]
    rw [hstands]
    exact ⟨hbuild, fun x hx hcond => .inl (hstage x hx hcond)⟩
  · obtain ⟨-, hown, howed, -, hcls⟩ := State.probeEntry_eq_some.1 hprobe
    obtain ⟨hmem, hbin, -⟩ := State.ownEntry_mem hown
    rw [State.selectorSettle_of_probe hrun hprobe]
    refine ⟨hbuild, fun x hx _ => .inr ?_⟩
    cases hx
    exact ⟨_, mem_placeBins_of_mem hmem (List.mem_singleton.2 rfl), hbin, howed, rfl, hcls, rfl⟩

theorem State.muteOld.hear (h : s.muteOld frames) (told : Told) : (s.hear told).muteNew frames :=
  ((h.withdraw _ _).preempt _).selectorSettle

/-! ### Every effect -/

theorem State.muteNew.commit (h : s.muteNew frames) : s.commit.muteNew frames := by
  rcases s.commit_sel with ⟨k, -⟩ | ⟨f, hf, k⟩ <;> rw [k]
  · exact h
  · refine h.mono rfl rfl id (.inl rfl) (fun x hx _ => ?_) rfl
    cases hx
    exact ⟨_, hf, nofun, rfl⟩

theorem State.muteNew.engineSettle (h : s.muteNew frames) : s.engineSettle.muteNew frames := by
  rcases s.engineSettle_cases with k | ⟨-, -, -, -, k⟩ | ⟨-, -, -, -, -, -, k⟩ <;> rw [k]
  · exact h
  · exact State.muteNew.commit h
  · exact h

theorem State.muteNew.beginField (h : s.muteNew frames) : s.beginField.muteNew frames := by
  unfold State.beginField
  change (if s.stageEligible then s.commit else s).muteNew frames
  split
  · exact h.commit
  · exact h

theorem State.muteOld.fieldLost (h : s.muteOld frames) : s.fieldLost.muteNew frames := by
  by_cases hc : s.sel.stageCond = some .committed
  · obtain ⟨f, hf⟩ := Selector.stageCond_eq_committed.1 hc
    rw [State.fieldLost_of_committed hf]
    refine State.muteOld.selectorSettle ?_
    unfold State.afterLoss
    split
    · exact h.mono rfl rfl id (.inr rfl) (stage_kept (.inr rfl))
    · refine h.mono rfl rfl id (.inl rfl) fun x hx _ => ?_
      cases hx
      exact ⟨_, hf, nofun, rfl⟩
  · rw [State.fieldLost_of_not hc]
    exact h.new

/-- A change of the monitor that does not enter MUTE. -/
theorem State.muteNew.setMonitor {m : Monitor} (h : s.muteNew frames)
    (hm : m.standing = .mute → s.mon.standing = .mute) : (s.setMonitor m).muteNew frames := by
  by_cases hmute : m.standing = .mute
  · rw [State.setMonitor_of_same (hmute.trans (hm hmute).symm)]
    exact h.mono rfl rfl hm (.inl rfl) (stage_kept (.inl rfl)) rfl
  · refine State.muteNew_of_not_mute ?_
    rwa [State.setMonitor_mon]

theorem Monitor.mute_of_good {m : Monitor} {clash : Bool} (h : (m.good clash).standing = .mute) : m.standing = .mute := by
  by_contra hmute
  simp only [Monitor.good, if_neg hmute] at h
  exact Monitor.work_standing_ne_mute _ h

theorem Monitor.mute_of_bad {m : Monitor} (h : m.bad.standing = .mute) : m.standing = .mute := by
  by_contra hmute
  simp only [Monitor.bad, if_neg hmute] at h
  exact Monitor.work_standing_ne_mute _ h

/-- The outcome of a SENDING frame taken in MUTE with an empty BUILD leaves both slots EMPTY for the probe. -/
theorem State.echoOutcome_muteNew (echoed : Bool) (hstage : s.sel.stage = some { frame := f, cond := .sending })
    (hbuild : s.mon.standing = .mute → s.sel.build = none) : (s.echoOutcome echoed).muteNew frames := by
  rw [s.echoOutcome_of_sending echoed hstage]
  refine State.muteOld.selectorSettle (State.muteOld_of_empty fun hmute => ?_)
  have hmon : (s.applyOutcome echoed f).moveUp.mon = s.mon := by simp
  have hbuilt := State.applyOutcome_build_none echoed hstage (hbuild (hmon ▸ hmute))
  obtain ⟨hnone, hmoved⟩ := (s.applyOutcome echoed f).moveUp_sel
  refine ⟨?_, hnone⟩
  rcases hmoved with ⟨-, k⟩ | ⟨g, k, -⟩
  · exact k
  · exact absurd (hbuilt.symm.trans k) nofun

/-- Where MUTE is entered beside a frame on its way BUILD is EMPTY. -/
theorem State.setMonitor_mute_build {m : Monitor} (hstage : s.sel.stage = some { frame := f, cond := .sending })
    (hbuild : s.mon.standing = .mute → s.sel.build = none) (hmute : m.standing = .mute) :
    (s.setMonitor m).sel.build = none := by
  rcases s.setMonitor_cases m with ⟨k, h⟩ | ⟨-, -, h⟩ | ⟨-, k, -⟩ | ⟨-, k, -⟩
  · rw [h]
    exact hbuild (k ▸ hmute)
  · obtain ⟨hcore, hnone⟩ := State.withdraw_all_sel (s := State.raise .standing { s with mon := m })
    have hsending : ((State.raise .standing { s with mon := m }).withdraw true true).sel.stage =
        some { frame := f, cond := .sending } := hcore.trans (Selector.core_of_cond hstage nofun)
    have hmon : ((State.raise .standing { s with mon := m }).withdraw true true).mon = m := by simp
    have hnext := State.nextFrame_none_of_mute
      (s := (State.raise .standing { s with mon := m }).withdraw true true) (by rw [hmon, hmute])
      (.inr (by rw [hsending]; nofun))
    rw [h, State.enterMute, State.selectorSettle_of_nothing (Selector.staged_of_sending hsending) hnext]
    exact hnone
  · exact absurd hmute k
  · exact absurd hmute k

/-- MUTE entered with no frame on its way withdraws both slots and builds the probe alone. -/
theorem State.setMonitor_enters_muteNew {m : Monitor} (hcore : s.sel.core = none) (hmute : s.mon.standing ≠ .mute) :
    (s.setMonitor m).muteNew frames := by
  by_cases hmute' : m.standing = .mute
  · rcases s.setMonitor_cases m with ⟨k, -⟩ | ⟨-, -, h⟩ | ⟨-, k, -⟩ | ⟨-, k, -⟩
    · exact absurd (k.symm.trans hmute') hmute
    · obtain ⟨hstage, hbuild⟩ := State.withdraw_all_sel (s := State.raise .standing { s with mon := m })
      rw [h, State.enterMute]
      exact State.muteOld.selectorSettle (State.muteOld_of_empty fun _ => ⟨hstage.trans hcore, hbuild⟩)
    · exact absurd hmute' k
    · exact absurd hmute' k
  · exact State.muteNew_of_not_mute (by rwa [State.setMonitor_mon])

theorem State.takeOutcome_muteNew (echoed first : Bool) (hstage : s.sel.stage = some { frame := f, cond := .sending })
    (hbuild : s.mon.standing = .mute → s.sel.build = none) : (s.takeOutcome echoed first).muteNew frames := by
  unfold State.takeOutcome
  split
  · have hcore : (s.monitorOutcome echoed).sel.core = some { frame := f, cond := .sending } :=
      (s.setMonitor_core _).trans (Selector.core_of_cond hstage nofun)
    refine State.echoOutcome_muteNew echoed (Selector.core_cond hcore).1 fun hmute => ?_
    rw [State.monitorOutcome, State.setMonitor_mon] at hmute
    exact State.setMonitor_mute_build hstage hbuild hmute
  · have hmon : (s.echoOutcome echoed).mon = s.mon := by simp
    have hecho : (s.echoOutcome echoed).muteNew frames := State.echoOutcome_muteNew echoed hstage hbuild
    by_cases hmute : s.mon.standing = .mute
    · exact hecho.setMonitor fun _ => hmon ▸ hmute
    · obtain ⟨-, hcore⟩ := s.echoOutcome_core echoed hstage
      exact State.setMonitor_enters_muteNew hcore (hmon ▸ hmute)

/-- The retained entries' START finds both slots EMPTY and the standing ACTIVE. -/
theorem State.startRunning_muteNew (c : HeldConfig) (mask : FlagSet) (hrun : s.running = false) (hclear : s.clearedOk) :
    (s.startRunning c mask).muteNew frames := by
  obtain ⟨-, -, -, -, -, -, hmon, -⟩ := hclear.2 hrun
  refine State.muteNew_of_not_mute ?_
  rw [State.startRunning_eq]
  exact fun k => absurd (k.symm.trans (congrArg Monitor.standing hmon)) nofun

theorem State.muteNew_of_not_running (h : s.running = false) : s.muteNew frames := fun hrun =>
  absurd (hrun.symm.trans h) nofun

theorem State.muteNew_of_gateway (h : s.role = .gateway) : s.muteNew frames := fun _ hrole =>
  absurd (hrole.symm.trans h) nofun

theorem State.muteOld.deliver (h : s.muteOld frames) (b : BinId) (r : Seq) : (s.deliver b r).muteOld frames := by
  unfold State.deliver
  extract_lets drain still gw listed left handed
  have hhanded : handed.muteOld frames := by
    unfold handed
    split <;> exact h
  split
  · exact hhanded.withdraw _ _
  · exact hhanded

theorem State.muteNew.frameEnd (h : s.muteNew frames) (carrier : Bool) : (s.frameEnd carrier).muteNew frames := by
  unfold State.frameEnd State.startLinger
  split <;> exact h

theorem State.muteNew.leaveOff (h : s.muteNew frames) : s.leaveOff.muteNew frames := by
  unfold State.leaveOff
  split <;> exact h

theorem State.solicitAct_config (bin mask : BinId) (maxClass : Nat) :
    (s.solicitAct bin mask maxClass).1.config = s.config := by
  obtain ⟨u, -, -, -, -, hconfig, v, hre, h⟩ := s.solicitAct_eq bin mask maxClass
  have hsettled : v.selectorSettle.engineSettle.config = v.config := by simp
  rw [h, hsettled, hre.config, hconfig]

theorem does_muteNew {c : Instr} {u : State} (h : Does c s u) (hs : s.muteOld frames) (hclear : s.clearedOk)
    (hslots : s.slotsOk) : u.muteNew frames := by
  cases h with
  | start hrun => exact State.startRunning_muteNew _ _ hrun hclear
  | restart | hardReset => exact State.muteNew_of_not_running rfl
  | @issue args _ range flags =>
    obtain ⟨hbuild, hstage, -, -, hstanding, hrun, hconfig⟩ := s.sampleIssue_same range flags
    have hissued : (s.sampleIssue range flags).1.muteOld frames :=
      hs.mono hrun hconfig (fun k => hstanding ▸ k) (.inl hbuild) (stage_kept (.inl hstage))
    exact (hissued.hear _).engineSettle
  | @solicit _ _ bin mask maxClass hmax hrun hrole =>
    refine State.muteNew_of_gateway ?_
    rw [State.role, State.cfg_congr (s.solicitAct_config bin mask maxClass)]
    exact hrole
  | @complete _ b r hhand =>
    have hended : State.muteOld frames { s with port := { s.port with resultAt := none } } := hs
    exact (hended.deliver b r).selectorSettle.engineSettle
  | boundary =>
    have hheard := State.muteOld.hear (s := (State.sweep { s with boundaryDue := false }).1) (frames := frames) hs
      (State.sweep { s with boundaryDue := false }).2
    refine State.muteNew.engineSettle ?_
    rw [State.counted_eq]
    exact hheard.mono rfl rfl id (.inl rfl) (stage_kept (.inl rfl)) rfl
  | refill => exact (State.muteOld.selectorSettle (s := { s with sel := { s.sel with
      refillCount := 0, allowance := min s.cfg.capacity (s.sel.allowance + 1) } }) hs).engineSettle
  | probe => exact hs.selectorSettle.engineSettle
  | carrierSeen | windowAwake => exact hs.new.frameEnd _
  | tailEndLeave => exact State.muteNew.leaveOff (s := { s with eng := _ }) hs.new
  | echoSlotEnd => exact (hs.new.frameEnd _).engineSettle
  | lingerExpiry | fallAwake | gap | markWait => exact State.muteNew.engineSettle hs.new
  | fallField | wakeEndLow | wakingFall => exact hs.new.beginField
  | wakingCap => exact (State.muteOld.fieldLost (s := { s with eng := s.eng.enterAwake true }) hs).engineSettle
  | slotLost | contentionLost => exact State.muteOld.fieldLost hs
  | won hstate hcontends hstage =>
    obtain ⟨hstage', hbuild, -, -, htable, hstanding⟩ := State.fieldWon_sel hstage
    refine hs.new.mono (by simp) (by simp) (fun k => hstanding ▸ k) (.inl hbuild) (fun x hx hcond => ?_) htable
    cases hstage'.symm.trans hx
    exact absurd rfl hcond
  | @goodFrame rxd first _ f =>
    have hhanded : (s.handOver f).muteNew frames :=
      hs.new.mono (by simp) (by simp) (by simp) (.inl (by simp)) (stage_kept (.inl (by simp))) (by simp)
    exact hhanded.setMonitor Monitor.mute_of_good
  | badFrame =>
    have hbad : s.monitorBad.muteNew frames := hs.new.setMonitor Monitor.mute_of_bad
    have hended : State.muteNew frames { s.monitorBad with eng := { s.monitorBad.eng with kindObs := none } } := hbad
    exact (hended.frameEnd _).engineSettle
  | @awaitEchoEnd echo carrier first _ hstate =>
    obtain ⟨-, -, hsending, -⟩ := hslots
    obtain ⟨f, hf⟩ := Selector.stageCond_eq_sending.1 (hsending.2 (.inr hstate))
    have htaken : (s.takeOutcome echo first).muteNew frames := fun hrun hrole hmute => by
      have hrun' : s.running = true := by simpa using hrun
      have hrole' : s.role = .bin := by
        rw [State.role, State.cfg_congr (t := s.takeOutcome echo first) (s := s) (by simp)] at hrole
        exact hrole
      exact State.takeOutcome_muteNew echo first hf (fun k => (hs hrun' hrole' k).1) hrun hrole hmute
    exact (htaken.frameEnd _).engineSettle
  | @merge _ m hmerging =>
    obtain ⟨hbuild, hstage, -, -, hstanding, hrun, hconfig⟩ := s.mergePart_same m
    have hmerged : State.muteOld frames { (s.mergePart m).1 with pair := (s.mergePart m).1.pair.advance m } :=
      hs.mono hrun hconfig (fun k => hstanding ▸ k) (.inl hbuild) (stage_kept (.inl hstage))
    exact (hmerged.hear _).engineSettle
  | _ => exact hs.new

end

end Sys2Proof.Machine
end

section
/-! PROOFS. The mute probe through every command (O19). -/

namespace Sys2Proof.Machine

section
variable {s t : State} {f : FrameRec}

theorem probeFrame_key (station : BinId) {e : Entry} (h : e.report.cls = 0) :
    (probeFrame station e).key.toNat = min 63 (e.report.ttf / 64) * 256 + station.toNat % 256 := by
  rw [probeFrame, fillKey_toNat, h]
  simp

/-- The probe of the OWN entry is a mute probe of the station. -/
theorem State.holdsProbe.isMuteProbe (h : s.holdsProbe f) (htable : s.tableOk) (hrun : s.running = true)
    (hrole : s.role = .bin) : f.isMuteProbe s.cfg.stationId := by
  obtain ⟨e, he, hbin, -, -, hcls, rfl⟩ := h
  exact ⟨e.freeze, rfl, hbin, (htable.2 e he).2 ⟨State.isBin_iff.2 ⟨hrun, hrole⟩, hbin⟩, hcls, probeFrame_key _ hcls⟩

/-- The frames in STAGE. -/
def Selector.stageFrames (sel : Selector) : List FrameRec := (sel.stage.map (fun x => x.frame)).toList

theorem State.muteOk.old (h : s.muteOk) : s.muteOld s.sel.stageFrames := fun hrun hrole hmute => by
  obtain ⟨hbuild, hstage⟩ := h hrun hrole hmute
  exact ⟨hbuild, fun x hx hcond => ⟨by simp [Selector.stageFrames, hx], hstage x hx hcond⟩⟩

theorem State.muteNew.ok {frames : List FrameRec} (h : s.muteNew frames) (htable : s.tableOk) : s.muteOk :=
  fun hrun hrole hmute => by
    obtain ⟨hbuild, hstage⟩ := h hrun hrole hmute
    exact ⟨hbuild, fun x hx hcond => (hstage x hx hcond).elim And.right fun k => k.isMuteProbe htable hrun hrole⟩

end

end Sys2Proof.Machine
end

section
open Sys2Proof Sys2Proof.Machine

/-- Settles O19: the expiry stages the due probe; building leaves none unbuilt; and in MUTE every effect keeps the frames
in STAGE probes, or builds the one of the OWN entry. -/
theorem probeTimerStagesTheProbe : Obligations.ProbeTimerStagesTheProbe := by
  refine ⟨fun s e hrun hrole hmute htimer hbuild hstage hholds howed hplaced hcls => ?_,
    fun c s t hs hclear hboundary hexec => ?_, fun c s t hs htable hclear hslots hexec => ?_⟩
  · have hprobe : s.probeEntry = some e := State.probeEntry_eq_some.2
      ⟨⟨hmute, htimer, hbuild, hstage⟩, State.ownEntry_of_holds hrun hrole hholds, howed, hplaced, hcls⟩
    obtain ⟨hselects, hnone, ⟨x, hx, hframe⟩, hmem⟩ := State.probeEntry_staged hrun hprobe
    exact ⟨_, x, exec_probeTimerExpiry_due hrun hmute htimer, hselects, hnone, hx, by rw [hframe]; rfl,
      by rw [hframe, probeFrame_key _ hcls], hmem⟩
  · obtain ⟨u, hu, hut⟩ := exec_does hexec
    have hbuilt := does_probeBuilt hu hs hclear hboundary
    rw [show t = _ from hut]
    exact hbuilt
  · obtain ⟨u, hu, hut⟩ := exec_does hexec
    have hnew := does_muteNew hu hs.old hclear hslots
    have hok := does_tableOk hu htable hclear
    rw [show t = _ from hut]
    refine ⟨hnew.ok hok, fun hrun hrole hmute f hf hfresh => ?_⟩
    rcases (hnew hrun hrole hmute).2 _ hf nofun with ⟨hold, -⟩ | ⟨e, he, hbin, howed, hplaced, hcls, hframe⟩
    · simp only [Selector.stageFrames, Option.mem_toList, Option.map_eq_some_iff] at hold
      obtain ⟨x, hx, hxf⟩ := hold
      exact absurd hxf (hfresh x hx)
    · exact ⟨e, ⟨hok.1, he, hbin⟩, howed, hplaced, hcls, congrArg FrameRec.payload hframe⟩

end
